-- ==== Sys2Proof/Word.lean ====
section
/-! DEFINITION. The index and word types of the Ekfara 4S8 (spec/00 section 4; spec/12 R173). -/

namespace Sys2Proof

abbrev Byte := BitVec 8
/-- A leg, 0 to 3. -/
abbrev LegId := Fin 4
/-- A path, 0 to 7, numbered by switch lane. -/
abbrev PathId := Fin 8
/-- A cable lane, 0 to 7. -/
abbrev Lane := Fin 8
/-- A face, 0 to 15: the S-face of path p is 2p and its C-face 2p+1. -/
abbrev FaceId := Fin 16
/-- A position of a cable lane within its leg. -/
abbrev Pos := Fin 4
/-- A slot of the reaction table within its leg. -/
abbrev SlotId := Fin 4
/-- A page of the build store: 0 CABLE, 1 PRESETS, 2 DEFAULTS, 3 OPEN. -/
abbrev PageId := Fin 4

/-- Sets as the part encodes them (R173): bit n stands for member n. -/
abbrev PosSet := BitVec 4
abbrev LegSet := BitVec 4
abbrev FaceSet := BitVec 16
/-- Bits 0, 1, 2 stand for 25G, 50G, 100G (R178). -/
abbrev RateSet := BitVec 3
/-- A 31-stage value or a set of tap stages: bit s-1 is stage s (R173). -/
abbrev Stages := BitVec 31
/-- Bit k-1 stands for error kind k; a tally names kinds 1 to 12 only (R127). -/
abbrev KindMask := BitVec 12
/-- Milliseconds since power-on, wrapping (R170). -/
abbrev Stamp := BitVec 32

end Sys2Proof
end

