-- ==== Sys2Proof/Syntax.lean ====
section
/-! DEFINITION. The commands the part takes: one constructor of `Instr` for each row of
spec/opcode_table.json, with the operands the world decides. -/

namespace Sys2Proof

/-- A rate class, counted per lane (spec/00 section 2). -/
inductive Rate where
  | r25 | r50 | r100
  deriving DecidableEq, Repr

/-- The three inputs of a leg's sideband (R135). -/
inductive WireId where
  | present | alert | wake
  deriving DecidableEq, Repr

/-- The RX half of an equaliser set (R69). -/
structure RxHalf where
  peaking : Nat
  gain    : Nat
  dfe1    : Int
  dfe2    : Int
  deriving DecidableEq, Repr

/-- What the tuning engine found when a job reached its last step (R83, R85: "the engine reports what it finds"):
an RX half, or none where a SWEEP or TRIM did not converge, and the margin measured by a TRIM or MARGIN. -/
structure Finding where
  rx     : Option RxHalf
  margin : Fin 64
  deriving DecidableEq, Repr

/-- The three bytes of a training word after its kind byte (R178). -/
structure RawWord where
  b1    : Byte
  b2    : Byte
  check : Byte
  deriving DecidableEq, Repr

/-- What begins a pending PART RESET (R171): a read of the held reply that reaches CHECK, or a write. -/
inductive ResetTrigger where
  | read | write
  deriving DecidableEq, Repr

/-- How far a command takes a monitor's report (R110): the loss or burst raises it and it is delivered in the same step, or
it is raised and its receivers have yet to take it, or the receivers take one that was raised before. -/
inductive Delivery where
  | now | raised | delivered
  deriving DecidableEq, Repr

/-- A face's monitor report, and how far the command takes it. -/
structure LaneReport where
  face     : FaceId
  delivery : Delivery
  deriving DecidableEq, Repr

/-- The commands. A request carries the TAG and the BODY of its frame; LEN, CODE and CHECK follow from them
(a frame whose LEN or CHECK is wrong is the command `frameError`). -/
inductive Instr where
  -- requests of the management port itself
  | ping (tag : Byte) (body : List Byte)
  | portStatus (tag : Byte) (body : List Byte)
  | fetchNotice (tag : Byte) (body : List Byte)
  | setNoticeMask (tag : Byte) (body : List Byte)
  | partReset (tag : Byte) (body : List Byte)
  /-- The pending PART RESET is performed; `strap` is ADDR[1:0] at its end, `pinExtends` says whether RESET_N
  went low while it was in progress (R172). -/
  | partResetExecute (trigger : ResetTrigger) (strap : BitVec 2) (pinExtends : Bool)
  -- lane steering
  | readMap (tag : Byte) (body : List Byte)
  | loadMap (tag : Byte) (body : List Byte)
  -- leg controllers
  | readLeg (tag : Byte) (body : List Byte)
  | legEnable (tag : Byte) (body : List Byte)
  | legDisable (tag : Byte) (body : List Byte)
  | legHold (tag : Byte) (body : List Byte)
  | legRelease (tag : Byte) (body : List Byte)
  | legRetrain (tag : Byte) (body : List Byte)
  | legRestoreWidth (tag : Byte) (body : List Byte)
  | legReset (tag : Byte) (body : List Byte)
  | setLegParams (tag : Byte) (body : List Byte)
  -- face settings
  | readFace (tag : Byte) (body : List Byte)
  | stageFace (tag : Byte) (body : List Byte)
  | commitFaces (tag : Byte) (body : List Byte)
  | pinFace (tag : Byte) (body : List Byte)
  | unpinFace (tag : Byte) (body : List Byte)
  -- tuning engine
  | tuneMargin (tag : Byte) (body : List Byte)
  | readTuneQueue (tag : Byte) (body : List Byte)
  | setTuneMask (tag : Byte) (body : List Byte)
  -- reaction table
  | setReaction (tag : Byte) (body : List Byte)
  | readReactions (tag : Byte) (body : List Byte)
  -- error unit
  | readLog (tag : Byte) (body : List Byte)
  | clearLog (tag : Byte) (body : List Byte)
  | setErrorKind (tag : Byte) (body : List Byte)
  | setTally (tag : Byte) (body : List Byte)
  | clearTally (tag : Byte) (body : List Byte)
  -- sideband concentrator
  | setFramePlan (tag : Byte) (body : List Byte)
  | frameControl (tag : Byte) (body : List Byte)
  | readSideband (tag : Byte) (body : List Byte)
  | clearAlert (tag : Byte) (body : List Byte)
  -- pattern test
  | testStart (tag : Byte) (body : List Byte)
  | testStop (tag : Byte) (body : List Byte)
  | testRead (tag : Byte) (body : List Byte)
  -- build store
  | storeRead (tag : Byte) (body : List Byte)
  | storeErase (tag : Byte) (body : List Byte)
  | storeWrite (tag : Byte) (body : List Byte)
  | storeLock (tag : Byte) (body : List Byte)
  /-- The running erase or write completes; `verifies` is the world's outcome (R162). -/
  | storeOperationComplete (verifies : Bool)
  -- port events
  /-- A write whose bytes (all of them, after the address) fail a frame check. -/
  | frameError (bytes : List Byte)
  | unknown (tag code : Byte) (body : List Byte)
  | writeWhileWorking
  /-- A read transaction of `count` bytes. -/
  | replyRead (count : Nat)
  -- resets of the whole part; `strap` is ADDR[1:0] at the end of the reset
  | powerOn (strap : BitVec 2)
  | pinReset (strap : BitVec 2)
  -- sideband events
  /-- The wire takes a level; `low` is the asserted level. -/
  | sidebandWireChange (leg : LegId) (wire : WireId) (low : Bool)
  | presenceRise (leg : LegId)
  | presenceFall (leg : LegId)
  | alertRise (leg : LegId)
  | alertFall (leg : LegId)
  | wakeChange (leg : LegId)
  | startRequest
  | frameStart
  | frameGoodEnd
  /-- SBL reads low in the middle of slot `slot` of the frame being sent. -/
  | sidebandCollision (slot : Nat)
  -- timers
  | holdTimerExpiry (leg : LegId)
  | trainingLimitExpiry (leg : LegId)
  | trimTimerExpiry (leg : LegId)
  | testLimitExpiry (leg : LegId)
  | announceRepeat (face : FaceId)
  -- training words from the partner of a face
  | partnerAnnounce (face : FaceId) (word : RawWord)
  | partnerAdjust (face : FaceId) (word : RawWord)
  | partnerReady (face : FaceId) (word : RawWord)
  | partnerAbort (face : FaceId) (word : RawWord)
  -- lane monitors
  | signalPresent (face : FaceId)
  | signalLost (report : LaneReport)
  | lockAcquired (face : FaceId)
  | lockLost (report : LaneReport)
  | slip (report : LaneReport)
  | slipWindowEnd (face : FaceId)
  -- tuning engine
  | tuneStepBoundary
  | jobCompletion (found : Finding)
  -- pattern checkers
  /-- Bits received by a SEEKING checker, the earliest first, up to the one with which its run reaches 64 (R152). -/
  | checkerLock (face : FaceId) (bits : List Bool)
  | comparedUnit (face : FaceId)
  | testMismatch (face : FaceId)
  | replyFormed
  /-- `matching` bits that equal their predictions, then one that does not. -/
  | bitMismatch (face : FaceId) (matching : Nat)
  deriving DecidableEq, Repr

end Sys2Proof
end

