-- ==== Sys2Proof/Config.lean ====
section
/-! DEFINITION. What an implementation fixes and what the spec leaves open: constants without a body, so that no
proof can rest on a value of them (log entries 7 and 8). -/

namespace Sys2Proof.Config

/-- The silicon revision letter of PING (R177), counted from A. -/
opaque revision : Fin 26

/-- Whether the switch pulls SBL low, for the n-th time the part looks at the line while releasing it (R147). -/
opaque switchPullsSbl : Nat → Bool

/-- How many symbols a lane at a rate class carries in one microsecond (the class names a nominal rate only). -/
opaque symbolsPerMicrosecond : Rate → Nat

end Sys2Proof.Config
end

