-- ==== Sys2Proof/Machine/State.lean ====
section
/-! DEFINITION. The state of the Ekfara 4S8, as plain data: every register, record, queue, timer and pin the spec
names, block by block (INVENTORY.md, '## State'), and the machine right after reset. -/

namespace Sys2Proof.Machine

/-! ### Lane steering (spec/01) -/

/-- A path's state (R7, R8). -/
inductive PathState where
  | unmapped | parked | benched | training | passing | testing
  deriving DecidableEq, Repr

/-- A plan entry of a cable lane that runs to a leg (section 1.2); an UNUSED entry is `none` of it. -/
structure Place where
  leg : LegId
  pos : Pos
  deriving DecidableEq, Repr

/-! ### Leg controllers (spec/02) and the training exchange (spec/03) -/

inductive LegState where
  | off | absent | held | training | active | degraded | test | failed
  deriving DecidableEq, Repr

inductive TrainCause where
  | first | loss | host | reaction | restore | testEnd
  deriving DecidableEq, Repr

inductive FailCause where
  | budget | width | rate
  deriving DecidableEq, Repr

/-- The cause of a LEG STATE notice (R19, R175): a training cause, a failure cause or one of five of its own. -/
inductive Cause where
  | train (c : TrainCause)
  | fail (c : FailCause)
  | disable | enable | presence | test | reset
  deriving DecidableEq, Repr

/-- Training status of a face (R46, R69). -/
inductive TrainStatus where
  | idle | announced | tuning | ready
  deriving DecidableEq, Repr

inductive Phase where
  | c | s
  deriving DecidableEq, Repr

/-- The training record (R46). The group, the width and the agreed rate are the leg context's; each face's status is
its face record's training status. Sets of faces hold the per-face flags; `partnerRates` is by path, for its C-face. -/
structure TrainRecord where
  attempt         : Nat
  phase           : Phase
  offered         : RateSet
  partnerRates    : Vector (Option RateSet) 8
  partnerAnnounced : FaceSet
  readySent       : FaceSet
  readyReceived   : FaceSet
  sweepOutstanding : FaceSet
  deriving DecidableEq, Repr

inductive Signal where
  | notWatched | present | lost
  deriving DecidableEq, Repr

inductive Lock where
  | notWatched | locked | unlocked
  deriving DecidableEq, Repr

inductive Source where
  | none | present | alert | wake | tallyThreshold | slipBurst | marginLow | signalLost
  deriving DecidableEq, Repr

inductive Edge where
  | rise | fall
  deriving DecidableEq, Repr

inductive EdgeMode where
  | rise | fall | either
  deriving DecidableEq, Repr

inductive Action where
  | retrain | hold | release | capture | notify
  deriving DecidableEq, Repr

/-- One entry of a capture record (R117). -/
structure CaptureEntry where
  face       : FaceId
  lastMargin : Option (Fin 64)
  signal     : Signal
  lock       : Lock
  slips      : Nat
  deriving DecidableEq, Repr

/-- A capture record (R117). -/
structure Capture where
  stamp    : Stamp
  slot     : SlotId
  source   : Source
  edge     : Option Edge
  legState : LegState
  tally    : Nat
  overflow : Bool
  entries  : List CaptureEntry
  deriving DecidableEq, Repr

/-- The leg context (R16) with the leg's three timers (remaining ms, `none` when stopped) and its training record.
The training limit is in units of 10 ms. A group of none is the empty set (R173). -/
structure Leg where
  enabled         : Bool
  state           : LegState
  configuredWidth : Nat
  currentWidth    : Nat
  minimumWidth    : Nat
  targetRate      : Rate
  agreedRate      : Option Rate
  attemptCount    : Nat
  retryBudget     : Nat
  excluded        : PosSet
  trainingCause   : TrainCause
  failureCause    : Option FailCause
  holdRequest     : Bool
  trainingLimit   : Nat
  holdMinimum     : Nat
  trimInterval    : Nat
  marginFloor     : Nat
  slipLimit       : Nat
  group           : PosSet
  capture         : Option Capture
  holdTimer       : Option Nat
  limitTimer      : Option Nat
  trimTimer       : Option Nat
  record          : Option TrainRecord
  deriving DecidableEq, Repr

/-! ### Face settings (spec/04) -/

/-- The TX half of an equaliser set; main is 48 - pre - post (R69). -/
structure TxHalf where
  pre  : Nat
  post : Nat
  deriving DecidableEq, Repr

structure EqSet where
  tx : TxHalf
  rx : RxHalf
  deriving DecidableEq, Repr

/-- A face record (R69), less the monitor view, which is the face's `Monitor`. -/
structure Face where
  active           : EqSet
  staged           : EqSet
  pending          : Bool
  swapOnCompletion : Bool
  pinned           : Bool
  lastMargin       : Option (Fin 64)
  status           : TrainStatus
  deriving DecidableEq, Repr

/-! ### Tuning engine (spec/05) -/

inductive JobKind where
  | sweep | trim | margin
  deriving DecidableEq, Repr

inductive Requester where
  | leg | settings | switch
  deriving DecidableEq, Repr

/-- A job record (R83); its class is fixed by its kind. The tag has a meaning for requester SWITCH only. -/
structure Job where
  face      : FaceId
  kind      : JobKind
  requester : Requester
  tag       : Byte
  deriving DecidableEq, Repr

structure RunningJob where
  job        : Job
  stepsDone  : Nat
  sinceStart : Nat
  cancelling : Bool
  deriving DecidableEq, Repr

/-- The suspended slot's contents. The spec gives the partial result no content: `partialHeld` says whether there is
one (log entry 18). -/
structure SuspendedJob where
  job         : Job
  stepsDone   : Nat
  partialHeld : Bool
  deriving DecidableEq, Repr

/-- The engine (R84). The queue is a table keyed by face (R86); `held` holds the cancelled jobs whose results wait for
the running job's stop, in request order (R97). -/
structure Engine where
  queue         : Vector (Option Job) 16
  running       : Option RunningJob
  suspended     : Option SuspendedJob
  held          : List Job
  urgentPointer : FaceId
  routinePointer : FaceId
  probePointer  : FaceId
  mask          : FaceSet
  deriving DecidableEq, Repr

/-! ### Lane monitors and the reaction table (spec/06) -/

/-- A lane monitor (R105); the window's remaining time is in ms. -/
structure Monitor where
  signal          : Signal
  lock            : Lock
  slips           : Nat
  windowRemaining : Nat
  windowLimit     : Nat
  burstRaised     : Bool
  deriving DecidableEq, Repr

/-- A reaction slot's record (R112). -/
structure Slot where
  source : Source
  edge   : Option EdgeMode
  action : Option Action
  fires  : Nat
  deriving DecidableEq, Repr

/-- An event handed to the reaction table (R113). -/
structure TableEvent where
  leg    : LegId
  source : Source
  edge   : Option Edge
  deriving DecidableEq, Repr

/-- What the reaction table still has to do within the present step (R114): take an event whole (`slots` is `none`), or
fire the named slots of an event whose firing waits for the leg controller. -/
structure Waiting where
  event : TableEvent
  slots : Option (List SlotId)
  deriving DecidableEq, Repr

/-! ### Error unit (spec/07) -/

inductive Severity where
  | critical | major | minor
  deriving DecidableEq, Repr

/-- The fourteen error kinds (R121), in the order of their numbers. -/
inductive ErrorKind where
  | signalLost | lockLost | slipBurst | marginLow | tuneNoConverge | trainTimeout | rateMismatch | partnerAbort
  | positionMismatch | widthReduced | legFailed | testMismatch | sidebandCollision | storeFault
  deriving DecidableEq, Repr

/-- A report to the error unit, with the fields its reporter fills as they stand when it raises it (R110, R123). -/
structure Report where
  kind     : ErrorKind
  leg      : Option LegId
  path     : Option PathId
  face     : Option FaceId
  legState : Option LegState
  attempts : Option Nat
  stamp    : Stamp
  detail   : Option Nat
  deriving DecidableEq, Repr

/-- What the reaction table and the error unit still have to do within the present step (log entries 15 and 37): whether
slots are firing, and what waits for them or for the leg controller; and whether the error unit is in the middle of a report
(a monitor's, which the leg controller is still taking, or one whose threshold event has yet to be done), and the reports
raised meanwhile, in the order in which they were raised. All are at rest between steps. -/
structure TableWork where
  firing  : Bool
  waiting : List Waiting
  held    : Bool
  reports : List Report
  deriving DecidableEq, Repr

structure KindSetting where
  enable   : Bool
  severity : Severity
  deriving DecidableEq, Repr

/-- An error record (R123); a field that is absent, or a detail of none, is `none`. -/
structure ErrorRecord where
  kind     : ErrorKind
  severity : Severity
  leg      : Option LegId
  path     : Option PathId
  face     : Option FaceId
  legState : Option LegState
  attempts : Option Nat
  stamp    : Stamp
  epoch    : Nat
  detail   : Option Nat
  deriving DecidableEq, Repr

structure Log where
  first   : Option ErrorRecord
  next    : Option ErrorRecord
  further : Nat
  deriving DecidableEq, Repr

/-- A tally record (R127). -/
structure Tally where
  value     : Nat
  overflow  : Bool
  kinds     : KindMask
  threshold : Nat
  deriving DecidableEq, Repr

structure ErrorUnit where
  settings : Vector KindSetting 14
  critical : Log
  major    : Log
  minor    : Log
  tallies  : Vector Tally 4
  deriving DecidableEq, Repr

/-! ### Sideband concentrator (spec/08) -/

/-- One input's filter (R135): the wire's level, the filtered level, and for how many microseconds the wire has not
changed (counted up to the longest filter time). -/
structure Filter where
  wireLow  : Bool
  asserted : Bool
  stable   : Nat
  deriving DecidableEq, Repr

structure LegWires where
  present    : Filter
  alert      : Filter
  wake       : Filter
  alertLatch : Bool
  deriving DecidableEq, Repr

inductive SlotPlan where
  | short | long
  deriving DecidableEq, Repr

/-- The bit time, in microseconds by name (R140). -/
inductive BitTime where
  | us1 | us2 | us4
  deriving DecidableEq, Repr

/-- The start width, in bit times by name (R140). -/
inductive StartWidth where
  | w3 | w5 | w7
  deriving DecidableEq, Repr

structure FramePlan where
  slots : SlotPlan
  bit   : BitTime
  start : StartWidth
  deriving DecidableEq, Repr

inductive FrameMode where
  | continuous | quiet
  deriving DecidableEq, Repr

inductive FrameState where
  | disabled | idle | sending | halted
  deriving DecidableEq, Repr

/-- The snapshot of a frame (R140): the plan and, for each leg, its five items (bit 0 PRESENT, 1 LINK UP, 2 ALERT,
3 WAKE, 4 DEGRADED, as R177 orders them). -/
structure Snapshot where
  plan   : FramePlan
  values : Vector (BitVec 5) 4
  deriving DecidableEq, Repr

/-- The frame engine (R142), the last-sent values and the change-pending flag (R141). `elapsed` is the time since the
frame's start and `bitPhase` the time within the gap's present bit time, both in microseconds. `shortPending` records
that an item of the SHORT plan set the flag (log entry 16). -/
structure FrameEngine where
  state         : FrameState
  plan          : FramePlan
  mode          : FrameMode
  enableRequest : Bool
  modeRequest   : FrameMode
  haltRequest   : Bool
  gap           : Nat
  startWanted   : Bool
  snapshot      : Option Snapshot
  elapsed       : Nat
  bitPhase      : Nat
  lastSent      : Vector (BitVec 5) 4
  changePending : Bool
  shortPending  : Bool
  deriving DecidableEq, Repr

/-! ### Pattern test (spec/09) -/

inductive FacesChoice where
  | c | s | both
  deriving DecidableEq, Repr

inductive TestStatus where
  | running | ended
  deriving DecidableEq, Repr

inductive TestEnd where
  | stop | limit | loss
  deriving DecidableEq, Repr

inductive CheckerState where
  | seeking | locked | lost
  deriving DecidableEq, Repr

/-- A checker (R152). `history` holds the last bits received, stage k the bit received k bits earlier; `gathered`
counts how many of its 31 stages are filled, 0 for an empty history. -/
structure Checker where
  state          : CheckerState
  units          : Nat
  mismatched     : Nat
  losses         : Nat
  history        : Stages
  gathered       : Nat
  run            : Nat
  unitBits       : Nat
  unitMismatches : Nat
  deriving DecidableEq, Repr

/-- The checker of one chosen face. A checker stands in its test's record alone: a stopped one that no record lists (at a
reset, after a discarded test or a LEG RESET, of a face not chosen) has no fields, the model's choice (log entry 46). -/
structure CheckerRecord where
  face    : FaceId
  checker : Checker
  deriving DecidableEq, Repr

/-- A test record (R149) with its test-limit timer (R154; remaining ms, `none` when stopped). -/
structure TestRecord where
  status     : TestStatus
  faces      : FacesChoice
  taps       : Stages
  seed       : Stages
  limit      : Nat
  elapsed    : Nat
  endCause   : Option TestEnd
  limitTimer : Option Nat
  checkers   : List CheckerRecord
  deriving DecidableEq, Repr

/-! ### Build store (spec/10) -/

/-- What a page's cells hold (R158): every cell erased, a record with a good check (its bytes), or anything else. -/
inductive PageContent where
  | blank
  | written (record : List Byte)
  | torn
  deriving DecidableEq, Repr

structure Page where
  content : PageContent
  locked  : Bool
  deriving DecidableEq, Repr

inductive StoreOperation where
  | idle
  | erasing (page : PageId)
  | writing (page : PageId) (record : List Byte)
  deriving DecidableEq, Repr

structure Store where
  pages     : Vector Page 4
  operation : StoreOperation
  deriving DecidableEq, Repr

/-- The start-up values of one leg (R16, R158). -/
structure LegDefaults where
  enabled       : Bool
  targetRate    : Rate
  minimumWidth  : Nat
  retryBudget   : Nat
  trainingLimit : Nat
  holdMinimum   : Nat
  trimInterval  : Nat
  marginFloor   : Nat
  slipLimit     : Nat
  deriving DecidableEq, Repr

/-- The load image (R159). -/
structure Image where
  plan      : Vector (Option Place) 8
  map       : Vector (Option Lane) 8
  presets   : Vector EqSet 16
  legs      : Vector LegDefaults 4
  framePlan : FramePlan
  mode      : FrameMode
  enable    : Bool
  deriving DecidableEq, Repr

/-! ### Management port (spec/11) -/

/-- Results of replies (section 11.3). -/
inductive Result where
  | done | accepted | none | frameError | unknown | invalid | wrongState | busy | locked | notBlank | faceBusy
  deriving DecidableEq, Repr

/-- The request in WORKING, with what its owning block hands back (R165). -/
structure Work where
  tag    : Byte
  code   : Byte
  result : Result
  body   : List Byte
  deriving DecidableEq, Repr

/-- The port's state (R165); REPLY HELD holds the reply buffer. -/
inductive PortState where
  | ready
  | working (w : Work)
  | replyHeld (reply : List Byte)
  deriving DecidableEq, Repr

/-- Where the port stands in a transaction of its two-wire bus (R164): none; one whose address comes next; one to another
address; a write to it, with the data bytes it keeps and the number of all of them; a read from it, with the reply it was
begun on where one was held (R167), the number of bytes read so far, and whether a further byte is supplied. -/
inductive Bus where
  | idle
  | awaiting
  | ignored
  | writing (kept : List Byte) (count : Nat)
  | reading (reply : Option (List Byte)) (count : Nat) (more : Bool)
  deriving DecidableEq, Repr

structure Port where
  state        : PortState
  request      : List Byte
  arrivedHeld  : Bool
  overrun      : Bool
  resetPending : Bool
  address      : BitVec 7
  deriving DecidableEq, Repr

inductive NoticeKind where
  | legState | error | jobDone | reaction | storeDone | testDone
  deriving DecidableEq, Repr

inductive JobEnd where
  | completed | displaced | cancelled
  deriving DecidableEq, Repr

inductive StoreAct where
  | erase | write
  deriving DecidableEq, Repr

/-- The notices (R168). -/
inductive Notice where
  | legState (stamp : Stamp) (leg : LegId) (old new : LegState) (cause : Cause) (width : Nat)
  | error (stamp : Stamp) (severity : Severity) (record : ErrorRecord)
  | jobDone (stamp : Stamp) (tag : Byte) (face : FaceId) (outcome : JobEnd) (margin : Option (Fin 64))
  | reaction (stamp : Stamp) (leg : LegId) (slot : SlotId) (source : Source) (edge : Option Edge) (state : LegState)
  | storeDone (stamp : Stamp) (page : PageId) (act : StoreAct) (ok : Bool)
  | testDone (stamp : Stamp) (leg : LegId) (cause : TestEnd) (elapsed : Nat) (checkers : List CheckerRecord)
  deriving DecidableEq, Repr

/-- The notice queue, mask and dropped count (R168, R169). -/
structure NoticeQueue where
  queue   : List Notice
  mask    : BitVec 6
  dropped : Nat
  deriving DecidableEq, Repr

inductive ResetCause where
  | power | pin | request
  deriving DecidableEq, Repr

/-- Stamp, epoch, reset cause (R170), and the microseconds within the present millisecond (log entry 1). -/
structure Clock where
  stamp      : Stamp
  micros     : Nat
  epoch      : Nat
  resetCause : ResetCause
  deriving DecidableEq, Repr

/-! ### Training words the part sends (spec/03 section 3.2) -/

inductive AnswerOutcome where
  | applied | atLimit | pinned
  deriving DecidableEq, Repr

inductive AbortReason where
  | reset | giveUp
  deriving DecidableEq, Repr

inductive TrainingWord where
  | announce (pos : Pos) (width : Nat) (rates : RateSet) (attempt : Nat)
  | answer (outcome : AnswerOutcome) (pre post : Nat)
  | ready
  | abort (reason : AbortReason)
  deriving DecidableEq, Repr

structure SentWord where
  face : FaceId
  word : TrainingWord
  deriving DecidableEq, Repr

/-! ### The machine -/

/-- The state of the part. `inFlight` holds the reports that have been raised and not yet taken, the earliest first: a
monitor's (R110, R134), and behind it whatever any block has raised since (R126). -/
structure State where
  map        : Vector (Option Lane) 8
  plan       : Vector (Option Place) 8
  paths      : Vector PathState 8
  legs       : Vector Leg 4
  resultOwed : FaceSet
  faces      : Vector Face 16
  monitors   : Vector Monitor 16
  engine     : Engine
  slots      : Vector (Vector Slot 4) 4
  table      : TableWork
  inFlight   : List Report
  errors     : ErrorUnit
  wires      : Vector LegWires 4
  frame      : FrameEngine
  tests      : Vector (Option TestRecord) 4
  generators : Vector (Option Stages) 16
  store      : Store
  image      : Image
  port       : Port
  bus        : Bus
  notices    : NoticeQueue
  clock      : Clock
  addrPins   : BitVec 2
  sent       : List SentWord
  readData   : List Byte
  freeCount  : Nat
  pending    : List Instr
  deriving DecidableEq, Repr

/-- Reasons the machine stops. The spec names none (INVENTORY.md, '## Faults'), so no command raises one. -/
inductive Fault where
  /-- Raised by nothing: the spec gives every command an effect in every state. Safe, since no run meets it. -/
  | none
  deriving DecidableEq, Repr

/-- Reasons a step has no meaning. -/
inductive Refusal where
  /-- Raised by an arm of `exec` whose command has no meaning yet; safe. No arm raises it at present. -/
  | notModelled (mnemonic : String)
  deriving DecidableEq, Repr

/-! ### Values after reset

The machine right after a power-on whose store pages are all BLANK (R158: a store that leaves the factory), so that
every block takes its factory values. -/

/-- The factory preset (R71). -/
def factoryPreset : EqSet := ⟨⟨2, 6⟩, ⟨8, 16, 0, 0⟩⟩

/-- The factory defaults of the leg context (R16). -/
def factoryLeg : LegDefaults := ⟨true, .r100, 1, 3, 60, 20, 10, 12, 16⟩

/-- The factory frame plan (R142). -/
def factoryPlan : FramePlan := ⟨.short, .us2, .w5⟩

/-- The default map (R4). -/
def defaultMap : Vector (Option Lane) 8 := #v[some 0, some 1, some 2, some 3, some 4, some 5, some 6, some 7]

/-- The default leg plan (R4). -/
def defaultPlan : Vector (Option Place) 8 :=
  #v[some ⟨0, 0⟩, some ⟨0, 1⟩, some ⟨1, 0⟩, some ⟨1, 1⟩, some ⟨2, 0⟩, some ⟨2, 1⟩, some ⟨3, 0⟩, some ⟨3, 1⟩]

/-- The load image of a blank store (R159). -/
def factoryImage : Image where
  plan := defaultPlan
  map := defaultMap
  presets := Vector.replicate 16 factoryPreset
  legs := Vector.replicate 4 factoryLeg
  framePlan := factoryPlan
  mode := .continuous
  enable := true

/-- The default kind settings (R121, R122). -/
def defaultSettings : Vector KindSetting 14 :=
  #v[⟨true, .major⟩, ⟨true, .major⟩, ⟨true, .minor⟩, ⟨true, .minor⟩, ⟨true, .major⟩, ⟨true, .major⟩, ⟨true, .major⟩,
     ⟨true, .minor⟩, ⟨true, .critical⟩, ⟨true, .major⟩, ⟨true, .critical⟩, ⟨true, .minor⟩, ⟨true, .minor⟩,
     ⟨true, .critical⟩]

/-- The default tally record (R127): kinds 1, 2, 3 and 5, threshold 0. -/
def defaultTally : Tally := ⟨0, false, 0x017#12, 0⟩

def emptyLog : Log := ⟨none, none, 0⟩

/-- An idle monitor (R105), with the window limit it held. R105 gives no value for the window's remaining time, for burst
raised or for the limit of an idle monitor: they are log entry 17. -/
def idleMonitor (limit : Nat) : Monitor := ⟨.notWatched, .notWatched, 0, 0, limit, false⟩

/-- A face record after a reset (R71). -/
def freshFace (preset : EqSet) : Face := ⟨preset, preset, false, false, false, none, .idle⟩

/-- A leg context after a reset (R17), before its state and its minimum width are settled. -/
def freshLeg (d : LegDefaults) (width : Nat) (st : LegState) : Leg where
  enabled := d.enabled
  state := st
  configuredWidth := width
  currentWidth := 0
  minimumWidth := if width ≥ 1 ∧ d.minimumWidth > width then width else d.minimumWidth
  targetRate := d.targetRate
  agreedRate := none
  attemptCount := 0
  retryBudget := d.retryBudget
  excluded := 0#4
  trainingCause := .first
  failureCause := none
  holdRequest := false
  trainingLimit := d.trainingLimit
  holdMinimum := d.holdMinimum
  trimInterval := d.trimInterval
  marginFloor := d.marginFloor
  slipLimit := d.slipLimit
  group := 0#4
  capture := none
  holdTimer := none
  limitTimer := none
  trimTimer := none
  record := none

/-- The engine after a reset (R104). -/
def freshEngine : Engine := ⟨Vector.replicate 16 none, none, none, [], 0, 0, 0, 0#16⟩

def emptySlot : Slot := ⟨.none, none, none, 0⟩

/-- A filter that sees a high wire after a reset (R135). -/
def freshFilter : Filter := ⟨false, false, 0⟩

/-- The machine right after reset. -/
def State.reset : State where
  map := defaultMap
  plan := defaultPlan
  paths := Vector.replicate 8 .parked
  legs := Vector.replicate 4 (freshLeg factoryLeg 2 .absent)
  resultOwed := 0#16
  faces := Vector.replicate 16 (freshFace factoryPreset)
  monitors := Vector.replicate 16 (idleMonitor 16)
  engine := freshEngine
  slots := Vector.replicate 4 (Vector.replicate 4 emptySlot)
  table := ⟨false, [], false, []⟩
  inFlight := []
  errors := ⟨defaultSettings, emptyLog, emptyLog, emptyLog, Vector.replicate 4 defaultTally⟩
  wires := Vector.replicate 4 ⟨freshFilter, freshFilter, freshFilter, false⟩
  frame := {
    state := .sending, plan := factoryPlan, mode := .continuous, enableRequest := true, modeRequest := .continuous,
    haltRequest := false, gap := 0, startWanted := false,
    snapshot := some ⟨factoryPlan, Vector.replicate 4 0#5⟩, elapsed := 0, bitPhase := 0,
    lastSent := Vector.replicate 4 0#5, changePending := false, shortPending := false }
  tests := Vector.replicate 4 none
  generators := Vector.replicate 16 none
  store := ⟨Vector.replicate 4 ⟨.blank, false⟩, .idle⟩
  image := factoryImage
  port := ⟨.ready, [], false, false, false, 0x38#7⟩
  bus := .idle
  notices := ⟨[], 0#6, 0⟩
  clock := ⟨0#32, 0, 0, .power⟩
  addrPins := 0#2
  sent := []
  readData := []
  freeCount := 0
  pending := []

end Sys2Proof.Machine
end

