-- ==== Sys2Proof/Machine/Ops.lean ====
section
/-! DEFINITION. The named operations on the parts of the state: reading and changing one leg, face, monitor, path or
queue entry; the path table's computed fields; groups and the choice of width; notices; the words the part sends. -/

namespace Sys2Proof.Machine

/-! ### Sets -/

def allLegs : List LegId := [0, 1, 2, 3]
def allPaths : List PathId := [0, 1, 2, 3, 4, 5, 6, 7]
def allFaces : List FaceId := [0, 1, 2, 3, 4, 5, 6, 7, 8, 9, 10, 11, 12, 13, 14, 15]
def allSlots : List SlotId := [0, 1, 2, 3]
def allPages : List PageId := [0, 1, 2, 3]

/-- Membership of a set kept as bits (R173). -/
def setHas {w : Nat} (s : BitVec w) (n : Nat) : Bool := s.getLsbD n

/-- A set with member `n` added. -/
def setAdd {w : Nat} (s : BitVec w) (n : Nat) : BitVec w := s ||| BitVec.ofNat w (2 ^ n)

/-- A set with member `n` taken out. -/
def setDrop {w : Nat} (s : BitVec w) (n : Nat) : BitVec w := s &&& ~~~(BitVec.ofNat w (2 ^ n))

/-- The faces of a set, in face-index order. -/
def facesOf (fs : FaceSet) : List FaceId := allFaces.filter (fun f => setHas fs f)

/-! ### Entries of tables -/

/-- One entry of a table changed. -/
def modAt {α : Type} {n : Nat} (v : Vector α n) (i : Fin n) (f : α → α) : Vector α n := v.set i (f v[i])

def State.leg (s : State) (l : LegId) : Leg := s.legs[l]
def State.face (s : State) (f : FaceId) : Face := s.faces[f]
def State.monitor (s : State) (f : FaceId) : Monitor := s.monitors[f]
def State.path (s : State) (p : PathId) : PathState := s.paths[p]
def State.wiresOf (s : State) (l : LegId) : LegWires := s.wires[l]
def State.test (s : State) (l : LegId) : Option TestRecord := s.tests[l]
def State.slot (s : State) (l : LegId) (j : SlotId) : Slot := s.slots[l][j]
def State.tally (s : State) (l : LegId) : Tally := s.errors.tallies[l]
def State.page (s : State) (p : PageId) : Page := s.store.pages[p]
def State.queued (s : State) (f : FaceId) : Option Job := s.engine.queue[f]

def State.modLeg (s : State) (l : LegId) (g : Leg → Leg) : State := { s with legs := modAt s.legs l g }
def State.modFace (s : State) (f : FaceId) (g : Face → Face) : State := { s with faces := modAt s.faces f g }
def State.modMonitor (s : State) (f : FaceId) (g : Monitor → Monitor) : State :=
  { s with monitors := modAt s.monitors f g }
def State.setPathState (s : State) (p : PathId) (st : PathState) : State :=
  { s with paths := modAt s.paths p (fun _ => st) }
def State.modWires (s : State) (l : LegId) (g : LegWires → LegWires) : State := { s with wires := modAt s.wires l g }
def State.setTest (s : State) (l : LegId) (t : Option TestRecord) : State :=
  { s with tests := modAt s.tests l (fun _ => t) }
def State.setGenerator (s : State) (f : FaceId) (g : Option Stages) : State :=
  { s with generators := modAt s.generators f (fun _ => g) }
def State.modSlot (s : State) (l : LegId) (j : SlotId) (g : Slot → Slot) : State :=
  { s with slots := modAt s.slots l (fun v => modAt v j g) }
def State.modTally (s : State) (l : LegId) (g : Tally → Tally) : State :=
  { s with errors := { s.errors with tallies := modAt s.errors.tallies l g } }
def State.modPage (s : State) (p : PageId) (g : Page → Page) : State :=
  { s with store := { s.store with pages := modAt s.store.pages p g } }
def State.setQueued (s : State) (f : FaceId) (j : Option Job) : State :=
  { s with engine := { s.engine with queue := modAt s.engine.queue f (fun _ => j) } }
def State.modEngine (s : State) (g : Engine → Engine) : State := { s with engine := g s.engine }
def State.modFrame (s : State) (g : FrameEngine → FrameEngine) : State := { s with frame := g s.frame }
def State.modPort (s : State) (g : Port → Port) : State := { s with port := g s.port }
def State.setOwed (s : State) (o : FaceSet) : State := { s with resultOwed := o }

/-- Change the training record of a leg, where it holds one. -/
def State.modRecord (s : State) (l : LegId) (g : TrainRecord → TrainRecord) : State :=
  s.modLeg l (fun x => { x with record := x.record.map g })

def State.setStatus (s : State) (f : FaceId) (st : TrainStatus) : State := s.modFace f (fun x => { x with status := st })

/-! ### The path table (R7) and the numbering of faces (section 1.1) -/

def sFace (p : PathId) : FaceId := ⟨2 * p.val, by omega⟩
def cFace (p : PathId) : FaceId := ⟨2 * p.val + 1, by omega⟩
def facePath (f : FaceId) : PathId := ⟨f.val / 2, by omega⟩
def isCFace (f : FaceId) : Bool := f.val % 2 == 1

/-- The plan entry of the cable lane a map gives a path: its leg and position, or none for an UNMAPPED path (R7). -/
def placeIn (map : Vector (Option Lane) 8) (plan : Vector (Option Place) 8) (p : PathId) : Option Place :=
  match map[p] with
  | some c => plan[c]
  | none => none

def State.place (s : State) (p : PathId) : Option Place := placeIn s.map s.plan p
def State.pathLeg (s : State) (p : PathId) : Option LegId := (s.place p).map (·.leg)
def State.pathPos (s : State) (p : PathId) : Option Pos := (s.place p).map (·.pos)
def State.faceLeg (s : State) (f : FaceId) : Option LegId := s.pathLeg (facePath f)

/-- The mapped paths of a leg under a map and a plan, in path order. -/
def pathsIn (map : Vector (Option Lane) 8) (plan : Vector (Option Place) 8) (l : LegId) : List PathId :=
  allPaths.filter (fun p => ((placeIn map plan p).map (·.leg)) == some l)

def State.legPaths (s : State) (l : LegId) : List PathId := pathsIn s.map s.plan l

/-- Both faces of each path, in face-index order for paths in order. -/
def facesOfPaths (ps : List PathId) : List FaceId := ps.flatMap (fun p => [sFace p, cFace p])

def State.legFaces (s : State) (l : LegId) : List FaceId := facesOfPaths (s.legPaths l)

/-- The paths of a leg whose positions lie in a set. -/
def State.pathsAt (s : State) (l : LegId) (g : PosSet) : List PathId :=
  (s.legPaths l).filter (fun p => (s.pathPos p).any (fun q => setHas g q))

/-- The group paths of a leg (R8, R10). -/
def State.groupPaths (s : State) (l : LegId) : List PathId := s.pathsAt l (s.leg l).group
def State.groupFaces (s : State) (l : LegId) : List FaceId := facesOfPaths (s.groupPaths l)

/-! ### Map validity (R5) and configured width (R6) -/

/-- R5: no lane named twice; each leg has 0, 1, 2 or 4 mapped paths; they hold positions 0 to w-1, each once. -/
def mapValid (map : Vector (Option Lane) 8) (plan : Vector (Option Place) 8) : Bool :=
  let lanes : List Lane := allPaths.filterMap (fun p => map[p])
  decide lanes.Nodup && allLegs.all (fun l =>
    let ps := pathsIn map plan l
    let positions : List Nat := ps.filterMap (fun p => (placeIn map plan p).map (fun q => q.pos.val))
    decide (ps.length ∈ [0, 1, 2, 4]) && decide positions.Nodup && positions.all (fun q => decide (q < ps.length)))

def widthIn (map : Vector (Option Lane) 8) (plan : Vector (Option Place) 8) (l : LegId) : Nat := (pathsIn map plan l).length

/-- The minimum width, lowered to a configured width of 1 or more that it exceeds (R14, R17, R42). -/
def clampWidth (configured minimum : Nat) : Nat :=
  if configured ≥ 1 ∧ minimum > configured then configured else minimum

/-! ### Groups and the choice of width (R10, R12) -/

/-- The aligned group of index `k` at width `w`. -/
def groupMask (w k : Nat) : PosSet := BitVec.ofNat 4 ((2 ^ w - 1) * 2 ^ (k * w))

/-- The aligned groups of width `w` in a leg of configured width `W`, in index order (R10). -/
def groupsAt (W w : Nat) : List PosSet := (List.range (W / w)).map (groupMask w)

/-- Step 1 of R12: W, W/2 and W/4, less those not whole and those below the minimum width. -/
def candidateWidths (W minimum : Nat) : List Nat :=
  ([1, 2, 4].filter (fun d => W % d == 0 && decide (W / d ≥ 1) && decide (W / d ≥ minimum))).map (W / ·)

/-- R12: the attempt's width and group, or none when no candidate width has a group free of excluded positions. -/
def selectWidth (W minimum : Nat) (excluded : PosSet) : Option (Nat × PosSet) :=
  (candidateWidths W minimum).findSome? (fun w =>
    ((groupsAt W w).find? (fun g => g &&& excluded == 0#4)).map (fun g => (w, g)))

/-! ### Rates -/

def rateIndex : Rate → Nat
  | .r25 => 0
  | .r50 => 1
  | .r100 => 2

/-- Every rate class at or below a rate (R46). -/
def ratesUpTo : Rate → RateSet
  | .r25 => 0b001#3
  | .r50 => 0b011#3
  | .r100 => 0b111#3

def rateAlone (r : Rate) : RateSet := BitVec.ofNat 3 (2 ^ rateIndex r)

/-- The highest rate class of a set (R52). -/
def highestRate (rs : RateSet) : Option Rate :=
  if setHas rs 2 then some .r100 else if setHas rs 1 then some .r50 else if setHas rs 0 then some .r25 else none

/-! ### Equaliser sets (R69) -/

def TxHalf.main (t : TxHalf) : Nat := 48 - t.pre - t.post

/-- Each field in its range, and pre plus post at most 24 (R69). -/
def EqSet.valid (e : EqSet) : Bool :=
  decide (e.tx.pre ≤ 10) && decide (e.tx.post ≤ 14) && decide (e.tx.pre + e.tx.post ≤ 24) && e.rx.peaking ≤ 15
    && decide (e.rx.gain ≤ 31) && decide (-31 ≤ e.rx.dfe1) && decide (e.rx.dfe1 ≤ 31)
    && decide (-15 ≤ e.rx.dfe2) && decide (e.rx.dfe2 ≤ 15)

/-! ### Notices (R168) and words (R178) -/

def Notice.kind : Notice → NoticeKind
  | .legState .. => .legState
  | .error .. => .error
  | .jobDone .. => .jobDone
  | .reaction .. => .reaction
  | .storeDone .. => .storeDone
  | .testDone .. => .testDone

/-- The bit of a notice kind in the mask: bit k-1 for kind k (R173, R176). -/
def noticeBit : NoticeKind → Nat
  | .legState => 0
  | .error => 1
  | .jobDone => 2
  | .reaction => 3
  | .storeDone => 4
  | .testDone => 5

/-- R168: a raised notice is discarded by the mask, dropped and counted when the queue holds 16, or queued. -/
def NoticeQueue.take (q : NoticeQueue) (n : Notice) : NoticeQueue :=
  if setHas q.mask (noticeBit n.kind) then q
  else if q.queue.length ≥ 16 then { q with dropped := min 255 (q.dropped + 1) }
  else { q with queue := q.queue ++ [n] }

def State.raiseNotice (s : State) (n : Notice) : State := { s with notices := s.notices.take n }

/-- The part sends a training word on a face. -/
def State.send (s : State) (f : FaceId) (w : TrainingWord) : State := { s with sent := s.sent ++ [⟨f, w⟩] }

def State.stamp (s : State) : Stamp := s.clock.stamp

end Sys2Proof.Machine
end

