-- ==== Sys2Proof/Machine/Patterns.lean ====
section
/-! DEFINITION. The pattern register, the bits it gives and the symbols that carry them (spec/09 R150). -/

namespace Sys2Proof.Machine

/-- The exclusive-or of all stages of a value. -/
def parity (v : Stages) : Bool := (List.range 31).foldl (fun b i => b ^^ v.getLsbD i) false

/-- A bit goes into stage 1 and the other stages move toward stage 31. -/
def shiftIn (v : Stages) (b : Bool) : Stages := (v <<< 1) ||| (if b then 1#31 else 0#31)

/-- The exclusive-or of the stages a tap set names: a generator's new bit, or a checker's prediction. -/
def feedback (taps v : Stages) : Bool := parity (v &&& taps)

/-- One bit: the register takes its own new bit (R150); the history of a LOCKED checker takes the prediction (R153). -/
def patternStep (taps v : Stages) : Stages := shiftIn v (feedback taps v)

/-- `n` bits. -/
def patternSteps (taps : Stages) : Nat → Stages → Stages
  | 0, v => v
  | n + 1, v => patternSteps taps n (patternStep taps v)

/-- The next `n` bits a register gives, in the order in which they are sent: each is the new bit of its step (R150). -/
def patternBits (taps : Stages) : Nat → Stages → List Bool
  | 0, _ => []
  | n + 1, v => feedback taps v :: patternBits taps n (patternStep taps v)

/-! ### Symbols -/

/-- A symbol of a lane: two-level at 25G, with one bit, and four-level at 50G and 100G, with two (R150). -/
inductive Symbol where
  | two (bit : Bool)
  | four (moreSignificant lessSignificant : Bool)
  deriving DecidableEq, Repr

/-- How many pattern bits a symbol carries at a rate. -/
def bitsPerSymbol : Rate → Nat
  | .r25 => 1
  | .r50 | .r100 => 2

/-- Two consecutive bits to a four-level symbol, the earlier one the more significant. -/
def pairBits : List Bool → List Symbol
  | a :: b :: rest => .four a b :: pairBits rest
  | _ => []

/-- The symbols that carry bits in the order in which they are sent. -/
def symbolsOf (r : Rate) (bits : List Bool) : List Symbol :=
  match r with
  | .r25 => bits.map Symbol.two
  | .r50 | .r100 => pairBits bits

/-- How many bits a lane carries in one microsecond: those of whole symbols (log entry 8). -/
def bitsPerMicrosecond (r : Rate) : Nat := Config.symbolsPerMicrosecond r * bitsPerSymbol r

end Sys2Proof.Machine
end

