-- ==== Sys2Proof/Machine/Codec.lean ====
section
/-! DEFINITION. Bytes: little-endian fields, absent fields, CRC-8, and the request frame and its checks
(spec/12 R173, R174; spec/11 R165). -/

namespace Sys2Proof.Machine

/-- A field of one byte. -/
def byte (n : Nat) : Byte := BitVec.ofNat 8 n

def boolByte (b : Bool) : Byte := if b then 1#8 else 0#8

/-- A field of two bytes, little-endian (R173). -/
def le16 (n : Nat) : List Byte := [byte n, byte (n / 256)]

/-- A field of four bytes, little-endian (R173). -/
def le32 (n : Nat) : List Byte := [byte n, byte (n / 256), byte (n / 65536), byte (n / 16777216)]

/-- A one-byte field that may be absent: 0xFF encodes absent (R173). -/
def orAbsent (o : Option Nat) : Byte :=
  match o with
  | some n => byte n
  | none => 0xFF#8

/-- A two-byte field that may be absent: 0xFFFF encodes absent (R173). -/
def le16OrAbsent (o : Option Nat) : List Byte :=
  match o with
  | some n => le16 n
  | none => [0xFF#8, 0xFF#8]

/-- Byte `i` of a body, as a number. A body that has passed its length check has it. -/
def byteAt (bs : List Byte) (i : Nat) : Nat := (bs.getD i 0#8).toNat

/-- The two-byte field at offset `i`. -/
def le16At (bs : List Byte) (i : Nat) : Nat := byteAt bs i + 256 * byteAt bs (i + 1)

/-- The four-byte field at offset `i`. -/
def le32At (bs : List Byte) (i : Nat) : Nat := le16At bs i + 65536 * le16At bs (i + 2)

/-- A signed byte in two's complement (R173). -/
def signedAt (bs : List Byte) (i : Nat) : Int := (bs.getD i 0#8).toInt

/-- A signed field as its byte. -/
def signedByte (n : Int) : Byte := BitVec.ofInt 8 n

/-- One bit into the CRC register: shift left, and combine with 0x07 if the bit shifted out differs from the incoming
bit (R173). -/
def crcBit (reg : Byte) (bit : Bool) : Byte :=
  let shifted := reg <<< 1
  if reg.msb != bit then shifted ^^^ 0x07#8 else shifted

/-- One byte into the CRC register, most significant bit first (R173). -/
def crcByte (reg b : Byte) : Byte :=
  [7, 6, 5, 4, 3, 2, 1, 0].foldl (fun r i => crcBit r (b.getLsbD i)) reg

/-- CRC-8 with polynomial x^8 + x^2 + x + 1, register 0 at the start, no final inversion (R173). -/
def crc8 (bs : List Byte) : Byte := bs.foldl crcByte 0#8

/-- The request frame of a TAG, CODE and BODY (R174). -/
def requestFrame (tag code : Byte) (body : List Byte) : List Byte :=
  let covered := byte body.length :: tag :: code :: body
  covered ++ [crc8 covered]

/-- The three frame checks of R165 on the bytes of a write: LEN is 0-128, the write carried exactly LEN + 4 bytes, and
CHECK is the CRC-8 of the bytes from LEN through the last BODY byte. -/
def frameOk (bytes : List Byte) : Bool :=
  let len := byteAt bytes 0
  decide (len ≤ 128) && decide (bytes.length = len + 4)
    && (bytes.getD (len + 3) 0#8 == crc8 (bytes.take (len + 3)))

/-- How many bytes of a write the port keeps (R164). -/
def keptBytes : Nat := 132

/-- The request codes (R174), all that name a request. -/
def requestCodes : List Nat :=
  [0x01, 0x02, 0x03, 0x04, 0x05, 0x10, 0x11, 0x20, 0x21, 0x22, 0x23, 0x24, 0x25, 0x26, 0x27, 0x28,
   0x30, 0x31, 0x32, 0x33, 0x34, 0x40, 0x41, 0x42, 0x48, 0x49, 0x50, 0x51, 0x52, 0x53, 0x54,
   0x58, 0x59, 0x5A, 0x5B, 0x60, 0x61, 0x62, 0x68, 0x69, 0x6A, 0x6B]

end Sys2Proof.Machine
end

