-- ==== Sys2Proof/Machine/Flags.lean ====
section
/-! DEFINITION. The flags and levels computed from the state: the slot values and the change-pending flag
(spec/08 R139, R141, R146), the output pins HOLD_N, ATTN_N and SBL, and the reply's FLAGS (spec/11 R167). -/

namespace Sys2Proof.Machine

/-! ### Slot values (R139) -/

def isLinked (st : LegState) : Bool := st == .active || st == .degraded

/-- The current values of a leg's five items: bit 0 PRESENT, 1 LINK UP, 2 ALERT, 3 WAKE, 4 DEGRADED (R139, R177). -/
def State.slotValues (s : State) (l : LegId) : BitVec 5 :=
  let w := s.wiresOf l
  let st := (s.leg l).state
  BitVec.ofNat 5 (w.present.asserted.toNat + 2 * (isLinked st).toNat + 4 * w.alertLatch.toNat
    + 8 * w.wake.asserted.toNat + 16 * (st == LegState.degraded).toNat)

/-- The items a slot plan carries (R139). -/
def planItems : SlotPlan → BitVec 5
  | .short => 0b00111#5
  | .long => 0b11111#5

def itemsPerLeg : SlotPlan → Nat
  | .short => 3
  | .long => 5

def slotCount (p : SlotPlan) : Nat := 4 * itemsPerLeg p

/-- Whether some current value of a slot of the plan differs from its last-sent value (R141). -/
def State.differs (s : State) (p : SlotPlan) : Bool :=
  allLegs.any (fun l => ((s.slotValues l ^^^ s.frame.lastSent[l]) &&& planItems p) != 0#5)

/-! ### Frame starts and the change-pending flag (R141, R143) -/

/-- A frame starts (R140, R143): the snapshot is taken, start wanted becomes no and the engine is SENDING. The gap remaining of
an engine that is not in IDLE is log entry 40. -/
def State.startFrame (s : State) : State :=
  let values := #v[s.slotValues 0, s.slotValues 1, s.slotValues 2, s.slotValues 3]
  s.modFrame (fun x => { x with
    state := .sending
    startWanted := false
    snapshot := some ⟨x.plan, values⟩
    elapsed := 0
    gap := 0
    bitPhase := 0 })

/-- Whether something calls for a frame in IDLE (R143). -/
def FrameEngine.callsForFrame (x : FrameEngine) : Bool :=
  x.state == .idle && (x.mode == .continuous || x.changePending || x.startWanted)

/-- R143: a frame starts from IDLE at the first moment at which the gap is over and something calls for one. -/
def State.startIfDue (s : State) : State := if s.frame.callsForFrame && s.frame.gap == 0 then s.startFrame else s

/-- R141: the change-pending flag becomes set when a current value of a slot of the plan in force differs from its
last-sent value. -/
def State.markChanges (s : State) : State :=
  s.modFrame (fun x => { x with
    changePending := x.changePending || s.differs x.plan.slots
    shortPending := x.shortPending || s.differs .short })

/-- A slot value change: the flag is judged (R141), and a frame that it calls for starts at once (R143). Values that one
event changes together are judged together (log entry 36). -/
def State.judge (s : State) : State := s.markChanges.startIfDue

/-- R141: the flag at a good frame end, once the last-sent values are written: set exactly where a difference remains. -/
def State.judgeGoodEnd (s : State) : State :=
  s.modFrame (fun x => { x with changePending := s.differs x.plan.slots, shortPending := s.differs .short })

/-- R146: the flag at a plan change, judged over the new plan (already in force): to LONG it can only become set; to
SHORT it stays as the SHORT items left or leave it. -/
def State.judgePlan (s : State) : State :=
  s.modFrame (fun x => { x with
    changePending := s.differs x.plan.slots
      || (x.changePending && (x.plan.slots == .long || x.shortPending))
    shortPending := x.shortPending || s.differs .short })

/-- A leg changes state; its LINK UP and DEGRADED slot values follow at the same change (R139). -/
def State.setLegState (s : State) (l : LegId) (st : LegState) : State :=
  (s.modLeg l (fun x => { x with state := st })).judge

/-- The leg's alert latch changes (R137). The event that changes it has its ALERT slot value judged (R139). -/
def State.setLatch (s : State) (l : LegId) (b : Bool) : State := s.modWires l (fun w => { w with alertLatch := b })

/-! ### Frames on SBL (R140) -/

def bitMicros : BitTime → Nat
  | .us1 => 1
  | .us2 => 2
  | .us4 => 4

def startBits : StartWidth → Nat
  | .w3 => 3
  | .w5 => 5
  | .w7 => 7

/-- A frame's length in bit times: the start width, the slots and 2 for the stop (R140). -/
def frameBits (p : FramePlan) : Nat := startBits p.start + slotCount p.slots + 2

def frameMicros (p : FramePlan) : Nat := frameBits p * bitMicros p.bit

/-- The value of slot `n` of a frame, in the order R139 gives. -/
def Snapshot.slot (x : Snapshot) (n : Nat) : Bool :=
  let k := itemsPerLeg x.plan.slots
  if h : n / k < 4 then setHas (x.values[n / k]) (n % k) else false

/-- Whether the part pulls SBL low (R140): in a frame's start pulse and asserted slots. -/
def State.pullsSbl (s : State) : Bool :=
  match s.frame.state, s.frame.snapshot with
  | .sending, some x =>
    let bit := s.frame.elapsed / bitMicros x.plan.bit
    let start := startBits x.plan.start
    if bit < start then true
    else if bit < start + slotCount x.plan.slots then x.slot (bit - start)
    else false
  | _, _ => false

/-- R142: the requests are sampled: off gives DISABLED, halt set gives HALTED, otherwise the mode request becomes the
mode. Each entry to DISABLED or HALTED makes start wanted no. -/
def FrameEngine.sample (x : FrameEngine) : FrameEngine :=
  if !x.enableRequest then { x with state := .disabled, startWanted := false, snapshot := none }
  else if x.haltRequest then { x with state := .halted, startWanted := false, snapshot := none }
  else { x with mode := x.modeRequest }

/-- R142: an end of a frame, good or abandoned: the requests are sampled, and an engine that goes on is IDLE with a gap
of 8 bit times; in DISABLED and HALTED the gap has no meaning (log entry 40). -/
def FrameEngine.endFrame (x : FrameEngine) : FrameEngine :=
  { x with state := .idle, gap := 8, bitPhase := 0, elapsed := 0, snapshot := none }.sample

/-! ### Output pins -/

/-- HOLD_N is asserted exactly while the leg is in HELD (R138). -/
def State.holdAsserted (s : State) (l : LegId) : Bool := (s.leg l).state == .held

/-- ATTN_N is low while the notice queue holds anything (R168). -/
def State.attnLow (s : State) : Bool := !s.notices.queue.isEmpty

/-! ### Reply FLAGS (R167) -/

/-- Bit 0 OVERRUN, bit 1 NOTICE WAITING, bit 2 DROPPED NONZERO (R174), as they stand. -/
def State.replyFlags (s : State) : Byte :=
  byte (s.port.overrun.toNat + 2 * (!s.notices.queue.isEmpty).toNat + 4 * (decide (s.notices.dropped > 0)).toNat)

end Sys2Proof.Machine
end

