-- ==== Sys2Proof/Machine/Faces.lean ====
section
/-! DEFINITION. Face Settings' shared operations: the swap and the settle points (spec/04 R76, R77), the monitors' start
and stop (spec/06 R105, R106), and a path's change of state with the settle point it may be (spec/01 R8, R9). -/

namespace Sys2Proof.Machine

/-- R95: an engine write or a swap reached the face's RX half, so a MARGIN of the face that is suspended starts its
count over and its partial result is discarded. -/
def State.restartSuspended (s : State) (f : FaceId) : State :=
  s.modEngine (fun e => { e with suspended := e.suspended.map (fun x =>
    if x.job.face = f then { x with stepsDone := 0, partialHeld := false } else x) })

/-- R77: the swap, as one change. -/
def Face.swap (x : Face) : Face :=
  { x with active := x.staged, pending := false, swapOnCompletion := false, lastMargin := none }

/-- A swap of a face (R77), with its effect on a suspended MARGIN (R95). -/
def State.swapFace (s : State) (f : FaceId) : State := (s.modFace f Face.swap).restartSuspended f

/-- R76: a settle point of a face: the swap, if the face is pending. -/
def State.settleFace (s : State) (f : FaceId) : State := if (s.face f).pending then s.swapFace f else s

/-! ### Monitors -/

def watchedState : PathState → Bool
  | .training | .passing | .testing => true
  | .unmapped | .parked | .benched => false

/-- R105: the path enters an idle state, and the monitor stops. -/
def Monitor.stop (m : Monitor) : Monitor := idleMonitor m.windowLimit

/-- R106: a start, with the slip limit of the path's leg as window limit. -/
def Monitor.start (limit : Nat) : Monitor := ⟨.lost, .unlocked, 0, 100, limit, false⟩

/-- R106: the face enters TUNING, and lock becomes UNLOCKED without a report. -/
def Monitor.unlock (m : Monitor) : Monitor := { m with lock := .unlocked }

def State.stopMonitors (s : State) (p : PathId) : State :=
  (s.modMonitor (sFace p) Monitor.stop).modMonitor (cFace p) Monitor.stop

def State.startMonitors (s : State) (p : PathId) (limit : Nat) : State :=
  (s.modMonitor (sFace p) (fun _ => Monitor.start limit)).modMonitor (cFace p) (fun _ => Monitor.start limit)

/-! ### A path's change of state -/

def isQuietState (st : PathState) : Bool := st == .parked || st == .benched

/-- A path is set to a state (R8). Setting it to the state it has is no entry. An entry to an idle state stops its
monitors (R105); an entry to PARKED or BENCHED is a settle point for both its faces (R9). -/
def State.setPath (s : State) (p : PathId) (st : PathState) : State :=
  if s.path p = st then s
  else
    let s := s.setPathState p st
    let s := if watchedState st then s else s.stopMonitors p
    if isQuietState st then (s.settleFace (sFace p)).settleFace (cFace p) else s

def State.setPaths (s : State) (ps : List PathId) (st : PathState) : State := ps.foldl (fun s p => s.setPath p st) s

/-- Every mapped path of a leg becomes PARKED (R8). -/
def State.parkLeg (s : State) (l : LegId) : State := s.setPaths (s.legPaths l) .parked

end Sys2Proof.Machine
end

