-- ==== Sys2Proof/Machine/Errors.lean ====
section
/-! DEFINITION. The error unit (spec/07): reports, the log, the tally and its threshold; and what of the reaction table
(spec/06 R113 to R118) a report can reach while a leg controller is in the middle of taking an event. -/

namespace Sys2Proof.Machine

/-- The number of an error kind, less one (R121). -/
def kindIndex : ErrorKind → Fin 14
  | .signalLost => 0
  | .lockLost => 1
  | .slipBurst => 2
  | .marginLow => 3
  | .tuneNoConverge => 4
  | .trainTimeout => 5
  | .rateMismatch => 6
  | .partnerAbort => 7
  | .positionMismatch => 8
  | .widthReduced => 9
  | .legFailed => 10
  | .testMismatch => 11
  | .sidebandCollision => 12
  | .storeFault => 13

/-- A report of face scope (R123): the face, its path, and the path's leg with its state and attempt count. -/
def State.faceReport (s : State) (k : ErrorKind) (f : FaceId) (detail : Option Nat) : Report :=
  let l := s.faceLeg f
  ⟨k, l, some (facePath f), some f, l.map (fun l => (s.leg l).state), l.map (fun l => (s.leg l).attemptCount),
   s.stamp, detail⟩

/-- A report of leg scope (R123). -/
def State.legReport (s : State) (k : ErrorKind) (l : LegId) (detail : Option Nat) : Report :=
  ⟨k, some l, none, none, some (s.leg l).state, some (s.leg l).attemptCount, s.stamp, detail⟩

/-- A report of part scope (R123). -/
def State.partReport (s : State) (k : ErrorKind) (detail : Option Nat) : Report :=
  ⟨k, none, none, none, none, none, s.stamp, detail⟩

/-- The error record: the report with the severity and the epoch as they are when it is taken (R123). -/
def Report.toRecord (r : Report) (sev : Severity) (epoch : Nat) : ErrorRecord :=
  ⟨r.kind, sev, r.leg, r.path, r.face, r.legState, r.attempts, r.stamp, epoch, r.detail⟩

def ErrorUnit.log (e : ErrorUnit) : Severity → Log
  | .critical => e.critical
  | .major => e.major
  | .minor => e.minor

def ErrorUnit.setLog (e : ErrorUnit) (sev : Severity) (g : Log) : ErrorUnit :=
  match sev with
  | .critical => { e with critical := g }
  | .major => { e with major := g }
  | .minor => { e with minor := g }

/-- R124: the first record takes the first error, the next record the latest one after it, and the further count grows. -/
def Log.add (g : Log) (r : ErrorRecord) : Log :=
  match g.first with
  | none => { g with first := some r }
  | some _ => { g with next := some r, further := min 255 (g.further + 1) }

/-- R127: an increment; at 255 it sets the overflow flag instead. -/
def Tally.increment (t : Tally) : Tally :=
  if t.value < 255 then { t with value := t.value + 1 } else { t with overflow := true }

/-- R128: whether an increment takes the value from one below the threshold to the threshold. -/
def Tally.reaches (t : Tally) : Bool := decide (t.value < 255) && t.value + 1 == t.threshold

def State.logReport (s : State) (r : ErrorRecord) : State :=
  { s with errors := s.errors.setLog r.severity ((s.errors.log r.severity).add r) }

/-- R125: the ERROR notice of a report that fills the first record of CRITICAL or MAJOR. -/
def State.errorNotice (s : State) (before : State) (r : ErrorRecord) : State :=
  if (before.errors.log r.severity).first.isNone && r.severity != .minor
  then s.raiseNotice (.error s.stamp r.severity r)
  else s

/-- R126: the error unit takes a report: it looks up the kind setting, logs the report and raises the ERROR notice,
and tallies it. The answer beside the state is the leg whose tally reached its threshold, if one did (R128). -/
def State.takeReport (s : State) (r : Report) : State × Option LegId :=
  let setting := s.errors.settings[kindIndex r.kind]
  if !setting.enable then (s, none)
  else
    let rec' := r.toRecord setting.severity s.clock.epoch
    let s1 := (s.logReport rec').errorNotice s rec'
    match r.leg with
    | none => (s1, none)
    | some l =>
      let t := s1.tally l
      if setHas t.kinds (kindIndex r.kind).val
      then (s1.modTally l Tally.increment, if t.reaches then some l else none)
      else (s1, none)

/-! ### Reaction slots -/

def edgeMatches (m : EdgeMode) (e : Edge) : Bool :=
  match m, e with
  | .either, _ => true
  | .rise, .rise => true
  | .fall, .fall => true
  | .rise, .fall => false
  | .fall, .rise => false

/-- R113: whether an event matches a slot. -/
def Slot.matchesEvent (x : Slot) (ev : TableEvent) : Bool :=
  x.source != .none && x.source == ev.source &&
    (match ev.edge with
     | none => true
     | some e => x.edge.any (fun m => edgeMatches m e))

/-- R114: the slots of the event's leg that it matches, in slot order. -/
def State.matchingSlots (s : State) (ev : TableEvent) : List SlotId :=
  allSlots.filter (fun j => (s.slot ev.leg j).matchesEvent ev)

/-- R114 step 1: the fire count increases by one, saturating at 255. -/
def State.countFire (s : State) (l : LegId) (j : SlotId) : State :=
  s.modSlot l j (fun x => { x with fires := min 255 (x.fires + 1) })

/-- R117: the CAPTURE action. -/
def State.captureLeg (s : State) (ev : TableEvent) (j : SlotId) : State :=
  let l := ev.leg
  let t := s.tally l
  let entries := (s.legFaces l).map (fun f =>
    let m := s.monitor f
    CaptureEntry.mk f (s.face f).lastMargin m.signal m.lock m.slips)
  s.modLeg l (fun x =>
    { x with capture := some ⟨s.stamp, j, ev.source, ev.edge, x.state, t.value, t.overflow, entries⟩ })

/-- R118: the NOTIFY action. -/
def State.notifySlot (s : State) (ev : TableEvent) (j : SlotId) : State :=
  s.raiseNotice (.reaction s.stamp ev.leg j ev.source ev.edge (s.leg ev.leg).state)

/-- Whether a slot's action reaches the leg controller (R114). -/
def Slot.actsOnLeg (x : Slot) : Bool :=
  x.action == some .retrain || x.action == some .hold || x.action == some .release

/-- A slot whose action does not reach the leg controller fires (R114, R117, R118). -/
def State.fireOwn (s : State) (ev : TableEvent) (j : SlotId) : State :=
  let s1 := s.countFire ev.leg j
  match (s.slot ev.leg j).action with
  | some .capture => s1.captureLeg ev j
  | some .notify => s1.notifySlot ev j
  | _ => s1

def State.await (s : State) (w : Waiting) : State :=
  { s with table := { s.table with waiting := s.table.waiting ++ [w] } }

/-- The error unit begins a report that it cannot finish yet: the next ones wait (R126). -/
def State.holdReports (s : State) : State := { s with table := { s.table with held := true } }

/-- A report waits for the one the error unit is in the middle of (R126). -/
def State.queueReport (s : State) (r : Report) : State :=
  { s with table := { s.table with reports := s.table.reports ++ [r] } }

def thresholdEvent (l : LegId) : TableEvent := ⟨l, .tallyThreshold, none⟩

/-- The table takes a TALLY THRESHOLD that was raised while the leg controller of its leg is in the middle of taking another
event (R114). While a slot's action is being performed the event waits whole. Otherwise the slots fire in order up to the
first whose action reaches the leg controller; that one and the later ones wait until the leg controller has finished, and
with them the error unit, whose report the event is part of (R126, R128). -/
def State.tableMid (s : State) (l : LegId) : State :=
  let ev := thresholdEvent l
  if s.table.firing then (s.await ⟨ev, none⟩).holdReports
  else
    let js := s.matchingSlots ev
    let now := js.takeWhile (fun j => !(s.slot l j).actsOnLeg)
    let later := js.dropWhile (fun j => !(s.slot l j).actsOnLeg)
    let s1 := now.foldl (fun s j => s.fireOwn ev j) s
    if later.isEmpty then s1 else (s1.await ⟨ev, some later⟩).holdReports

/-- A report is raised and waits behind the earlier ones (R126). -/
def State.raiseReport (s : State) (r : Report) : State := { s with inFlight := s.inFlight ++ [r] }

/-- A report made by a leg controller, or by the training exchange under it, in the middle of its taking. It waits behind a
report that was raised earlier and has not been taken (R126; log entry 38). -/
def State.reportMid (s : State) (r : Report) : State :=
  if !s.inFlight.isEmpty then s.raiseReport r
  else if s.table.held then s.queueReport r
  else
    let (s1, reached) := s.takeReport r
    match reached with
    | some l => s1.tableMid l
    | none => s1

end Sys2Proof.Machine
end

