-- ==== Sys2Proof/Machine/Jobs.lean ====
section
/-! DEFINITION. Tuning jobs: their steps and classes, the end of a job that did not complete, and cancellation
(spec/05 R83, R90, R96, R97, R102). -/

namespace Sys2Proof.Machine

/-- The number of steps of a job (R83). -/
def jobSteps : JobKind → Nat
  | .sweep => 24
  | .trim => 4
  | .margin => 32

/-- The resume grace, in steps (R94). -/
def graceSteps : Nat := 4

/-- R102: the JOB DONE notice of a SWITCH job when it ends; jobs of other requesters have none. -/
def State.jobNotice (s : State) (j : Job) (outcome : JobEnd) (margin : Option (Fin 64)) : State :=
  if j.requester = .switch then s.raiseNotice (.jobDone s.stamp j.tag j.face outcome margin) else s

/-- Whether a job's result goes to the leg controller as a SWEEP result (R57). -/
def Job.isLegSweep (j : Job) : Bool := j.kind == .sweep && j.requester == .leg

/-- R47, R57: a CANCELLED SWEEP result of a face: the result-owed flag, if set, is cleared; the result is discarded. -/
def State.clearOwed (s : State) (f : FaceId) : State := s.setOwed (setDrop s.resultOwed f.val)

/-- A job ends CANCELLED and its result is handed over: a SWEEP result to the leg controller, a JOB DONE notice for a
SWITCH job; no other requester acts on one (R90, R96, R99). -/
def State.handCancelled (s : State) (j : Job) : State :=
  if j.isLegSweep then s.clearOwed j.face else s.jobNotice j .cancelled none

/-- R90: a pending job replaced by a request of a higher class ends DISPLACED; only a SWITCH job's end is reported. -/
def State.handDisplaced (s : State) (j : Job) : State := s.jobNotice j .displaced none

def State.runningOn (s : State) (f : FaceId) : Bool :=
  match s.engine.running with
  | some r => r.job.face == f
  | none => false

def State.suspendedOn (s : State) (f : FaceId) : Bool :=
  match s.engine.suspended with
  | some x => x.job.face == f
  | none => false

/-- R96: the suspended job of the face is discarded and ends CANCELLED at once. -/
def State.cancelSuspended (s : State) (f : FaceId) : State :=
  match s.engine.suspended with
  | some x =>
    if x.job.face = f then (s.modEngine (fun e => { e with suspended := none })).handCancelled x.job else s
  | none => s

/-- R96, R97: the pending job of the face is removed; its result waits while the face has a job in the running slot. -/
def State.cancelPending (s : State) (f : FaceId) : State :=
  match s.queued f with
  | some j =>
    let s1 := s.setQueued f none
    if s.runningOn f then s1.modEngine (fun e => { e with held := e.held ++ [j] }) else s1.handCancelled j
  | none => s

/-- R96: the running job of the face gets the cancelling mark. -/
def State.cancelRunning (s : State) (f : FaceId) : State :=
  s.modEngine (fun e => { e with running := e.running.map (fun r =>
    if r.job.face = f then { r with cancelling := true } else r) })

/-- R96 for one face. The results of a face come in the order of the requests (R97), so the suspended MARGIN, which was
requested before any pending job of the face, comes first. -/
def State.cancelFace (s : State) (f : FaceId) : State := ((s.cancelSuspended f).cancelPending f).cancelRunning f

/-- R96: a leg controller asks for cancellation by naming faces. -/
def State.cancelFaces (s : State) (fs : List FaceId) : State := fs.foldl (fun s f => s.cancelFace f) s

/-- R97: the results handed over at the running job's stop, in order. Where more than one SWEEP of requester LEG ends
CANCELLED they are answered by one result; clearing a flag that is clear already changes nothing. -/
def State.handHeld (s : State) : State :=
  let js := s.engine.held
  js.foldl (fun s j => s.handCancelled j) (s.modEngine (fun e => { e with held := [] }))

end Sys2Proof.Machine
end

