-- ==== Sys2Proof/Machine/Records.lean ====
section
/-! DEFINITION. The encodings of fields, records and reply bodies (spec/12 R175 to R177) and of the training words the
part sends (R178). -/

namespace Sys2Proof.Machine

/-! ### Codes (R175) -/

def legStateCode : LegState → Nat
  | .off => 0
  | .absent => 1
  | .held => 2
  | .training => 3
  | .active => 4
  | .degraded => 5
  | .test => 6
  | .failed => 7

def pathStateCode : PathState → Nat
  | .unmapped => 0
  | .parked => 1
  | .benched => 2
  | .training => 3
  | .passing => 4
  | .testing => 5

def trainCauseCode : TrainCause → Nat
  | .first => 0
  | .loss => 1
  | .host => 2
  | .reaction => 3
  | .restore => 4
  | .testEnd => 5

def failCauseCode : FailCause → Nat
  | .budget => 11
  | .width => 12
  | .rate => 13

def causeCode : Cause → Nat
  | .train c => trainCauseCode c
  | .fail c => failCauseCode c
  | .disable => 6
  | .enable => 7
  | .presence => 8
  | .test => 9
  | .reset => 10

def severityCode : Severity → Nat
  | .critical => 0
  | .major => 1
  | .minor => 2

def statusCode : TrainStatus → Nat
  | .idle => 0
  | .announced => 1
  | .tuning => 2
  | .ready => 3

def sourceCode : Source → Nat
  | .none => 0
  | .present => 1
  | .alert => 2
  | .wake => 3
  | .tallyThreshold => 4
  | .slipBurst => 5
  | .marginLow => 6
  | .signalLost => 7

def edgeCode : Edge → Nat
  | .rise => 0
  | .fall => 1

def edgeModeCode : EdgeMode → Nat
  | .rise => 0
  | .fall => 1
  | .either => 2

def actionCode : Action → Nat
  | .retrain => 0
  | .hold => 1
  | .release => 2
  | .capture => 3
  | .notify => 4

/-- The number of an error kind (R121). -/
def kindNumber (k : ErrorKind) : Nat := (kindIndex k).val + 1

def slotPlanCode : SlotPlan → Nat
  | .short => 0
  | .long => 1

def bitTimeCode : BitTime → Nat
  | .us1 => 0
  | .us2 => 1
  | .us4 => 2

def startWidthCode : StartWidth → Nat
  | .w3 => 0
  | .w5 => 1
  | .w7 => 2

def modeCode : FrameMode → Nat
  | .continuous => 0
  | .quiet => 1

def frameStateCode : FrameState → Nat
  | .disabled => 0
  | .idle => 1
  | .sending => 2
  | .halted => 3

def jobKindCode : JobKind → Nat
  | .sweep => 0
  | .trim => 1
  | .margin => 2

def requesterCode : Requester → Nat
  | .leg => 0
  | .settings => 1
  | .switch => 2

def facesChoiceCode : FacesChoice → Nat
  | .c => 0
  | .s => 1
  | .both => 2

def testStatusCode : TestStatus → Nat
  | .running => 0
  | .ended => 1

def testEndCode : TestEnd → Nat
  | .stop => 0
  | .limit => 1
  | .loss => 2

def checkerStateCode : CheckerState → Nat
  | .seeking => 0
  | .locked => 1
  | .lost => 2

def pageStateCode : PageContent → Nat
  | .blank => 0
  | .written _ => 1
  | .torn => 2

def resetCauseCode : ResetCause → Nat
  | .power => 0
  | .pin => 1
  | .request => 2

/-- The result codes (R174). -/
def resultCode : Result → Byte
  | .done => 0x00#8
  | .accepted => 0x01#8
  | .none => 0x02#8
  | .frameError => 0x10#8
  | .unknown => 0x11#8
  | .invalid => 0x12#8
  | .wrongState => 0x13#8
  | .busy => 0x14#8
  | .locked => 0x15#8
  | .notBlank => 0x16#8
  | .faceBusy => 0x17#8

/-- The codes of a monitor's signal and lock (R176). -/
def signalCode : Signal → Nat
  | .notWatched => 0
  | .present => 1
  | .lost => 2

def lockCode : Lock → Nat
  | .notWatched => 0
  | .locked => 1
  | .unlocked => 2

def noticeNumber (k : NoticeKind) : Nat := noticeBit k + 1

def jobEndCode : JobEnd → Nat
  | .completed => 0
  | .displaced => 1
  | .cancelled => 2

def storeActCode : StoreAct → Nat
  | .erase => 0
  | .write => 1

/-- A set of positions or of legs in one byte (R173). -/
def setByte {w : Nat} (s : BitVec w) : Byte := s.setWidth 8

/-- A stage value or tap set in four bytes (R173). -/
def stageBytes (v : Stages) : List Byte := le32 v.toNat

/-! ### Records (R176) -/

/-- The error record, 14 bytes. -/
def ErrorRecord.bytes (r : ErrorRecord) : List Byte :=
  [byte (kindNumber r.kind), byte (severityCode r.severity), orAbsent (r.leg.map (·.val)),
   orAbsent (r.path.map (·.val)), orAbsent (r.face.map (·.val)), orAbsent (r.legState.map legStateCode),
   orAbsent r.attempts] ++ le32 r.stamp.toNat ++ [byte r.epoch] ++ le16OrAbsent r.detail

/-- An error record or, in its place, 14 bytes of 0xFF (R177). -/
def recordBytes (r : Option ErrorRecord) : List Byte :=
  match r with
  | some r => r.bytes
  | none => List.replicate 14 0xFF#8

/-- One entry of TEST DONE and TEST READ, 11 bytes. -/
def CheckerRecord.bytes (c : CheckerRecord) : List Byte :=
  [byte c.face.val, byte (checkerStateCode c.checker.state)] ++ le32 c.checker.units ++ le32 c.checker.mismatched
    ++ [byte c.checker.losses]

/-- The checkers as a face count and their entries. -/
def checkerBytes (cs : List CheckerRecord) : List Byte := byte cs.length :: cs.flatMap CheckerRecord.bytes

def edgeByte (e : Option Edge) : Byte := orAbsent (e.map edgeCode)

/-- The notice record. -/
def Notice.bytes (n : Notice) : List Byte :=
  let head (st : Stamp) : List Byte := byte (noticeNumber n.kind) :: le32 st.toNat
  match n with
  | .legState st l old new cause width =>
    head st ++ [byte l.val, byte (legStateCode old), byte (legStateCode new), byte (causeCode cause), byte width]
  | .error st sev r => head st ++ byte (severityCode sev) :: r.bytes
  | .jobDone st tag f outcome margin =>
    head st ++ [tag, byte f.val, byte (jobKindCode .margin), byte (jobEndCode outcome), orAbsent (margin.map (·.val))]
  | .reaction st l j src e state =>
    head st ++ [byte l.val, byte j.val, byte (sourceCode src), edgeByte e, byte (legStateCode state)]
  | .storeDone st p act ok => head st ++ [byte p.val, byte (storeActCode act), boolByte (!ok)]
  | .testDone st l cause elapsed cs =>
    head st ++ [byte l.val, byte (testEndCode cause)] ++ le32 elapsed ++ checkerBytes cs

/-- The TX and RX fields of a set without main: pre, post, peaking, gain, dfe1, dfe2. -/
def EqSet.bytes (e : EqSet) : List Byte :=
  [byte e.tx.pre, byte e.tx.post, byte e.rx.peaking, byte e.rx.gain, signedByte e.rx.dfe1, signedByte e.rx.dfe2]

/-- The seven fields of a set as the face record shows it, main included. -/
def EqSet.shown (e : EqSet) : List Byte :=
  [byte e.tx.pre, byte e.tx.post, byte e.tx.main, byte e.rx.peaking, byte e.rx.gain, signedByte e.rx.dfe1,
   signedByte e.rx.dfe2]

/-- The face record body, 24 bytes. -/
def State.faceBytes (s : State) (f : FaceId) : List Byte :=
  let x := s.face f
  let m := s.monitor f
  x.active.shown ++ x.staged.shown
    ++ [byte (x.pending.toNat + 2 * x.swapOnCompletion.toNat + 4 * x.pinned.toNat),
        orAbsent (x.lastMargin.map (·.val)), byte (statusCode x.status), byte (signalCode m.signal),
        byte (lockCode m.lock)]
    ++ le16 m.slips ++ [byte (facePath f).val, boolByte (isCFace f), byte (pathStateCode (s.path (facePath f)))]

/-- The leg record body, 29 bytes. A timer that does not run has 0 ms remaining (log entry 19). -/
def State.legBytes (s : State) (l : LegId) : List Byte :=
  let x := s.leg l
  let timers := x.holdTimer.isSome.toNat + 2 * x.limitTimer.isSome.toNat + 4 * x.trimTimer.isSome.toNat
  let attempt := if x.state = .training then x.record.map (·.attempt) else none
  [byte l.val, boolByte x.enabled, byte (legStateCode x.state), byte x.configuredWidth, byte x.currentWidth,
   byte x.minimumWidth, byte (rateIndex x.targetRate), orAbsent (x.agreedRate.map rateIndex), byte x.attemptCount,
   byte x.retryBudget, setByte x.excluded, setByte x.group, byte (trainCauseCode x.trainingCause),
   orAbsent (x.failureCause.map failCauseCode), boolByte x.holdRequest, byte x.trainingLimit, byte x.holdMinimum,
   byte x.trimInterval, byte x.marginFloor, byte x.slipLimit, boolByte (s.wiresOf l).present.asserted,
   orAbsent attempt, byte timers]
    ++ le16 (x.holdTimer.getD 0) ++ le16 (x.limitTimer.getD 0) ++ le16 (x.trimTimer.getD 0)

/-! ### Reply bodies (R177) -/

def mapByte (c : Option Lane) : Byte := orAbsent (c.map (·.val))

/-- A plan entry, 2 bytes; the position of an UNUSED lane is sent as 0 (R175). -/
def placeBytes (p : Option Place) : List Byte :=
  match p with
  | some x => [byte x.leg.val, byte x.pos.val]
  | none => [0xFF#8, 0#8]

/-- The READ MAP body, 52 bytes. -/
def State.mapBytes (s : State) : List Byte :=
  s.map.toList.map mapByte ++ s.plan.toList.flatMap placeBytes
    ++ allPaths.flatMap (fun p =>
        [orAbsent ((s.pathLeg p).map (·.val)), orAbsent ((s.pathPos p).map (·.val)), byte (pathStateCode (s.path p))])
    ++ allLegs.map (fun l => byte (s.leg l).configuredWidth)

/-- A job entry, 4 bytes. -/
def Job.bytes (j : Job) : List Byte :=
  [byte j.face.val, byte (jobKindCode j.kind), byte (requesterCode j.requester),
   if j.requester = .switch then j.tag else 0#8]

def runningBytes (r : Option RunningJob) : List Byte :=
  match r with
  | some r => r.job.bytes ++ [byte r.stepsDone, byte r.sinceStart, boolByte r.cancelling]
  | none => List.replicate 7 0xFF#8

def suspendedBytes (x : Option SuspendedJob) : List Byte :=
  match x with
  | some x => x.job.bytes ++ [byte x.stepsDone]
  | none => List.replicate 5 0xFF#8

/-- The READ TUNE QUEUE body; of more than 11 held results the first 11 are sent. Its fields add up to
20 + 4n + 4k bytes (log entry 22). The held count is its low byte (log entry 44). -/
def Engine.bytes (e : Engine) : List Byte :=
  let pending := allFaces.filterMap (fun f => e.queue[f])
  [boolByte e.running.isSome] ++ runningBytes e.running ++ suspendedBytes e.suspended
    ++ [byte pending.length] ++ pending.flatMap Job.bytes
    ++ [byte e.held.length] ++ (e.held.take 11).flatMap Job.bytes
    ++ [byte e.urgentPointer.val, byte e.routinePointer.val, byte e.probePointer.val] ++ le16 e.mask.toNat

/-- A slot record, 4 bytes. -/
def Slot.bytes (x : Slot) : List Byte :=
  [byte (sourceCode x.source), orAbsent (x.edge.map edgeModeCode), orAbsent (x.action.map actionCode), byte x.fires]

def CaptureEntry.bytes (e : CaptureEntry) : List Byte :=
  [byte e.face.val, orAbsent (e.lastMargin.map (·.val)), byte (signalCode e.signal), byte (lockCode e.lock)]
    ++ le16 e.slips

/-- The capture record, 11 + 6e bytes. -/
def Capture.bytes (c : Capture) : List Byte :=
  le32 c.stamp.toNat
    ++ [byte c.slot.val, byte (sourceCode c.source), edgeByte c.edge, byte (legStateCode c.legState), byte c.tally,
        boolByte c.overflow, byte c.entries.length] ++ c.entries.flatMap CaptureEntry.bytes

/-- The READ REACTIONS body. -/
def State.reactionBytes (s : State) (l : LegId) : List Byte :=
  allSlots.flatMap (fun j => (s.slot l j).bytes)
    ++ (match (s.leg l).capture with
        | some c => 1#8 :: c.bytes
        | none => [0#8])

def KindSetting.byte (k : KindSetting) : Byte := Machine.byte (k.enable.toNat + 2 * severityCode k.severity)

/-- A tally record, 5 bytes. -/
def Tally.bytes (t : Tally) : List Byte :=
  [byte t.value, boolByte t.overflow] ++ le16 t.kinds.toNat ++ [byte t.threshold]

/-- The READ LOG body, 63 bytes. -/
def ErrorUnit.bytes (e : ErrorUnit) (sev : Severity) : List Byte :=
  let g := e.log sev
  recordBytes g.first ++ recordBytes g.next ++ [byte g.further] ++ e.settings.toList.map KindSetting.byte
    ++ e.tallies.toList.flatMap Tally.bytes

/-- One leg's four bytes of READ SIDEBAND. HOLD_N is high when it is not asserted. -/
def State.legWireBytes (s : State) (l : LegId) : List Byte :=
  let w := s.wiresOf l
  [byte ((!w.present.wireLow).toNat + 2 * (!w.alert.wireLow).toNat + 4 * (!w.wake.wireLow).toNat
     + 8 * (!s.holdAsserted l).toNat),
   byte (w.present.asserted.toNat + 2 * w.alert.asserted.toNat + 4 * w.wake.asserted.toNat + 8 * w.alertLatch.toNat),
   setByte (s.slotValues l), setByte s.frame.lastSent[l]]

/-- The READ SIDEBAND body, 26 bytes, for a level of SBL. -/
def State.sidebandBytes (s : State) (sblHigh : Bool) : List Byte :=
  let x := s.frame
  allLegs.flatMap s.legWireBytes
    ++ [boolByte sblHigh, byte (frameStateCode x.state), byte (slotPlanCode x.plan.slots), byte (bitTimeCode x.plan.bit),
        byte (startWidthCode x.plan.start), byte (modeCode x.mode), boolByte x.enableRequest,
        byte (modeCode x.modeRequest), boolByte x.haltRequest, boolByte x.changePending]

/-- The TEST READ body, 18 + 11n bytes. -/
def TestRecord.bytes (t : TestRecord) : List Byte :=
  [byte (testStatusCode t.status), byte (facesChoiceCode t.faces)] ++ stageBytes t.taps ++ stageBytes t.seed
    ++ le16 t.limit ++ le32 t.elapsed ++ [orAbsent (t.endCause.map testEndCode)] ++ checkerBytes t.checkers

/-- The DONE body of STORE READ (R160). -/
def Page.bytes (p : Page) : List Byte :=
  [byte (pageStateCode p.content), boolByte p.locked]
    ++ (match p.content with
        | .written record => record
        | .blank | .torn => [])

/-- The reply frame (R174). -/
def replyFrame (w : Work) (flags : Byte) : List Byte :=
  let covered := [byte w.body.length, w.tag, w.code, resultCode w.result, flags] ++ w.body
  covered ++ [crc8 covered]

/-! ### Training words (R178) -/

def widthCode (w : Nat) : Nat := if w = 1 then 0 else if w = 2 then 1 else 2

def answerCode : AnswerOutcome → Nat
  | .applied => 0
  | .atLimit => 1
  | .pinned => 2

def abortCode : AbortReason → Nat
  | .reset => 0
  | .giveUp => 1

/-- The three bytes a word's check covers. -/
def TrainingWord.covered : TrainingWord → List Byte
  | .announce pos width rates attempt =>
    [1#8, byte (pos.val + 4 * widthCode width + 16 * rates.toNat), byte attempt]
  | .answer outcome pre post => [3#8, byte (answerCode outcome), byte (pre + 16 * post)]
  | .ready => [4#8, 0#8, 0#8]
  | .abort reason => [5#8, byte (abortCode reason), 0#8]

/-- The four bytes of a word the part sends. -/
def TrainingWord.bytes (w : TrainingWord) : List Byte := w.covered ++ [crc8 w.covered]

end Sys2Proof.Machine
end

