-- ==== Sys2Proof/Machine/Legs.lean ====
section
/-! DEFINITION. The leg controllers' and the training exchange's shared operations (spec/02, spec/03): notices of state
changes, the start and the ends of attempts, readiness, HELD, shutdown, FAILED, and the ends of a pattern test. -/

namespace Sys2Proof.Machine

/-! ### LEG STATE notices (R19) -/

/-- The cause a LEG STATE notice carries (R19): by the new state, or the event's own cause where the state names none. -/
def noticeCause (event : Cause) (leg : Leg) : Cause :=
  match event with
  | .reset => .reset
  | _ =>
    match leg.state with
    | .training | .active | .degraded => .train leg.trainingCause
    | .test => .test
    | .failed => (leg.failureCause.map Cause.fail).getD event
    | .off | .absent | .held => event

/-- A leg controller takes an event: one LEG STATE notice from the first state to the last, if they differ (R19). The notice
comes after whatever the taking reports (log entry 13). -/
def State.legTake (s : State) (l : LegId) (event : Cause) (f : State → State) : State :=
  let old := (s.leg l).state
  let s1 := f s
  let leg := s1.leg l
  if leg.state = old then s1
  else s1.raiseNotice (.legState s1.stamp l old leg.state (noticeCause event leg) leg.currentWidth)

/-! ### Training record -/

def State.hasFlag (s : State) (l : LegId) (f : FaceId) (g : TrainRecord → FaceSet) : Bool :=
  match (s.leg l).record with
  | some r => setHas (g r) f.val
  | none => false

/-- The training record is discarded and every group face returns to training status IDLE (R46). -/
def State.dropRecord (s : State) (l : LegId) : State :=
  let fs := s.groupFaces l
  fs.foldl (fun s f => s.setStatus f .idle) (s.modLeg l (fun x => { x with record := none }))

/-- R47: the result-owed flag of each group face whose SWEEP outstanding field is yes becomes set. -/
def State.oweResults (s : State) (l : LegId) : State :=
  (s.groupFaces l).foldl (fun s f =>
    if s.hasFlag l f TrainRecord.sweepOutstanding then s.setOwed (setAdd s.resultOwed f.val) else s) s

/-- One ABORT on each group face whose status is not IDLE (R61, R67). -/
def State.sendAborts (s : State) (l : LegId) (reason : AbortReason) : State :=
  (s.groupFaces l).foldl (fun s f => if (s.face f).status = .idle then s else s.send f (.abort reason)) s

/-- R67: an attempt that is abandoned: ABORTs, result-owed flags, and the record discarded. A leg without a training
record has no attempt. -/
def State.abandon (s : State) (l : LegId) (reason : AbortReason) : State :=
  match (s.leg l).record with
  | some _ => ((s.sendAborts l reason).oweResults l).dropRecord l
  | none => s

/-! ### Words and statuses of an attempt -/

/-- The ANNOUNCE the part sends on a face in the present attempt: the path's position, the width, the attempt number and
the rate set, which is the offer on a C-face (R50) and the agreed rate alone on an S-face (R54). -/
def State.announceWord (s : State) (l : LegId) (f : FaceId) : TrainingWord :=
  let leg := s.leg l
  let pos := (s.pathPos (facePath f)).getD 0
  let offered := (leg.record.map (·.offered)).getD 0#3
  let rates := if isCFace f then offered else (leg.agreedRate.map rateAlone).getD 0#3
  .announce pos leg.currentWidth rates ((leg.record.map (·.attempt)).getD 0)

def State.sendAnnounce (s : State) (l : LegId) (f : FaceId) : State := s.send f (s.announceWord l f)

/-- Faces become ANNOUNCED and then each sends its ANNOUNCE (R50 steps 3 and 4, R54). -/
def State.announceFaces (s : State) (l : LegId) (fs : List FaceId) : State :=
  let s1 := fs.foldl (fun s f => s.setStatus f .announced) s
  fs.foldl (fun s f => s.sendAnnounce l f) s1

/-! ### FAILED (R34) -/

/-- R34: the leg enters FAILED; LEG FAILED is reported with the failure cause's code as detail (R176). -/
def State.enterFailed (s : State) (l : LegId) (c : FailCause) : State :=
  let s1 := s.parkLeg l
  let s2 := s1.modLeg l (fun x => { x with
    currentWidth := 0, agreedRate := none, group := 0#4, failureCause := some c,
    holdTimer := none, limitTimer := none, trimTimer := none })
  let s3 := s2.setLegState l .failed
  s3.reportMid (s3.legReport .legFailed l (some (failCauseCode c)))

/-! ### Attempt start (R30, R50, R106) -/

def freshRecord (attempt : Nat) (offered : RateSet) : TrainRecord :=
  ⟨attempt, .c, offered, Vector.replicate 8 none, 0#16, 0#16, 0#16, 0#16⟩

/-- Steps 3 to 6 of R30, once R12 has chosen width and group. -/
def State.beginAttempt (s : State) (l : LegId) (w : Nat) (g : PosSet) : State :=
  let leg := s.leg l
  let inside := s.pathsAt l g
  let outside := (s.legPaths l).filter (fun p => !inside.contains p)
  let s1 := s.modLeg l (fun x => { x with
    currentWidth := w, group := g, agreedRate := none, holdTimer := none, trimTimer := none,
    limitTimer := some (10 * x.trainingLimit),
    record := some (freshRecord (leg.attemptCount + 1) (ratesUpTo leg.targetRate)) })
  let s2 := s1.setLegState l .training
  let s3 := (s2.setPaths inside .training).setPaths outside .benched
  let s4 := inside.foldl (fun s p => s.startMonitors p leg.slipLimit) s3
  let s5 := (facesOfPaths inside).foldl (fun s f => s.settleFace f) s4
  let s6 := (inside.map sFace).foldl (fun s f => s.setStatus f .idle) s5
  s6.announceFaces l (inside.map cFace)

/-- R30: an attempt start: width and group by R12; with none, FAILED with cause WIDTH. -/
def State.startAttempt (s : State) (l : LegId) : State :=
  let leg := s.leg l
  match selectWidth leg.configuredWidth leg.minimumWidth leg.excluded with
  | some (w, g) => s.beginAttempt l w g
  | none => s.enterFailed l .width

/-- R30: a series starts: the count becomes 0, the cause is set, the hold and trim timers stop, and the first attempt
starts. -/
def State.startSeries (s : State) (l : LegId) (c : TrainCause) : State :=
  (s.modLeg l (fun x => { x with
    attemptCount := 0, trainingCause := c, holdTimer := none, trimTimer := none })).startAttempt l

/-! ### The end of an attempt -/

/-- R32, R60: the attempt has succeeded. -/
def State.succeedAttempt (s : State) (l : LegId) : State :=
  let leg := s.leg l
  let full := leg.currentWidth == leg.configuredWidth
  let s1 := (s.oweResults l).modLeg l (fun x => { x with
    limitTimer := none
    trimTimer := if x.trimInterval ≥ 1 then some (1000 * x.trimInterval) else none })
  let s2 := s1.setPaths (s1.groupPaths l) .passing
  let s3 := s2.dropRecord l
  let s4 := s3.setLegState l (if full then .active else .degraded)
  if full then s4 else s4.reportMid (s4.legReport .widthReduced l none)

/-- The causes of an attempt failure (spec/03). -/
inductive AttemptEnd where
  | lane | partner | timeout | rate
  deriving DecidableEq, Repr

/-- R33: the leg controller's part of an attempt failure. -/
def State.countFailure (s : State) (l : LegId) (c : AttemptEnd) : State :=
  let s1 := (s.modLeg l (fun x => { x with limitTimer := none })).cancelFaces (s.groupFaces l)
  let s2 := s1.modLeg l (fun x => { x with attemptCount := x.attemptCount + 1 })
  let leg := s2.leg l
  match c with
  | .rate => s2.enterFailed l .rate
  | .lane | .partner | .timeout =>
    if leg.attemptCount = leg.retryBudget then s2.enterFailed l .budget else s2.startAttempt l

/-- R61: an attempt fails: `faulty` joins the excluded set, ABORTs go out, results become owed, the group paths are
PARKED, the error is reported (as the state then stands), the record is discarded, and the leg controller counts the
failure. -/
def State.failAttempt (s : State) (l : LegId) (c : AttemptEnd) (faulty : PosSet) (error : Option (ErrorKind × Option FaceId × Option Nat)) :
    State :=
  let s1 := s.modLeg l (fun x => { x with excluded := x.excluded ||| faulty })
  let s2 := (s1.sendAborts l .giveUp).oweResults l
  let s3 := s2.setPaths (s2.groupPaths l) .parked
  let s4 :=
    match error with
    | some (k, some f, d) => s3.reportMid (s3.faceReport k f d)
    | some (k, none, d) => s3.reportMid (s3.legReport k l d)
    | none => s3
  (s4.dropRecord l).countFailure l c

/-- R62: a lane fault on a face: the position of its path is excluded and the attempt ends with cause LANE. -/
def State.laneFault (s : State) (l : LegId) (f : FaceId) (error : Option ErrorKind) : State :=
  let faulty : PosSet := match s.pathPos (facePath f) with
    | some q => setAdd 0#4 q.val
    | none => 0#4
  s.failAttempt l .lane faulty (error.map (fun k => (k, some f, none)))

/-! ### Readiness (R57, R59, R60) -/

def State.allReady (s : State) (fs : List FaceId) : Bool := fs.all (fun f => (s.face f).status == .ready)

/-- R54: the S phase starts. -/
def State.startSPhase (s : State) (l : LegId) : State :=
  (s.modRecord l (fun r => { r with phase := .s })).announceFaces l ((s.groupPaths l).map sFace)

/-- R60: a face becomes READY, and the attempt moves forward when it is the last of its phase. -/
def State.becomeReady (s : State) (l : LegId) (f : FaceId) : State :=
  let s1 := s.setStatus f .ready
  match (s1.leg l).record with
  | none => s1
  | some r =>
    match r.phase with
    | .c => if s1.allReady ((s1.groupPaths l).map cFace) then s1.startSPhase l else s1
    | .s => if s1.allReady ((s1.groupPaths l).map sFace) then s1.succeedAttempt l else s1

/-- R57, R59: the part sends READY; with READY received already yes the face becomes READY. -/
def State.partReady (s : State) (l : LegId) (f : FaceId) : State :=
  let s1 := (s.send f .ready).modRecord l (fun r => { r with readySent := setAdd r.readySent f.val })
  if s1.hasFlag l f TrainRecord.readyReceived then s1.becomeReady l f else s1

/-- The results of a SWEEP that has completed (R57); a CANCELLED one is `handCancelled`. -/
inductive SweepResult where
  | converged | pinned | noConverge
  deriving DecidableEq, Repr

/-- R57: the leg controller takes a SWEEP result of a face. -/
def State.takeSweepResult (s : State) (f : FaceId) (res : SweepResult) : State :=
  if setHas s.resultOwed f.val then s.clearOwed f
  else
    match s.faceLeg f with
    | none => s
    | some l =>
      if s.hasFlag l f TrainRecord.sweepOutstanding then
        let s1 := s.modRecord l (fun r => { r with sweepOutstanding := setDrop r.sweepOutstanding f.val })
        match res with
        | .converged | .pinned => s1.partReady l f
        | .noConverge => s1.laneFault l f (some .tuneNoConverge)
      else s

/-! ### Pattern test ends (R155, R156) -/

/-- The generators and checkers of a test stop. A stopped generator has no register (log entry 41). -/
def State.stopGenerators (s : State) (t : TestRecord) : State :=
  t.checkers.foldl (fun s c => s.setGenerator c.face none) s

/-- R156: a running test is discarded: the record becomes absent and nothing is raised. An ENDED record stays. The checkers
stop, and that a checker stopped so holds nothing is the model's choice (log entry 46). -/
def State.discardTest (s : State) (l : LegId) : State :=
  match s.test l with
  | some t => if t.status = .running then (s.stopGenerators t).setTest l none else s
  | none => s

/-- R155 steps 1 and 2: the test ends and TEST DONE is raised. At a LIMIT the elapsed time is the limit (R154;
log entry 28). The checkers stop as they stand: R155 keeps state, counts and losses, and what the history, the run and the
present unit's bits and mismatches of a stopped checker hold is the model's choice (log entry 45). -/
def State.endTest (s : State) (l : LegId) (c : TestEnd) : State :=
  match s.test l with
  | some t =>
    if t.status = .running then
      let elapsed := if c = .limit then 1000 * t.limit else t.elapsed
      let t' := { t with status := .ended, endCause := some c, elapsed := elapsed, limitTimer := none }
      let s1 := (s.stopGenerators t).setTest l (some t')
      s1.raiseNotice (.testDone s1.stamp l c elapsed t'.checkers)
    else s
  | none => s

/-! ### HELD (R26) and shutdown (R21) -/

/-- A leg in TRAINING, ACTIVE, DEGRADED or TEST, whose jobs, test, exchange and timers an exit must end (R26, R41). -/
def isTrained (st : LegState) : Bool :=
  st == .training || st == .active || st == .degraded || st == .test

/-- R26: an entry to HELD with a training cause. The excluded set and the hold request are kept. -/
def State.enterHeld (s : State) (l : LegId) (c : TrainCause) : State :=
  let s1 :=
    if isTrained (s.leg l).state
    then (((s.discardTest l).abandon l .giveUp).cancelFaces (s.legFaces l))
    else s
  let s2 := s1.parkLeg l
  let s3 := s2.modLeg l (fun x => { x with
    attemptCount := 0, currentWidth := 0, agreedRate := none, failureCause := none, group := 0#4, trainingCause := c,
    limitTimer := none, trimTimer := none, holdTimer := some x.holdMinimum })
  s3.setLegState l .held

/-- R28: a HOLD, from LEG HOLD or from the HOLD action. In HELD it restarts the hold timer. -/
def State.holdLeg (s : State) (l : LegId) (c : TrainCause) : State :=
  let s1 := s.modLeg l (fun x => { x with holdRequest := true })
  match (s.leg l).state with
  | .off | .absent => s1
  | .held => s1.modLeg l (fun x => { x with holdTimer := some x.holdMinimum })
  | .training | .active | .degraded | .test | .failed => s1.enterHeld l c

/-- R29: a RELEASE clears the hold request; a HELD leg whose hold timer has expired leaves for TRAINING. -/
def State.releaseLeg (s : State) (l : LegId) : State :=
  let s1 := s.modLeg l (fun x => { x with holdRequest := false })
  let leg := s1.leg l
  if leg.state = .held ∧ leg.holdTimer = none then s1.startSeries l leg.trainingCause else s1

/-- R21 step 6 but for the hold request, and the alert latch of step 8; the change of state that follows has the latch's
slot value judged with its own (R139). -/
def State.clearCounts (s : State) (l : LegId) : State :=
  (s.modLeg l (fun x => { x with attemptCount := 0, excluded := 0#4 })).setLatch l false

def State.clearHold (s : State) (l : LegId) : State := s.modLeg l (fun x => { x with holdRequest := false })

/-- R21: a leg that is in neither OFF nor ABSENT is shut down, to the point where its state changes. An attempt in
progress is abandoned first, as R67 orders it (log entry 14), with the reason of the ABORTs given. -/
def State.shutDown (s : State) (l : LegId) (reason : AbortReason) : State :=
  let s1 := ((s.abandon l reason).cancelFaces (s.legFaces l)).discardTest l
  let s2 := s1.parkLeg l
  let s3 := s2.modLeg l (fun x => { x with
    holdTimer := none, limitTimer := none, trimTimer := none, holdRequest := false,
    group := 0#4, currentWidth := 0, agreedRate := none, failureCause := none })
  s3.clearCounts l

/-- R21, R23, R25: the leg goes to OFF or ABSENT. From OFF or ABSENT it only clears the counts, the hold request and the
alert latch. -/
def State.goDown (s : State) (l : LegId) (st : LegState) : State :=
  (match (s.leg l).state with
   | .off | .absent => (s.clearHold l).clearCounts l
   | .held | .training | .active | .degraded | .test | .failed => s.shutDown l .giveUp).setLegState l st

end Sys2Proof.Machine
end

