-- ==== Sys2Proof/Machine/Reactions.lean ====
section
/-! DEFINITION. The reaction table's taking of events (spec/06 R114 to R118): firing, the actions that reach the leg
controller, the events and reports that waited, and reports made while no leg controller is in the middle of a taking. -/

namespace Sys2Proof.Machine

/-- R37, R116: the RETRAIN action acts in ACTIVE and DEGRADED only. -/
def State.retrainAction (s : State) (l : LegId) : State :=
  if isLinked (s.leg l).state then s.startSeries l .reaction else s

/-- R116: an action that reaches the leg controller is taken there as a request of its own. A RELEASE that ends HELD
carries the training cause of the entry to HELD (R19, R27; log entry 34). -/
def State.legAction (s : State) (l : LegId) (a : Action) : State :=
  match a with
  | .retrain => s.legTake l (.train .reaction) (fun s => s.retrainAction l)
  | .hold => s.legTake l (.train .reaction) (fun s => s.holdLeg l .reaction)
  | .release => s.legTake l (.train .reaction) (fun s => s.releaseLeg l)
  | .capture | .notify => s

/-- R114: a slot fires: its count increases and it performs its action. -/
def State.fireSlot (s : State) (ev : TableEvent) (j : SlotId) : State :=
  let s1 := s.fireOwn ev j
  match (s.slot ev.leg j).action with
  | some a => s1.legAction ev.leg a
  | none => s1

def State.setFiring (s : State) (b : Bool) : State := { s with table := { s.table with firing := b } }

/-- Slots fire one after another; a threshold reached meanwhile waits until all have fired (R114). -/
def State.fireSlots (s : State) (ev : TableEvent) (js : List SlotId) : State :=
  (js.foldl (fun s j => s.fireSlot ev j) (s.setFiring true)).setFiring false

/-- What waits is taken, in the order in which it came to wait. -/
def State.takeWaiting (s : State) (w : Waiting) : State := s.fireSlots w.event (w.slots.getD (s.matchingSlots w.event))

/-- The error unit takes a report while no leg controller is in the middle of a taking (R126). A threshold it reaches goes
to the table before any other report is taken, and is done when the table is next free (R128). -/
def State.takeWhole (s : State) (r : Report) : State :=
  let (s1, reached) := s.takeReport r
  match reached with
  | some l => (s1.await ⟨thresholdEvent l, none⟩).holdReports
  | none => s1

/-- The table does what waits, and then the error unit takes the next report, round by round. -/
def State.drain : Nat → State → State
  | 0, s => s
  | n + 1, s =>
    match s.table.waiting, s.table.reports with
    | w :: ws, _ => State.drain n (State.takeWaiting { s with table := { s.table with waiting := ws } } w)
    | [], r :: rs => State.drain n (State.takeWhole { s with table := { s.table with reports := rs } } r)
    | [], [] => s

/-- Nothing is being done and nothing waits. -/
def noWork : TableWork := ⟨false, [], false, []⟩

/-- The table and the error unit do all that waits and are at rest. A leg's threshold is reached at most once in a step, since
nothing within a step lowers a tally, and a step raises at most a handful of reports, so 16 rounds leave nothing waiting. -/
def State.finish (s : State) : State := { s.drain 16 with table := noWork }

/-- The table takes an event while no leg controller is in the middle of a taking (R114). -/
def State.tableTake (s : State) (ev : TableEvent) : State := (s.fireSlots ev (s.matchingSlots ev)).finish

/-- A leg controller takes an event, and then the table does what waited for it (R114, R19). -/
def State.legEvent (s : State) (l : LegId) (event : Cause) (f : State → State) : State := (s.legTake l event f).finish

/-- A report of a block other than a leg controller; a threshold it reaches is taken at once (R126, R128). -/
def State.report (s : State) (r : Report) : State := (s.takeWhole r).finish

/-- An event of a report's leg goes to the reaction table. -/
def State.legSource (s : State) (l : Option LegId) (src : Source) : State :=
  match l with
  | some l => s.tableTake ⟨l, src, none⟩
  | none => s

/-- R110: a monitor's report goes to the leg controller, as `take` says, and then to the error unit, ahead of the reports that
the leg controller has made meanwhile (R126; log entry 37). -/
def State.monitorReport (s : State) (r : Report) (take : LegId → State → State) : State :=
  match r.leg with
  | some l =>
    let s1 := s.holdReports.legTake l (.train .loss) (take l)
    State.finish { s1 with table := { s1.table with reports := r :: s1.table.reports } }
  | none => s.report r

end Sys2Proof.Machine
end

