-- ==== Sys2Proof/Machine/Deliveries.lean ====
section
/-! DEFINITION. How a report that has been raised reaches its receivers (spec/06 R110, R111; spec/07 R126): what each kind of
report does there, and the order among reports in flight (log entry 38). -/

namespace Sys2Proof.Machine

/-! ### What a receiver does with a report -/

/-- R111, R36: a loss on a PASSING path ends the link. -/
def State.loseLink (s : State) (l : LegId) : State := if isLinked (s.leg l).state then s.startSeries l .loss else s

/-- R111: the leg controller takes a SIGNAL LOST, by the state of the report's path. A path that a map load has given to
another leg since the report was raised is no path of the controller's (log entry 38). -/
def State.takeSignalLoss (s : State) (l : LegId) (f : FaceId) : State :=
  if s.faceLeg f ≠ some l then s
  else
    match s.path (facePath f) with
    | .training => s.laneFault l f none
    | .passing => s.loseLink l
    | .testing => (s.endTest l .loss).startSeries l .loss
    | .unmapped | .parked | .benched => s

/-- R111: the leg controller takes a LOCK LOST. -/
def State.takeLockLoss (s : State) (l : LegId) (f : FaceId) : State :=
  if s.faceLeg f ≠ some l then s
  else
    match s.path (facePath f) with
    | .training => s.laneFault l f none
    | .passing => s.loseLink l
    | .testing | .unmapped | .parked | .benched => s

/-! ### A report's way to its receivers (R110) -/

/-- A SIGNAL LOST is handed to the leg controller, the error unit and the reaction table. -/
def State.handSignalLost (s : State) (f : FaceId) (r : Report) : State :=
  (s.monitorReport r (fun l s => s.takeSignalLoss l f)).legSource r.leg .signalLost

/-- A LOCK LOST is handed to the leg controller and the error unit. -/
def State.handLockLost (s : State) (f : FaceId) (r : Report) : State :=
  s.monitorReport r (fun l s => s.takeLockLoss l f)

/-- A SLIP BURST is handed to the error unit and the reaction table. -/
def State.handSlipBurst (s : State) (r : Report) : State := (s.report r).legSource r.leg .slipBurst

/-- A report reaches all of its receivers: a monitor's as R110 states, any other the error unit alone (R123, R126). -/
def State.handOver (s : State) (r : Report) : State :=
  match r.kind, r.face with
  | .signalLost, some f => s.handSignalLost f r
  | .lockLost, some f => s.handLockLost f r
  | .slipBurst, _ => s.handSlipBurst r
  | _, _ => s.report r

/-! ### Reports in flight -/

/-- Whether a report is a monitor's (R110): its delivery is a command of its own. -/
def Report.ofMonitor (r : Report) : Bool := r.kind == .signalLost || r.kind == .lockLost || r.kind == .slipBurst

/-- The reports in flight reach their receivers one after another, up to the first that `stop` names. -/
def State.handUntil (stop : Report → Bool) : Nat → State → State
  | 0, s => s
  | n + 1, s =>
    match s.inFlight with
    | r :: rest => if stop r then s else State.handUntil stop n (State.handOver { s with inFlight := rest } r)
    | [] => s

/-- How many rounds deliver all that is in flight. A monitor's report brings at most one report of the leg controller that
takes it and one for each of the four slots it fires, and a leg's threshold, which is reached at most once in a step, one for
each of its slots; so these rounds leave nothing. -/
def State.handRounds (s : State) : Nat := 16 * s.inFlight.length + 16

/-- All that waited behind a monitor's report, up to the next monitor's, is taken after it. -/
def State.handWaiting (s : State) : State := s.handUntil Report.ofMonitor s.handRounds

/-- Every report in flight reaches its receivers. -/
def State.handFlight (s : State) : State := s.handUntil (fun _ => false) s.handRounds

/-- A report that a monitor has raised goes to its receivers in the same step, unless earlier ones are still in flight: then
it waits behind them, since the error unit takes reports in the order in which they are raised (R126). -/
def State.handNow (s : State) (r : Report) : State := if s.inFlight.isEmpty then s.handOver r else s.raiseReport r

/-- A block other than a monitor or a leg controller reports (R123, R126). The reports in flight, which were raised before it,
are delivered first; then the error unit takes this one, so that its ERROR notice stands ahead of whatever the reporter raises
next (R98, R162; log entry 38). -/
def State.tell (s : State) (r : Report) : State := s.handFlight.report r

end Sys2Proof.Machine
end

