-- ==== Sys2Proof/WellFormed.lean ====
section
/-! DEFINITION. Which commands the world can send: what their rows and rules require of the operands. -/

namespace Sys2Proof

/-- A valid RX half (R69). -/
def RxHalf.valid (r : RxHalf) : Bool :=
  decide (r.peaking ≤ 15) && decide (r.gain ≤ 31) && decide (-31 ≤ r.dfe1) && decide (r.dfe1 ≤ 31)
    && decide (-15 ≤ r.dfe2) && decide (r.dfe2 ≤ 15)

/-- A finding's RX half is always valid (R80). -/
def Finding.valid (f : Finding) : Bool :=
  match f.rx with
  | some r => r.valid
  | none => true

/-- A request frame carries at most 128 body bytes (R165). -/
def bodyFits (body : List Byte) : Bool := decide (body.length ≤ 128)

/-- A command is well formed when the world can send it under its row's name. -/
def Instr.wellFormed (i : Instr) : Bool :=
  match i with
  | .ping _ b | .portStatus _ b | .fetchNotice _ b | .setNoticeMask _ b | .partReset _ b
  | .readMap _ b | .loadMap _ b
  | .readLeg _ b | .legEnable _ b | .legDisable _ b | .legHold _ b | .legRelease _ b | .legRetrain _ b
  | .legRestoreWidth _ b | .legReset _ b | .setLegParams _ b
  | .readFace _ b | .stageFace _ b | .commitFaces _ b | .pinFace _ b | .unpinFace _ b
  | .tuneMargin _ b | .readTuneQueue _ b | .setTuneMask _ b
  | .setReaction _ b | .readReactions _ b
  | .readLog _ b | .clearLog _ b | .setErrorKind _ b | .setTally _ b | .clearTally _ b
  | .setFramePlan _ b | .frameControl _ b | .readSideband _ b | .clearAlert _ b
  | .testStart _ b | .testStop _ b | .testRead _ b
  | .storeRead _ b | .storeErase _ b | .storeWrite _ b | .storeLock _ b => bodyFits b
  | .frameError bytes => decide (bytes ≠ []) && !Machine.frameOk bytes
  | .unknown _ code b => bodyFits b && decide (code.toNat ∉ Machine.requestCodes)
  | .replyRead count => decide (1 ≤ count)
  | .sidebandCollision slot => decide (slot < 20)
  | .jobCompletion found => found.valid
  | .checkerLock _ bits => decide (bits ≠ [])
  | .bitMismatch _ matching => decide (matching < 1048576)
  | .partResetExecute _ _ _ | .storeOperationComplete _ | .writeWhileWorking | .powerOn _ | .pinReset _
  | .sidebandWireChange _ _ _ | .presenceRise _ | .presenceFall _ | .alertRise _ | .alertFall _ | .wakeChange _
  | .startRequest | .frameStart | .frameGoodEnd
  | .holdTimerExpiry _ | .trainingLimitExpiry _ | .trimTimerExpiry _ | .testLimitExpiry _ | .announceRepeat _
  | .partnerAnnounce _ _ | .partnerAdjust _ _ | .partnerReady _ _ | .partnerAbort _ _
  | .signalPresent _ | .signalLost _ | .lockAcquired _ | .lockLost _ | .slip _ | .slipWindowEnd _
  | .tuneStepBoundary | .comparedUnit _ | .testMismatch _ | .replyFormed => true

end Sys2Proof
end

