-- ==== Sys2Proof/Machine/Tuning.lean ====
section
/-! DEFINITION. The tuning engine (spec/05): requests, the choice of the next job, suspension and resumption, and
completions. -/

namespace Sys2Proof.Machine

/-! ### Results (R98 step 5) -/

/-- A SWEEP result is handed to the leg controller of the face's path, which takes it (R57). -/
def State.sweepResult (s : State) (f : FaceId) (res : SweepResult) : State :=
  match s.faceLeg f with
  | some l => s.legEvent l (.train .first) (fun s => s.takeSweepResult f res)
  | none => s.takeSweepResult f res

/-- R78: whether the completion of a TRIM or SWEEP on the face is a settle point. -/
def State.settlesOnCompletion (s : State) (f : FaceId) : Bool :=
  let x := s.face f
  x.pending && x.swapOnCompletion && s.path (facePath f) == .passing

/-- R78, R85: a SWEEP or TRIM that the engine takes for a pinned face completes at once with PINNED. -/
def State.completePinned (s : State) (j : Job) : State :=
  let s1 := if s.settlesOnCompletion j.face then s.swapFace j.face else s
  if j.isLegSweep then s1.sweepResult j.face .pinned else s1

/-! ### The choice (R91, R92) -/

def unmasked (e : Engine) (f : FaceId) : Bool := !setHas e.mask f.val

def pendingKind (e : Engine) (k : JobKind) (f : FaceId) : Bool :=
  match e.queue[f] with
  | some j => j.kind == k && unmasked e f
  | none => false

/-- Whether an URGENT job is pending on an unmasked face (R91, R94). -/
def Engine.urgentPending (e : Engine) : Bool := allFaces.any (pendingKind e .sweep)

/-- Faces in index order from a pointer, wrapping from 15 to 0. -/
def facesFrom (p : FaceId) : List FaceId := allFaces.map (fun i => p + i)

def Engine.pointer (e : Engine) : JobKind → FaceId
  | .sweep => e.urgentPointer
  | .trim => e.routinePointer
  | .margin => e.probePointer

/-- R92: the class's pointer moves to the face after the chosen one. -/
def Engine.movePointer (e : Engine) (k : JobKind) (f : FaceId) : Engine :=
  match k with
  | .sweep => { e with urgentPointer := f + 1 }
  | .trim => { e with routinePointer := f + 1 }
  | .margin => { e with probePointer := f + 1 }

/-- R91 steps 2 and 3: the next job by class, pointer and mask. -/
def Engine.nextJob (e : Engine) : Option Job :=
  [JobKind.sweep, JobKind.trim, JobKind.margin].findSome? (fun k =>
    ((facesFrom (e.pointer k)).find? (pendingKind e k)).bind (fun f => e.queue[f]))

/-- R95: the suspended job returns to the running slot with its grace counted anew. -/
def Engine.resume (e : Engine) (x : SuspendedJob) : Engine :=
  { e with suspended := none, running := some ⟨x.job, x.stepsDone, 0, false⟩ }

/-- R91 step 4: the chosen job leaves the queue and the pointer moves. -/
def Engine.dequeue (e : Engine) (j : Job) : Engine :=
  { e with queue := modAt e.queue j.face (fun _ => none) }.movePointer j.kind j.face

/-- R85: a job starts. -/
def Engine.start (e : Engine) (j : Job) : Engine := { e with running := some ⟨j, 0, 0, false⟩ }

/-- Whether a job completes at its taking because its face is pinned (R83, R85). -/
def State.pinnedAtTaking (s : State) (j : Job) : Bool := j.kind != .margin && (s.face j.face).pinned

/-- Whether the IDLE engine resumes its suspended job (R91 step 1). -/
def Engine.resumes (e : Engine) : Option SuspendedJob := if e.urgentPending then none else e.suspended

/-- R91: the engine chooses while it is IDLE. A job that completes PINNED at its taking leaves the engine IDLE, and it
chooses again; each such job has left the queue of 16, so 17 rounds are enough. -/
def State.chooseWithin : Nat → State → State
  | 0, s => s
  | n + 1, s =>
    match s.engine.running, s.engine.resumes, s.engine.nextJob with
    | some _, _, _ => s
    | none, some x, _ => s.modEngine (fun e => e.resume x)
    | none, none, none => s
    | none, none, some j =>
      let s1 := s.modEngine (fun e => e.dequeue j)
      if s.pinnedAtTaking j then State.chooseWithin n (s1.completePinned j) else s1.modEngine (fun e => e.start j)

def State.choose (s : State) : State := s.chooseWithin 17

/-! ### Requests -/

/-- A job is queued, and an engine that is IDLE chooses (R91). -/
def State.queueJob (s : State) (j : Job) : State := (s.setQueued j.face (some j)).choose

/-- R87: a SWEEP request of a leg controller. -/
def State.requestSweep (s : State) (f : FaceId) : State :=
  match s.queued f with
  | none => s.queueJob ⟨f, .sweep, .leg, 0#8⟩
  | some j =>
    match j.kind with
    | .sweep => s
    | .trim | .margin => (s.handDisplaced j).queueJob ⟨f, .sweep, .leg, 0#8⟩

/-- Whether a SWEEP of the face runs without the cancelling mark. -/
def State.sweepRunningOn (s : State) (f : FaceId) : Bool :=
  match s.engine.running with
  | some r => r.job.face == f && r.job.kind == .sweep && !r.cancelling
  | none => false

/-- R88: a TRIM request. -/
def State.requestTrim (s : State) (f : FaceId) (by' : Requester) : State :=
  match s.queued f with
  | some j =>
    match j.kind with
    | .sweep => s
    | .trim => s
    | .margin => if s.sweepRunningOn f then s else (s.handDisplaced j).queueJob ⟨f, .trim, by', 0#8⟩
  | none => if s.sweepRunningOn f then s else s.queueJob ⟨f, .trim, by', 0#8⟩

/-- Whether the engine has nothing of a face (R89 check 3). -/
def State.engineFree (s : State) (f : FaceId) : Bool := (s.queued f).isNone && !s.runningOn f && !s.suspendedOn f

/-! ### Completions (R98 to R100) -/

/-- An engine write of a face's RX half (R80), with its effect on a suspended MARGIN (R95). -/
def State.writeRx (s : State) (f : FaceId) (rx : RxHalf) : State :=
  (s.modFace f (fun x => { x with active := { x.active with rx := rx } })).restartSuspended f

def State.writeMargin (s : State) (f : FaceId) (m : Fin 64) : State :=
  s.modFace f (fun x => { x with lastMargin := some m })

/-- R100: a recorded margin is checked against the floor; MARGIN LOW goes to the error unit and then to the reaction
table (R115). -/
def State.checkMargin (s : State) (f : FaceId) (m : Fin 64) : State :=
  match s.faceLeg f with
  | none => s
  | some l =>
    if m.val < (s.leg l).marginFloor
    then (s.tell (s.faceReport .marginLow f (some m.val))).legSource (some l) .marginLow
    else s

/-- Steps 1 to 3 of R98 for a SWEEP or TRIM: the settle point's swap, or else the engine's write unless the pin refuses
it (R78, R80). -/
def State.deliverRx (s : State) (f : FaceId) (rx : Option RxHalf) : State :=
  if s.settlesOnCompletion f then s.swapFace f
  else
    match rx with
    | none => s
    | some r => if (s.face f).pinned then s else s.writeRx f r

/-- R98 and R99 for a SWEEP that ran to its end. -/
def State.completeSweep (s : State) (j : Job) (rx : Option RxHalf) : State :=
  (s.deliverRx j.face rx).sweepResult j.face (if rx.isSome then .converged else .noConverge)

/-- R98 and R99 for a TRIM that ran to its end: a margin is recorded only with a write. -/
def State.completeTrim (s : State) (j : Job) (found : Finding) : State :=
  let f := j.face
  let s1 := s.deliverRx f found.rx
  match found.rx with
  | some _ =>
    if s.settlesOnCompletion f || (s.face f).pinned then s1 else (s1.writeMargin f found.margin).checkMargin f found.margin
  | none =>
    match s1.path (facePath f) with
    | .passing | .testing => s1.tell (s1.faceReport .tuneNoConverge f none)
    | .unmapped | .parked | .benched | .training => s1

/-- R98 and R100 for a MARGIN; its JOB DONE notice follows the ERROR notice it may cause (R102). -/
def State.completeMargin (s : State) (j : Job) (m : Fin 64) : State :=
  ((s.writeMargin j.face m).checkMargin j.face m).jobNotice j .completed (some m)

/-- R98 step 6: the running slot empties, results that waited for it are handed over (R97), and the engine chooses. -/
def State.leaveSlot (s : State) : State := ((s.modEngine (fun e => { e with running := none })).handHeld).choose

/-- R98: a job that has done its last step completes. -/
def State.completeJob (s : State) (j : Job) (found : Finding) : State :=
  (match j.kind with
   | .sweep => s.completeSweep j found.rx
   | .trim => s.completeTrim j found
   | .margin => s.completeMargin j found.margin).leaveSlot

/-- R96, R97: the boundary at which an ending job stops. -/
def State.stopEnding (s : State) (j : Job) : State :=
  (((s.modEngine (fun e => { e with running := none })).handCancelled j).handHeld).choose

/-- R94: the running MARGIN goes to the suspended slot with the steps it has done, and the engine chooses. -/
def State.suspendRunning (s : State) (j : Job) (steps : Nat) : State :=
  (s.modEngine (fun e => { e with running := none, suspended := some ⟨j, steps, true⟩ })).choose

/-- R94: how many boundaries ahead the running job is suspended if nothing else happens before, where it is. -/
def State.suspensionAhead (s : State) (r : RunningJob) : Option Nat :=
  let k := max 1 (graceSteps - r.sinceStart)
  if r.job.kind == .margin && s.engine.urgentPending && decide (r.stepsDone + k < jobSteps .margin) then some k else none

/-! ### The two commands of the engine's own time -/

/-- TUNE_STEP_BOUNDARY (R85, R94, R96): a boundary that does not end the last step. The last one is JOB_COMPLETION. -/
def execTuneStepBoundary (s : State) : Host.Outcome State Fault Refusal :=
  .next (
    match s.engine.running with
    | none => s
    | some r =>
      if r.cancelling then s.stopEnding r.job
      else if r.stepsDone + 1 ≥ jobSteps r.job.kind then s
      else if s.suspensionAhead r = some 1 then s.suspendRunning r.job (r.stepsDone + 1)
      else s.modEngine (fun e => { e with
        running := some ⟨r.job, r.stepsDone + 1, r.sinceStart + 1, false⟩ }))

/-- JOB_COMPLETION (R98): the running job goes through its remaining boundaries, of which the last completes it. A job
with the cancelling mark ends CANCELLED at the first (R96), and a MARGIN that meets R94 at one of them is suspended
there; neither completes (log entry 24). -/
def execJobCompletion (found : Finding) (s : State) : Host.Outcome State Fault Refusal :=
  .next (
    match s.engine.running with
    | none => s
    | some r =>
      if r.cancelling then s.stopEnding r.job
      else if !found.valid then s
      else
        match s.suspensionAhead r with
        | some k => s.suspendRunning r.job (r.stepsDone + k)
        | none => s.completeJob r.job found)

end Sys2Proof.Machine
end

