-- ==== Sys2Proof/Machine/Checkers.lean ====
section
/-! DEFINITION. The pattern checkers (spec/09 R152, R153) and their events. -/

namespace Sys2Proof.Machine

/-! ### Checkers (R152, R153) -/

/-- A unit, in bits. -/
def unitSize : Nat := 1048576

/-- The top of a 32-bit count. -/
def countTop : Nat := 4294967295

/-- A checker at its start, by the monitor's lock. -/
def freshChecker (lock : Lock) : Checker :=
  ⟨if lock = .locked then .seeking else .lost, 0, 0, 0, 0#31, 0, 0, 0, 0⟩

/-- SEEKING with an empty history and a run of 0. -/
def Checker.seek (k : Checker) : Checker := { k with state := .seeking, history := 0#31, gathered := 0, run := 0 }

/-- LOST: the partial unit is dropped. What the history and the run hold while a checker is LOST is not given: both are
emptied here, and nothing reads either until SEEKING starts them anew (the model's choice, log entry 23). -/
def Checker.lose (k : Checker) : Checker :=
  { k with state := .lost, losses := min 255 (k.losses + 1), history := 0#31, gathered := 0, run := 0, unitBits := 0,
           unitMismatches := 0 }

/-- A received bit in SEEKING (R152): the first 31 are gathered; each later one is predicted and compared, and joins the
history. The 64th correct prediction in a row enters LOCKED; a wrong one starts the seed over. -/
def Checker.seekBit (taps : Stages) (k : Checker) (b : Bool) : Checker :=
  if k.gathered < 31 then { k with history := shiftIn k.history b, gathered := k.gathered + 1 }
  else if feedback taps k.history != b then k.seek
  else if k.run + 1 < 64 then { k with history := shiftIn k.history b, run := k.run + 1 }
  else { k with state := .locked, history := shiftIn k.history b, run := k.run + 1, unitBits := 0, unitMismatches := 0 }

/-- Received bits in SEEKING, up to the lock. -/
def Checker.seekBits (taps : Stages) (k : Checker) (bits : List Bool) : Checker :=
  bits.foldl (fun k b => if k.state = .seeking then k.seekBit taps b else k) k

/-- `n` compared bits that equal their predictions. -/
def Checker.matchBits (k : Checker) (taps : Stages) (n : Nat) : Checker :=
  let bits := k.unitBits + n
  { k with
    history := patternSteps taps n k.history
    units := min countTop (k.units + bits / unitSize)
    unitBits := bits % unitSize
    unitMismatches := if bits ≥ unitSize then 0 else k.unitMismatches }

/-- `n` mismatches more in the count of mismatched bits. -/
def Checker.addMismatches (k : Checker) (n : Nat) : Checker := { k with mismatched := min countTop (k.mismatched + n) }

/-- A compared bit that differs from its prediction, short of the 256th of its unit. -/
def Checker.mismatchBit (k : Checker) (taps : Stages) : Checker :=
  ({ k with unitMismatches := k.unitMismatches + 1 }.matchBits taps 1).addMismatches 1

/-- The 256th mismatch of a unit: it is counted, and the checker enters LOST. A unit that this very bit fills is whole and
counts (log entry 21). -/
def Checker.overflowUnit (k : Checker) : Checker :=
  let whole := k.unitBits + 1 == unitSize
  ({ k with units := if whole then min countTop (k.units + 1) else k.units }.addMismatches 1).lose

/-- Wrong bits up to the 256th mismatch of one unit (R153). Where the present unit has too few bits left, they complete
it first: its mismatches return to 0, and the next unit has all 256. -/
def Checker.wrongRun (k : Checker) : Checker :=
  let room := unitSize - k.unitBits
  let k1 :=
    if room < 256 - k.unitMismatches
    then { k with units := min countTop (k.units + 1), unitBits := 0, unitMismatches := 0 }.addMismatches room
    else k
  let n := 255 - k1.unitMismatches
  ({ k1 with unitBits := k1.unitBits + n, unitMismatches := k1.unitMismatches + n }.addMismatches n).overflowUnit

/-! ### The checkers of a leg's test -/

/-- The checker of a face, where the face is a chosen face of a RUNNING test. -/
def TestRecord.checkerOf (t : TestRecord) (f : FaceId) : Option Checker :=
  if t.status = .running then (t.checkers.find? (fun c => c.face == f)).map (·.checker) else none

def TestRecord.modChecker (t : TestRecord) (f : FaceId) (g : Checker → Checker) : TestRecord :=
  if t.status = .running
  then { t with checkers := t.checkers.map (fun c => if c.face = f then { c with checker := g c.checker } else c) }
  else t

def State.checkerOf (s : State) (f : FaceId) : Option Checker :=
  match s.faceLeg f with
  | some l => (s.test l).bind (fun t => t.checkerOf f)
  | none => none

def State.modChecker (s : State) (f : FaceId) (g : Stages → Checker → Checker) : State :=
  match s.faceLeg f with
  | some l => s.setTest l ((s.test l).map (fun t => t.modChecker f (g t.taps)))
  | none => s

/-- R153: the monitor's lock becomes UNLOCKED, and the checker enters LOST from SEEKING or LOCKED. -/
def Checker.unlock (k : Checker) : Checker :=
  match k.state with
  | .seeking | .locked => k.lose
  | .lost => k

/-- R153: the monitor's lock becomes LOCKED, and a LOST checker seeks again. -/
def Checker.relock (k : Checker) : Checker :=
  match k.state with
  | .lost => k.seek
  | .seeking | .locked => k

/-! ### Events -/

/-- Whether a checker seeks at the next received bit: it is SEEKING, or LOST with the receiver locked, when that bit takes it
to SEEKING (R153). -/
def State.maySeek (s : State) (f : FaceId) : Bool :=
  match s.checkerOf f with
  | some k => k.state == .seeking || (k.state == .lost && (s.monitor f).lock == .locked)
  | none => false

def State.checkerLocked (s : State) (f : FaceId) : Bool :=
  match s.checkerOf f with
  | some k => k.state == .locked
  | none => false

/-- CHECKER_LOCK (R152): the received bits of a SEEKING checker, up to the lock. What the four commands of the checkers
stand for on the lane is log entry 23. -/
def execCheckerLock (f : FaceId) (bits : List Bool) (s : State) : Host.Outcome State Fault Refusal :=
  .next (if s.maySeek f then s.modChecker f (fun taps k => k.relock.seekBits taps bits) else s)

/-- COMPARED_UNIT (R153): the rest of the unit's bits equal their predictions. -/
def execComparedUnit (f : FaceId) (s : State) : Host.Outcome State Fault Refusal :=
  .next (
    if s.checkerLocked f then s.modChecker f (fun taps k => k.matchBits taps (unitSize - k.unitBits)) else s)

/-- R153: the report of a 256th mismatch. -/
def State.reportMismatch (s : State) (f : FaceId) : State := s.tell (s.faceReport .testMismatch f none)

/-- TEST_MISMATCH (R153): a run of wrong bits up to the 256th of one unit; each is counted, the checker enters LOST, and the
report is made. -/
def execTestMismatch (f : FaceId) (s : State) : Host.Outcome State Fault Refusal :=
  .next (
    if s.checkerLocked f then
      (s.modChecker f (fun _ k => k.wrongRun)).reportMismatch f
    else s)

/-- BIT_MISMATCH (R153): `n` matching bits and then one that is not. -/
def execBitMismatch (f : FaceId) (n : Nat) (s : State) : Host.Outcome State Fault Refusal :=
  .next (
    if s.checkerLocked f then
      let s1 := s.modChecker f (fun taps k => k.matchBits taps n)
      if (s1.checkerOf f).any (fun k => decide (k.unitMismatches ≥ 255))
      then (s1.modChecker f (fun _ k => k.overflowUnit)).reportMismatch f
      else s1.modChecker f (fun taps k => k.mismatchBit taps)
    else s)

end Sys2Proof.Machine
end

