-- ==== Sys2Proof/Machine/Operands.lean ====
section
/-! DEFINITION. Decoding of request bodies, page records and training words: each field's encoding and range
(spec/12 R173 to R179; the ranges are those of spec/02 R16, spec/04 R69, spec/06 R112, spec/07, spec/08, spec/09). A
decoder answers none for a reserved encoding or a value out of range. -/

namespace Sys2Proof.Machine

/-! ### Fields -/

/-- An index below `n`. -/
def finAt (n : Nat) (bs : List Byte) (i : Nat) : Option (Fin n) :=
  if h : byteAt bs i < n then some ⟨byteAt bs i, h⟩ else none

/-- A number from `lo` to `hi`. -/
def rangeAt (lo hi : Nat) (bs : List Byte) (i : Nat) : Option Nat :=
  if lo ≤ byteAt bs i ∧ byteAt bs i ≤ hi then some (byteAt bs i) else none

/-- A yes-or-no field. -/
def flagAt (bs : List Byte) (i : Nat) : Option Bool :=
  match byteAt bs i with
  | 0 => some false
  | 1 => some true
  | _ => none

/-- A set of `w` members in one byte; a bit that names no member is out of range. -/
def setAt (w : Nat) (bs : List Byte) (i : Nat) : Option (BitVec w) :=
  if byteAt bs i < 2 ^ w then some (BitVec.ofNat w (byteAt bs i)) else none

/-- A set of faces in two bytes; every bit names a face. -/
def facesAt (bs : List Byte) (i : Nat) : FaceSet := BitVec.ofNat 16 (le16At bs i)

/-- A tap set or 31-stage value in four bytes; bit 31 names no stage. -/
def stagesAt (bs : List Byte) (i : Nat) : Option Stages :=
  if le32At bs i < 2 ^ 31 then some (BitVec.ofNat 31 (le32At bs i)) else none

def rateAt (bs : List Byte) (i : Nat) : Option Rate :=
  match byteAt bs i with
  | 0 => some .r25
  | 1 => some .r50
  | 2 => some .r100
  | _ => none

/-- A minimum width of 1, 2 or 4. -/
def widthAt (bs : List Byte) (i : Nat) : Option Nat :=
  if byteAt bs i ∈ [1, 2, 4] then some (byteAt bs i) else none

def severityAt (bs : List Byte) (i : Nat) : Option Severity :=
  match byteAt bs i with
  | 0 => some .critical
  | 1 => some .major
  | 2 => some .minor
  | _ => none

def sourceAt (bs : List Byte) (i : Nat) : Option Source :=
  match byteAt bs i with
  | 0 => some .none
  | 1 => some .present
  | 2 => some .alert
  | 3 => some .wake
  | 4 => some .tallyThreshold
  | 5 => some .slipBurst
  | 6 => some .marginLow
  | 7 => some .signalLost
  | _ => none

/-- An edge mode, or absent. -/
def edgeModeAt (bs : List Byte) (i : Nat) : Option (Option EdgeMode) :=
  match byteAt bs i with
  | 0 => some (some .rise)
  | 1 => some (some .fall)
  | 2 => some (some .either)
  | 0xFF => some none
  | _ => none

/-- An action, or absent. -/
def actionAt (bs : List Byte) (i : Nat) : Option (Option Action) :=
  match byteAt bs i with
  | 0 => some (some .retrain)
  | 1 => some (some .hold)
  | 2 => some (some .release)
  | 3 => some (some .capture)
  | 4 => some (some .notify)
  | 0xFF => some none
  | _ => none

def slotPlanAt (bs : List Byte) (i : Nat) : Option SlotPlan :=
  match byteAt bs i with
  | 0 => some .short
  | 1 => some .long
  | _ => none

def bitTimeAt (bs : List Byte) (i : Nat) : Option BitTime :=
  match byteAt bs i with
  | 0 => some .us1
  | 1 => some .us2
  | 2 => some .us4
  | _ => none

def startWidthAt (bs : List Byte) (i : Nat) : Option StartWidth :=
  match byteAt bs i with
  | 0 => some .w3
  | 1 => some .w5
  | 2 => some .w7
  | _ => none

def modeAt (bs : List Byte) (i : Nat) : Option FrameMode :=
  match byteAt bs i with
  | 0 => some .continuous
  | 1 => some .quiet
  | _ => none

def facesChoiceAt (bs : List Byte) (i : Nat) : Option FacesChoice :=
  match byteAt bs i with
  | 0 => some .c
  | 1 => some .s
  | 2 => some .both
  | _ => none

/-- A map entry: a cable lane, or NONE. -/
def mapEntryAt (bs : List Byte) (i : Nat) : Option (Option Lane) :=
  if byteAt bs i = 0xFF then some none else (finAt 8 bs i).map some

/-- A plan entry, two bytes: a leg, or UNUSED, and a position 0 to 3 (log entry 20). -/
def planEntryAt (bs : List Byte) (i : Nat) : Option (Option Place) :=
  match finAt 4 bs (i + 1) with
  | none => none
  | some pos => if byteAt bs i = 0xFF then some none else (finAt 4 bs i).map (fun l => some ⟨l, pos⟩)

/-- The eight values of a function of the index. -/
def vector8 {α : Type} (g : Nat → α) : Vector α 8 := #v[g 0, g 1, g 2, g 3, g 4, g 5, g 6, g 7]

/-- The sixteen values of a function of the index. -/
def vector16 {α : Type} (g : Nat → α) : Vector α 16 :=
  #v[g 0, g 1, g 2, g 3, g 4, g 5, g 6, g 7, g 8, g 9, g 10, g 11, g 12, g 13, g 14, g 15]

def fourOf {α : Type} (g : Nat → α) : Vector α 4 := #v[g 0, g 1, g 2, g 3]

/-- Every index below `n` decodes. -/
def allDecode {α : Type} (n : Nat) (g : Nat → Option α) : Bool := (List.range n).all (fun k => (g k).isSome)

/-- Eight map entries from offset `i`. -/
def mapAt (bs : List Byte) (i : Nat) : Option (Vector (Option Lane) 8) :=
  if allDecode 8 (fun k => mapEntryAt bs (i + k)) then some (vector8 (fun k => (mapEntryAt bs (i + k)).getD none)) else none

/-- Eight plan entries from offset `i`. -/
def planAt (bs : List Byte) (i : Nat) : Option (Vector (Option Place) 8) :=
  if allDecode 8 (fun k => planEntryAt bs (i + 2 * k))
  then some (vector8 (fun k => (planEntryAt bs (i + 2 * k)).getD none)) else none

/-- The six fields pre, post, peaking, gain, dfe1, dfe2 of a set, each in its range (R69). The condition on pre plus post
is `EqSet.valid`. -/
def eqSetAt (bs : List Byte) (i : Nat) : Option EqSet :=
  let e : EqSet := ⟨⟨byteAt bs i, byteAt bs (i + 1)⟩,
    ⟨byteAt bs (i + 2), byteAt bs (i + 3), signedAt bs (i + 4), signedAt bs (i + 5)⟩⟩
  if e.tx.pre ≤ 10 ∧ e.tx.post ≤ 14 ∧ e.rx.peaking ≤ 15 ∧ e.rx.gain ≤ 31 ∧ -31 ≤ e.rx.dfe1 ∧ e.rx.dfe1 ≤ 31
      ∧ -15 ≤ e.rx.dfe2 ∧ e.rx.dfe2 ≤ 15
  then some e else none

/-- The eight leg parameters in the order of SET LEG PARAMS (R176) and of the DEFAULTS record, in the ranges of R16. -/
def legParamsAt (enabled : Bool) (bs : List Byte) (i : Nat) : Option LegDefaults := do
  let rate ← rateAt bs i
  let minimum ← widthAt bs (i + 1)
  let budget ← rangeAt 1 7 bs (i + 2)
  let limit ← rangeAt 1 255 bs (i + 3)
  let hold ← rangeAt 1 255 bs (i + 4)
  let trim ← rangeAt 0 60 bs (i + 5)
  let floor ← rangeAt 0 63 bs (i + 6)
  let slips ← rangeAt 1 255 bs (i + 7)
  return ⟨enabled, rate, minimum, budget, limit, hold, trim, floor, slips⟩

/-- Slot plan, bit time and start width. -/
def framePlanAt (bs : List Byte) (i : Nat) : Option FramePlan := do
  let slots ← slotPlanAt bs i
  let bit ← bitTimeAt bs (i + 1)
  let start ← startWidthAt bs (i + 2)
  return ⟨slots, bit, start⟩

/-- One error kind's number, 1 to 14, as its index. -/
def kindAt (bs : List Byte) (i : Nat) : Option (Fin 14) :=
  if h : 1 ≤ byteAt bs i ∧ byteAt bs i ≤ 14 then some ⟨byteAt bs i - 1, by omega⟩ else none

/-- A kind mask in two bytes, kinds 1 to 12 only (R132). -/
def kindMaskAt (bs : List Byte) (i : Nat) : Option KindMask :=
  if le16At bs i < 2 ^ 12 then some (BitVec.ofNat 12 (le16At bs i)) else none

/-! ### Bodies -/

/-- A body's length is checked before any field (R179). -/
def ofLength {α : Type} (n : Nat) (body : List Byte) (d : Option α) : Option α := if body.length = n then d else none

/-- A body of one leg number. -/
def legBody (body : List Byte) : Option LegId := ofLength 1 body (finAt 4 body 0)

/-- A body of one face index. -/
def faceBody (body : List Byte) : Option FaceId := ofLength 1 body (finAt 16 body 0)

/-- A body of one page number. -/
def pageBody (body : List Byte) : Option PageId := ofLength 1 body (finAt 4 body 0)

/-- STAGE FACE: a face and a valid set (R74). -/
def stageBody (body : List Byte) : Option (FaceId × EqSet) := ofLength 7 body (do
  let f ← finAt 16 body 0
  let e ← eqSetAt body 1
  if e.valid then some (f, e) else none)

/-- SET REACTION: a leg, a slot number and the fields of a slot record that agree with the source (R119). -/
def reactionBody (body : List Byte) : Option (LegId × SlotId × Slot) := ofLength 5 body (do
  let l ← finAt 4 body 0
  let j ← finAt 4 body 1
  let source ← sourceAt body 2
  let edge ← edgeModeAt body 3
  let action ← actionAt body 4
  let agrees :=
    match source with
    | .none => edge.isNone && action.isNone
    | .present | .alert | .wake => edge.isSome && action.isSome
    | .tallyThreshold | .slipBurst | .marginLow | .signalLost => edge.isNone && action.isSome
  if agrees then some (l, j, ⟨source, edge, action, 0⟩) else none)

/-- SET ERROR KIND (R131). -/
def kindBody (body : List Byte) : Option (Fin 14 × KindSetting) := ofLength 3 body (do
  let k ← kindAt body 0
  let enable ← flagAt body 1
  let sev ← severityAt body 2
  return (k, ⟨enable, sev⟩))

/-- SET TALLY (R132): a leg, a kind mask and a threshold. -/
def tallyBody (body : List Byte) : Option (LegId × KindMask × Nat) := ofLength 4 body (do
  let l ← finAt 4 body 0
  let m ← kindMaskAt body 1
  return (l, m, byteAt body 3))

/-- FRAME CONTROL (R145): enable, mode and halt. -/
def controlBody (body : List Byte) : Option (Bool × FrameMode × Bool) := ofLength 3 body (do
  let enable ← flagAt body 0
  let mode ← modeAt body 1
  let halt ← flagAt body 2
  return (enable, mode, halt))

/-- The fields of TEST START as carried. -/
structure TestOrder where
  leg    : LegId
  faces  : FacesChoice
  taps   : Stages
  seed   : Stages
  limit  : Nat
  deriving DecidableEq, Repr

/-- TEST START (R151, R149): the tap set holds stage 31, the seed is not 0 and the limit is 0 to 3600. -/
def testBody (body : List Byte) : Option TestOrder := ofLength 12 body (do
  let l ← finAt 4 body 0
  let choice ← facesChoiceAt body 1
  let taps ← stagesAt body 2
  let seed ← stagesAt body 6
  let limit := le16At body 10
  if setHas taps 30 && seed != 0#31 && decide (limit ≤ 3600) then some ⟨l, choice, taps, seed, limit⟩ else none)

/-! ### Page records (R177) -/

/-- The length of a page's record. -/
def recordLength (p : PageId) : Nat :=
  if p = 0 then 43 else if p = 1 then 96 else if p = 2 then 41 else 96

/-- The CABLE record's fields are in range. -/
def cableInRange (r : List Byte) : Bool :=
  (List.range 16).all (fun k => decide (0x20 ≤ byteAt r k) && decide (byteAt r k ≤ 0x7E))
    && decide (byteAt r 16 ≤ 99) && (rangeAt 1 53 r 17).isSome && (rangeAt 1 14 r 18).isSome
    && (planAt r 19).isSome && (mapAt r 35).isSome

/-- The presets of a PRESETS record. -/
def presetAt (r : List Byte) (k : Nat) : Option EqSet := eqSetAt r (6 * k)

/-- One leg's part of a DEFAULTS record. -/
def legDefaultsAt (r : List Byte) (k : Nat) : Option LegDefaults :=
  match flagAt r (9 * k) with
  | some enabled => legParamsAt enabled r (9 * k + 1)
  | none => none

/-- Every field of a page's record is a defined encoding within its range (R161 check 1). -/
def recordInRange (p : PageId) (r : List Byte) : Bool :=
  decide (r.length = recordLength p) &&
    (if p = 0 then cableInRange r
     else if p = 1 then allDecode 16 (presetAt r)
     else if p = 2 then allDecode 4 (legDefaultsAt r) && (framePlanAt r 36).isSome && (modeAt r 39).isSome
       && (flagAt r 40).isSome
     else true)

/-- A record with the position of each UNUSED plan entry of the CABLE page as 0 (R175; log entry 20). -/
def canonicalRecord (p : PageId) (r : List Byte) : List Byte :=
  if p = 0 then
    r.zipIdx.map (fun (b, i) =>
      if 19 ≤ i ∧ i < 35 ∧ i % 2 = 0 ∧ byteAt r (i - 1) = 0xFF then 0#8 else b)
  else r

/-- STORE WRITE: a page and its record (R161 check 1). -/
def storeWriteBody (body : List Byte) : Option (PageId × List Byte) :=
  match finAt 4 body 0 with
  | some p => if decide (body ≠ []) && recordInRange p (body.drop 1) then some (p, canonicalRecord p (body.drop 1)) else none
  | none => none

/-! ### Training words from a partner (R178, R179) -/

/-- The check of a received word. -/
def wordChecks (w : RawWord) (kind : Byte) : Bool := w.check == crc8 [kind, w.b1, w.b2]

/-- A received ANNOUNCE. -/
structure Announced where
  pos     : Pos
  width   : Nat
  rates   : RateSet
  attempt : Nat
  deriving DecidableEq, Repr

def announceOf (w : RawWord) : Option Announced :=
  let code := w.b1.toNat / 4 % 4
  if wordChecks w 1#8 && decide (w.b1.toNat < 128) && decide (code < 3) && decide (w.b2.toNat < 8)
  then some ⟨⟨w.b1.toNat % 4, by omega⟩, 2 ^ code, BitVec.ofNat 3 (w.b1.toNat / 16), w.b2.toNat⟩
  else none

inductive Tap where
  | pre | post
  deriving DecidableEq, Repr

/-- A received ADJUST: the tap, and whether the direction is UP. -/
def adjustOf (w : RawWord) : Option (Tap × Bool) :=
  if wordChecks w 2#8 && decide (w.b1.toNat < 2) && decide (w.b2.toNat < 2)
  then some (if w.b1 = 0#8 then .pre else .post, w.b2 = 0#8)
  else none

def isReadyWord (w : RawWord) : Bool := wordChecks w 4#8 && w.b1 == 0#8 && w.b2 == 0#8

/-- A received ABORT's reason. -/
def abortOf (w : RawWord) : Option AbortReason :=
  if wordChecks w 5#8 && decide (w.b1.toNat < 2) && w.b2 == 0#8
  then some (if w.b1 = 0#8 then .reset else .giveUp)
  else none

end Sys2Proof.Machine
end

