-- ==== Sys2Proof/Machine/Resets.lean ====
section
/-! DEFINITION. The resets of the whole part (spec/11 R172): the store and the load image (spec/10 R158, R159, R162), the
values every block takes (R3, R7, R17, R71, R104, R105, R112, R134, R135, R141, R142, R149, R169), and the frame that
starts at once after them. -/

namespace Sys2Proof.Machine

/-! ### The store at a reset -/

/-- R162: a reset that arrives while an operation runs stops it and tears the page. Every reset leaves the operation
IDLE (R158). -/
def Store.interrupt (x : Store) : Store :=
  match x.operation with
  | .idle => x
  | .erasing p | .writing p _ =>
    ⟨modAt x.pages p (fun page => { page with content := .torn }), .idle⟩

/-- What of the CABLE page: its plan and map where it is WRITTEN and they meet R5 together. -/
def cableOf (content : PageContent) : Option (Vector (Option Place) 8 × Vector (Option Lane) 8) :=
  match content with
  | .written r =>
    match planAt r 19, mapAt r 35 with
    | some plan, some map => if mapValid map plan then some (plan, map) else none
    | _, _ => none
  | .blank | .torn => none

def PageContent.isWritten : PageContent → Bool
  | .written _ => true
  | .blank | .torn => false

/-- A face's preset in a WRITTEN page, where it is a valid set (R71). -/
def validPreset (r : List Byte) (k : Nat) : Option EqSet :=
  match presetAt r k with
  | some e => if e.valid then some e else none
  | none => none

/-- The presets the load image holds, a failing one replaced by the factory preset (R71). -/
def presetsOf (content : PageContent) : Vector EqSet 16 :=
  match content with
  | .written r => vector16 (fun k => (validPreset r k).getD factoryPreset)
  | .blank | .torn => Vector.replicate 16 factoryPreset

/-- Whether some preset of a WRITTEN page fails the check. -/
def presetsFail (content : PageContent) : Bool :=
  match content with
  | .written r => !allDecode 16 (validPreset r)
  | .blank | .torn => false

def legsOf (content : PageContent) : Vector LegDefaults 4 :=
  match content with
  | .written r => fourOf (fun k => (legDefaultsAt r k).getD factoryLeg)
  | .blank | .torn => Vector.replicate 4 factoryLeg

/-- Frame plan, mode and enable of the DEFAULTS page. -/
def frameOf (content : PageContent) : FramePlan × FrameMode × Bool :=
  match content with
  | .written r => ((framePlanAt r 36).getD factoryPlan, (modeAt r 39).getD .continuous, (flagAt r 40).getD true)
  | .blank | .torn => (factoryPlan, .continuous, true)

/-- R159: the load image. The default plan and map are used together when the CABLE page gives none (R4). -/
def loadImage (pages : Vector Page 4) : Image :=
  let cable := (cableOf pages[0].content).getD (defaultPlan, defaultMap)
  let frame := frameOf pages[2].content
  { plan := cable.1, map := cable.2, presets := presetsOf pages[1].content, legs := legsOf pages[2].content,
    framePlan := frame.1, mode := frame.2.1, enable := frame.2.2 }

/-- The details of the STORE FAULT reports of one reset, in order (R159): TORN pages, the CABLE check, the PRESETS
check. -/
def storeFaults (pages : Vector Page 4) : List Nat :=
  (allPages.filter (fun p => pages[p].content == .torn)).map (·.val)
    ++ (if pages[0].content.isWritten && (cableOf pages[0].content).isNone then [0] else [])
    ++ (if presetsFail pages[1].content then [1] else [])

/-! ### The blocks' values -/

/-- R134: the error unit at a reset, before the load image is read. -/
def ErrorUnit.afterReset (e : ErrorUnit) (c : ResetCause) : ErrorUnit :=
  let kept : ErrorUnit := { e with settings := defaultSettings, tallies := Vector.replicate 4 defaultTally }
  match c with
  | .power => { kept with critical := emptyLog, major := emptyLog, minor := emptyLog }
  | .pin | .request => kept

/-- R172: stamp, epoch and reset cause. A reset takes no time on the stamp, which runs on across it (log entry 42). -/
def Clock.afterReset (k : Clock) (c : ResetCause) : Clock :=
  match c with
  | .power => ⟨0#32, 0, 0, .power⟩
  | .pin | .request => { k with epoch := min 255 (k.epoch + 1), resetCause := c }

/-- R135: the filtered level becomes not asserted and the timer starts over; the wire has its level from outside. -/
def Filter.afterReset (x : Filter) : Filter := ⟨x.wireLow, false, 0⟩

def LegWires.afterReset (w : LegWires) : LegWires :=
  ⟨w.present.afterReset, w.alert.afterReset, w.wake.afterReset, false⟩

/-- R17: the leg context at a reset. -/
def legAfterReset (image : Image) (l : LegId) : Leg :=
  let w := widthIn image.map image.plan l
  let d := image.legs[l]
  freshLeg d w (if !d.enabled || w == 0 then .off else .absent)

/-- R7: a mapped path is PARKED, each other one UNMAPPED. -/
def pathAfterReset (image : Image) (p : PathId) : PathState :=
  if (placeIn image.map image.plan p).isSome then .parked else .unmapped

/-- R142: the frame engine before the frame that starts at once. The gap remaining, which R142 gives a meaning in IDLE alone,
is 0 (log entry 40). -/
def frameAfterReset (image : Image) : FrameEngine :=
  { state := .disabled, plan := image.framePlan, mode := image.mode, enableRequest := image.enable,
    modeRequest := image.mode, haltRequest := false, gap := 0, startWanted := false, snapshot := none, elapsed := 0,
    bitPhase := 0, lastSent := Vector.replicate 4 0#5, changePending := false, shortPending := false }

/-- The port at the end of a reset (R164, R172). -/
def portAfterReset (strap : BitVec 2) : Port := ⟨.ready, [], false, false, false, 0x38#7 + strap.setWidth 7⟩

/-- The first part of a reset: the notices, the port, the clock, the error unit and the store. -/
def State.beginReset (s : State) (c : ResetCause) (strap : BitVec 2) : State :=
  { s with
    notices := ⟨[], 0#6, 0⟩
    port := portAfterReset strap
    bus := .idle
    addrPins := strap
    clock := s.clock.afterReset c
    errors := s.errors.afterReset c
    table := noWork
    inFlight := []
    store := s.store.interrupt }

/-- The second part: every other block takes its values from the load image. The generators and checkers are stopped (R149)
and hold nothing (log entries 41 and 46). -/
def State.loadBlocks (s : State) (image : Image) : State :=
  { s with
    image := image
    map := image.map
    plan := image.plan
    paths := #v[pathAfterReset image 0, pathAfterReset image 1, pathAfterReset image 2, pathAfterReset image 3,
      pathAfterReset image 4, pathAfterReset image 5, pathAfterReset image 6, pathAfterReset image 7]
    legs := #v[legAfterReset image 0, legAfterReset image 1, legAfterReset image 2, legAfterReset image 3]
    resultOwed := 0#16
    faces := image.presets.map freshFace
    monitors := Vector.replicate 16 (idleMonitor 16)
    engine := freshEngine
    slots := Vector.replicate 4 (Vector.replicate 4 emptySlot)
    wires := s.wires.map LegWires.afterReset
    frame := frameAfterReset image
    tests := Vector.replicate 4 none
    generators := Vector.replicate 16 none }

/-- A reset of the whole part, to its end (R172). `strap` is ADDR[1:0] at the end. -/
def State.resetPart (s : State) (c : ResetCause) (strap : BitVec 2) : State :=
  let s1 := s.beginReset c strap
  let pages := s1.store.pages
  let s2 := (storeFaults pages).foldl (fun s d => s.report (s.partReport .storeFault (some d))) s1
  let s3 := s2.loadBlocks (loadImage pages)
  if s3.frame.enableRequest then s3.startFrame else s3

/-! ### The two resets from outside (their operand is log entry 25) -/

/-- POWER_ON (R172). -/
def execPowerOn (strap : BitVec 2) (s : State) : Host.Outcome State Fault Refusal := .next (s.resetPart .power strap)

/-- PIN_RESET (R172). -/
def execPinReset (strap : BitVec 2) (s : State) : Host.Outcome State Fault Refusal := .next (s.resetPart .pin strap)

end Sys2Proof.Machine
end

