-- ==== Sys2Proof/Machine/Port.lean ====
section
/-! DEFINITION. The management port's shared operations and its events (spec/11 R164 to R167, R171): taking a request,
replies, reads, faulty frames, and the pending PART RESET. -/

namespace Sys2Proof.Machine

/-- What a request's owning block hands back: the state after its action, the result and the reply body. -/
structure Answer where
  state  : State
  result : Result
  body   : List Byte

/-- A request taken and answered DONE with a body. -/
def Answer.ok (s : State) (body : List Byte) : Answer := ⟨s, .done, body⟩

/-- A refusal, or any result with an empty body. -/
def Answer.plain (s : State) (r : Result) : Answer := ⟨s, r, []⟩

def PortState.isHeld : PortState → Bool
  | .replyHeld _ => true
  | .ready | .working _ => false

def PortState.isWorking : PortState → Bool
  | .working _ => true
  | .ready | .replyHeld _ => false

/-- R166: a write while the port is WORKING sets the overrun marker and does nothing else. -/
def State.overrunWrite (s : State) : State := s.modPort (fun p => { p with overrun := true })

/-- A write is put into the request buffer, which keeps its first 132 bytes (R164); a reply held is discarded (R165). -/
def State.acceptWrite (s : State) (bytes : List Byte) : State :=
  s.modPort (fun p => { p with state := .ready, request := bytes.take keptBytes, arrivedHeld := p.state.isHeld })

/-- R165: the FRAME ERROR reply, formed at once. It echoes TAG and CODE where LEN is 0-128 and there are 3 bytes. -/
def State.frameErrorReply (s : State) (bytes : List Byte) : State :=
  let echo := decide (byteAt bytes 0 ≤ 128) && decide (bytes.length ≥ 3)
  let w : Work := if echo then ⟨bytes.getD 1 0#8, bytes.getD 2 0#8, .frameError, []⟩ else ⟨0#8, 0#8, .frameError, []⟩
  let s1 := s.acceptWrite bytes
  s1.modPort (fun p => { p with state := .replyHeld (replyFrame w s.replyFlags) })

/-- R171: the pending PART RESET, begun by a read or a write. -/
def State.requestReset (s : State) : State := s.resetPart .request s.addrPins

/-- A write arrives: `taken` says what happens where the port takes it (R165, R166, R171). -/
def State.takeWrite (s : State) (taken : State → State) : State :=
  if s.port.state.isWorking then s.overrunWrite
  else if s.port.resetPending then s.requestReset
  else taken s

/-- Only DONE and the NONE of FETCH NOTICE have a body (R167). -/
def Result.hasBody : Result → Bool
  | .done | .none => true
  | .accepted | .frameError | .unknown | .invalid | .wrongState | .busy | .locked | .notBlank | .faceBusy => false

/-- The owning block acts and hands back its result; the port stays WORKING until it has formed the reply (R165). -/
def State.runRequest (s : State) (tag code : Byte) (body : List Byte) (act : State → Answer) : State :=
  let a := act (s.acceptWrite (requestFrame tag code body))
  a.state.modPort (fun p => { p with
    state := .working ⟨tag, code, a.result, if a.result.hasBody then a.body else []⟩ })

/-- A write of a request's frame. A body above 128 bytes makes the frame a faulty one (log entry 4). -/
def takeRequest (code tag : Byte) (body : List Byte) (act : State → Answer) (s : State) : Host.Outcome State Fault Refusal :=
  .next (s.takeWrite (fun s =>
    if body.length ≤ 128 then s.runRequest tag code body act
    else s.frameErrorReply (requestFrame tag code body)))

/-- A request whose body decodes, or else INVALID (R179). -/
def withOperand {α : Type} (s : State) (operand : Option α) (act : α → Answer) : Answer :=
  match operand with
  | some a => act a
  | none => .plain s .invalid

/-- A request that carries no body. -/
def withEmpty (s : State) (body : List Byte) (act : Answer) : Answer :=
  if body = [] then act else .plain s .invalid

/-! ### Port events -/

/-- FRAME_ERROR (R165). A write without bytes is an address probe (R164); a valid frame is a request. -/
def execFrameError (bytes : List Byte) (s : State) : Host.Outcome State Fault Refusal :=
  .next (if bytes = [] ∨ frameOk bytes = true then s else s.takeWrite (fun s => s.frameErrorReply bytes))

/-- UNKNOWN (R165): the CODE names no request, and no block acts. -/
def execUnknown (tag code : Byte) (body : List Byte) (s : State) : Host.Outcome State Fault Refusal :=
  if code.toNat ∈ requestCodes then .next s else takeRequest code tag body (fun s => .plain s .unknown) s

/-- WRITE_WHILE_WORKING (R166). -/
def execWriteWhileWorking (s : State) : Host.Outcome State Fault Refusal :=
  .next (if s.port.state.isWorking then s.overrunWrite else s)

/-- REPLY_FORMED (R166, R167): the reply is formed with its flags, the overrun marker is cleared, and the port enters
REPLY HELD. -/
def execReplyFormed (s : State) : Host.Outcome State Fault Refusal :=
  .next (
    match s.port.state with
    | .working w => s.modPort (fun p => { p with state := .replyHeld (replyFrame w s.replyFlags), overrun := false })
    | .ready | .replyHeld _ => s)

/-- The bytes a read of `count` bytes is supplied: the reply from LEN onward and then 0xFF (R167). -/
def suppliedBytes (reply : List Byte) (count : Nat) : List Byte :=
  reply.take count ++ List.replicate (count - reply.length) 0xFF#8

/-- R167: a read that reaches CHECK delivers the reply, and the port enters READY. -/
def State.deliver (s : State) : State := s.modPort (fun p => { p with state := .ready })

/-- REPLY_READ (R167), and the PART RESET that begins at the end of a read that reaches CHECK (R171). -/
def execReplyRead (count : Nat) (s : State) : Host.Outcome State Fault Refusal :=
  .next (
    match s.port.state with
    | .replyHeld reply =>
      let s1 := { s with readData := suppliedBytes reply count }
      if count < reply.length then s1
      else if s.port.resetPending then s1.requestReset
      else s1.deliver
    | .ready | .working _ => { s with readData := suppliedBytes [] count })

/-- PART_RESET_EXECUTE (R171, R172): with a reset pending and its reply held, the read that reaches CHECK or the write
arrives and the reset is performed (log entries 5 and 25). A pin reset that extends it makes the cause PIN and counts the epoch no further. -/
def execPartResetExecute (trigger : ResetTrigger) (strap : BitVec 2) (pinExtends : Bool) (s : State) :
    Host.Outcome State Fault Refusal :=
  .next (
    match s.port.state with
    | .replyHeld reply =>
      if s.port.resetPending then
        let s1 := if trigger = .read then { s with readData := reply } else s
        s1.resetPart (if pinExtends then .pin else .request) strap
      else s
    | .ready | .working _ => s)

end Sys2Proof.Machine
end

