-- ==== Sys2Proof/Machine/FaceCommands.lean ====
section
/-! DEFINITION. Face Settings' requests (spec/04 R73 to R82). -/

namespace Sys2Proof.Machine

/-- READ FACE (R82). -/
def readFaceAct (body : List Byte) (s : State) : Answer := withOperand s (faceBody body) (fun f => .ok s (s.faceBytes f))

def execReadFace (tag : Byte) (body : List Byte) (s : State) : Host.Outcome State Fault Refusal :=
  takeRequest 0x30#8 tag body (readFaceAct body) s

/-- STAGE FACE (R74). -/
def stageFaceAct (body : List Byte) (s : State) : Answer :=
  withOperand s (stageBody body) (fun (f, e) => .plain (s.modFace f (fun x => { x with staged := e })) .done)

def execStageFace (tag : Byte) (body : List Byte) (s : State) : Host.Outcome State Fault Refusal :=
  takeRequest 0x31#8 tag body (stageFaceAct body) s

/-- R75: what a commit does for one named face, by the state of its path. -/
def State.commitFace (s : State) (f : FaceId) : State :=
  match s.path (facePath f) with
  | .unmapped | .parked | .benched => s.settleFace f
  | .passing => (s.modFace f (fun x => { x with pending := true, swapOnCompletion := true })).requestTrim f .settings
  | .training | .testing => s

/-- R75: the pending flags are set, and then each named face is acted on in face-index order. -/
def State.commitFaces (s : State) (fs : List FaceId) : State :=
  fs.foldl (fun s f => s.commitFace f) (fs.foldl (fun s f => s.modFace f (fun x => { x with pending := true })) s)

/-- A body of one set of faces. -/
def faceSetBody (body : List Byte) : Option FaceSet := ofLength 2 body (some (facesAt body 0))

/-- COMMIT FACES (R75). -/
def commitFacesAct (body : List Byte) (s : State) : Answer :=
  withOperand s (faceSetBody body) (fun fs => .plain (s.commitFaces (facesOf fs)) .done)

def execCommitFaces (tag : Byte) (body : List Byte) (s : State) : Host.Outcome State Fault Refusal :=
  takeRequest 0x32#8 tag body (commitFacesAct body) s

def State.setPinned (s : State) (f : FaceId) (b : Bool) : State := s.modFace f (fun x => { x with pinned := b })

/-- PIN FACE (R79). -/
def pinFaceAct (body : List Byte) (s : State) : Answer :=
  withOperand s (faceBody body) (fun f => .plain (s.setPinned f true) .done)

def execPinFace (tag : Byte) (body : List Byte) (s : State) : Host.Outcome State Fault Refusal :=
  takeRequest 0x33#8 tag body (pinFaceAct body) s

/-- UNPIN FACE (R79). -/
def unpinFaceAct (body : List Byte) (s : State) : Answer :=
  withOperand s (faceBody body) (fun f => .plain (s.setPinned f false) .done)

def execUnpinFace (tag : Byte) (body : List Byte) (s : State) : Host.Outcome State Fault Refusal :=
  takeRequest 0x34#8 tag body (unpinFaceAct body) s

end Sys2Proof.Machine
end

