-- ==== Sys2Proof/Machine/LegCommands.lean ====
section
/-! DEFINITION. The leg controllers' requests (spec/02 R20 to R45). -/

namespace Sys2Proof.Machine

/-- A request that carries one leg number. -/
def legRequest (body : List Byte) (s : State) (act : LegId → Answer) : Answer := withOperand s (legBody body) act

/-- READ LEG (R45). -/
def readLegAct (body : List Byte) (s : State) : Answer := legRequest body s (fun l => .ok s (s.legBytes l))

def execReadLeg (tag : Byte) (body : List Byte) (s : State) : Host.Outcome State Fault Refusal :=
  takeRequest 0x20#8 tag body (readLegAct body) s

/-- R22: an OFF leg is enabled and goes to HELD or, keeping its hold request, to ABSENT. -/
def State.enableLeg (s : State) (l : LegId) : State :=
  let s1 := s.modLeg l (fun x => { x with enabled := true })
  if (s.wiresOf l).present.asserted then s1.enterHeld l .first else (s1.clearCounts l).setLegState l .absent

/-- LEG ENABLE (R22). -/
def legEnableAct (body : List Byte) (s : State) : Answer :=
  legRequest body s (fun l =>
    if (s.leg l).configuredWidth = 0 then .plain s .wrongState
    else if (s.leg l).state = .off then .plain (s.legEvent l .enable (fun s => s.enableLeg l)) .done
    else .plain s .done)

def execLegEnable (tag : Byte) (body : List Byte) (s : State) : Host.Outcome State Fault Refusal :=
  takeRequest 0x21#8 tag body (legEnableAct body) s

/-- R23: enabled becomes no; a leg that is not OFF goes to OFF, and an OFF leg's hold request clears. -/
def State.disableLeg (s : State) (l : LegId) : State :=
  let s1 := s.modLeg l (fun x => { x with enabled := false })
  if (s.leg l).state = .off then s1.clearHold l else s1.goDown l .off

/-- LEG DISABLE (R23). -/
def legDisableAct (body : List Byte) (s : State) : Answer :=
  legRequest body s (fun l => .plain (s.legEvent l .disable (fun s => s.disableLeg l)) .done)

def execLegDisable (tag : Byte) (body : List Byte) (s : State) : Host.Outcome State Fault Refusal :=
  takeRequest 0x22#8 tag body (legDisableAct body) s

/-- LEG HOLD (R28). -/
def legHoldAct (body : List Byte) (s : State) : Answer :=
  legRequest body s (fun l => .plain (s.legEvent l (.train .host) (fun s => s.holdLeg l .host)) .done)

def execLegHold (tag : Byte) (body : List Byte) (s : State) : Host.Outcome State Fault Refusal :=
  takeRequest 0x23#8 tag body (legHoldAct body) s

/-- LEG RELEASE (R29). -/
def legReleaseAct (body : List Byte) (s : State) : Answer :=
  legRequest body s (fun l => .plain (s.legEvent l (.train .host) (fun s => s.releaseLeg l)) .done)

def execLegRelease (tag : Byte) (body : List Byte) (s : State) : Host.Outcome State Fault Refusal :=
  takeRequest 0x24#8 tag body (legReleaseAct body) s

/-- LEG RETRAIN (R37). -/
def legRetrainAct (body : List Byte) (s : State) : Answer :=
  legRequest body s (fun l =>
    match (s.leg l).state with
    | .active | .degraded => .plain (s.legEvent l (.train .host) (fun s => s.startSeries l .host)) .done
    | .failed => .plain (s.legEvent l (.train .host) (fun s => s.enterHeld l .host)) .done
    | .off | .absent | .held | .training | .test => .plain s .wrongState)

def execLegRetrain (tag : Byte) (body : List Byte) (s : State) : Host.Outcome State Fault Refusal :=
  takeRequest 0x25#8 tag body (legRetrainAct body) s

/-- R38: the excluded set is emptied; a DEGRADED leg starts a series. -/
def State.restoreWidth (s : State) (l : LegId) : State :=
  let s1 := s.modLeg l (fun x => { x with excluded := 0#4 })
  if (s.leg l).state = .degraded then s1.startSeries l .restore else s1

/-- LEG RESTORE WIDTH (R38). -/
def legRestoreWidthAct (body : List Byte) (s : State) : Answer :=
  legRequest body s (fun l => .plain (s.legEvent l (.train .restore) (fun s => s.restoreWidth l)) .done)

def execLegRestoreWidth (tag : Byte) (body : List Byte) (s : State) : Host.Outcome State Fault Refusal :=
  takeRequest 0x26#8 tag body (legRestoreWidthAct body) s

/-- R42 step 1. -/
def State.resetStop (s : State) (l : LegId) : State :=
  match (s.leg l).state with
  | .off | .absent => (s.clearHold l).setLatch l false
  | .held | .training | .active | .degraded | .test | .failed => s.shutDown l .reset

/-- The load-image fields of a leg context (R42 step 2). -/
def Leg.reload (x : Leg) (d : LegDefaults) : Leg :=
  { x with
    enabled := d.enabled, targetRate := d.targetRate, minimumWidth := clampWidth x.configuredWidth d.minimumWidth,
    retryBudget := d.retryBudget, trainingLimit := d.trainingLimit, holdMinimum := d.holdMinimum,
    trimInterval := d.trimInterval, marginFloor := d.marginFloor, slipLimit := d.slipLimit, capture := none }

/-- R72: the faces of the leg's mapped paths reload their presets from the load image. -/
def State.reloadFaces (s : State) (l : LegId) : State :=
  (s.legFaces l).foldl (fun s f => s.modFace f (fun _ => freshFace s.image.presets[f])) s

/-- R42 step 4. -/
def State.settleLeg (s : State) (l : LegId) : State :=
  let x := s.leg l
  if !x.enabled || x.configuredWidth == 0 then s.setLegState l .off
  else if (s.wiresOf l).present.asserted then s.enterHeld l .first
  else s.setLegState l .absent

/-- R42: the four steps, and the leg's test record (R149), whose checkers hold nothing then (log entry 46). -/
def State.resetLeg (s : State) (l : LegId) : State :=
  let s1 := (s.resetStop l).setTest l none
  let s2 := s1.modLeg l (fun x => x.reload s.image.legs[l])
  let s3 := (s2.modTally l (fun t => { t with value := 0, overflow := false })).reloadFaces l
  s3.settleLeg l

/-- LEG RESET (R42). -/
def legResetAct (body : List Byte) (s : State) : Answer :=
  legRequest body s (fun l => .plain (s.legEvent l .reset (fun s => s.resetLeg l)) .done)

def execLegReset (tag : Byte) (body : List Byte) (s : State) : Host.Outcome State Fault Refusal :=
  takeRequest 0x27#8 tag body (legResetAct body) s

/-- The eight fields of SET LEG PARAMS are written together (R43). -/
def Leg.setParams (x : Leg) (d : LegDefaults) : Leg :=
  { x with
    targetRate := d.targetRate, minimumWidth := d.minimumWidth, retryBudget := d.retryBudget,
    trainingLimit := d.trainingLimit, holdMinimum := d.holdMinimum, trimInterval := d.trimInterval,
    marginFloor := d.marginFloor, slipLimit := d.slipLimit }

/-- The leg number and the parameters of SET LEG PARAMS, with enabled as a leg that keeps it. -/
def paramsBody (body : List Byte) : Option (LegId × LegDefaults) := ofLength 9 body (do
  let l ← finAt 4 body 0
  let d ← legParamsAt true body 1
  return (l, d))

/-- SET LEG PARAMS (R43). -/
def setLegParamsAct (body : List Byte) (s : State) : Answer :=
  withOperand s (paramsBody body) (fun (l, d) =>
    let w := (s.leg l).configuredWidth
    if w ≥ 1 ∧ d.minimumWidth > w then .plain s .invalid
    else
      match (s.leg l).state with
      | .off | .absent | .held => .plain (s.modLeg l (fun x => x.setParams d)) .done
      | .training | .active | .degraded | .test | .failed => .plain s .wrongState)

def execSetLegParams (tag : Byte) (body : List Byte) (s : State) : Host.Outcome State Fault Refusal :=
  takeRequest 0x28#8 tag body (setLegParamsAct body) s

end Sys2Proof.Machine
end

