-- ==== Sys2Proof/Machine/LogCommands.lean ====
section
/-! DEFINITION. The error unit's requests (spec/07 R129 to R133). -/

namespace Sys2Proof.Machine

/-- A body of one severity. -/
def severityBody (body : List Byte) : Option Severity := ofLength 1 body (severityAt body 0)

/-- READ LOG (R129). -/
def readLogAct (body : List Byte) (s : State) : Answer :=
  withOperand s (severityBody body) (fun sev => .ok s (s.errors.bytes sev))

def execReadLog (tag : Byte) (body : List Byte) (s : State) : Host.Outcome State Fault Refusal :=
  takeRequest 0x50#8 tag body (readLogAct body) s

/-- CLEAR LOG (R130). -/
def clearLogAct (body : List Byte) (s : State) : Answer :=
  withOperand s (severityBody body) (fun sev => .plain { s with errors := s.errors.setLog sev emptyLog } .done)

def execClearLog (tag : Byte) (body : List Byte) (s : State) : Host.Outcome State Fault Refusal :=
  takeRequest 0x51#8 tag body (clearLogAct body) s

/-- SET ERROR KIND (R131). -/
def setErrorKindAct (body : List Byte) (s : State) : Answer :=
  withOperand s (kindBody body) (fun (k, x) =>
    .plain { s with errors := { s.errors with settings := modAt s.errors.settings k (fun _ => x) } } .done)

def execSetErrorKind (tag : Byte) (body : List Byte) (s : State) : Host.Outcome State Fault Refusal :=
  takeRequest 0x52#8 tag body (setErrorKindAct body) s

/-- SET TALLY (R132). -/
def setTallyAct (body : List Byte) (s : State) : Answer :=
  withOperand s (tallyBody body) (fun (l, m, n) =>
    .plain (s.modTally l (fun t => { t with kinds := m, threshold := n })) .done)

def execSetTally (tag : Byte) (body : List Byte) (s : State) : Host.Outcome State Fault Refusal :=
  takeRequest 0x53#8 tag body (setTallyAct body) s

/-- CLEAR TALLY (R133). -/
def clearTallyAct (body : List Byte) (s : State) : Answer :=
  withOperand s (legBody body) (fun l => .plain (s.modTally l (fun t => { t with value := 0, overflow := false })) .done)

def execClearTally (tag : Byte) (body : List Byte) (s : State) : Host.Outcome State Fault Refusal :=
  takeRequest 0x54#8 tag body (clearTallyAct body) s

end Sys2Proof.Machine
end

