-- ==== Sys2Proof/Machine/MapCommands.lean ====
section
/-! DEFINITION. Lane Steering's requests (spec/01 R13 to R15). -/

namespace Sys2Proof.Machine

/-- READ MAP (R15). -/
def readMapAct (body : List Byte) (s : State) : Answer := withEmpty s body (.ok s s.mapBytes)

def execReadMap (tag : Byte) (body : List Byte) (s : State) : Host.Outcome State Fault Refusal :=
  takeRequest 0x10#8 tag body (readMapAct body) s

/-- R13: whether a load of `map` changes a leg: a path assigned to it in either map has another entry. -/
def State.changedBy (s : State) (map : Vector (Option Lane) 8) (l : LegId) : Bool :=
  allPaths.any (fun p =>
    (s.pathLeg p == some l || (placeIn map s.plan p).map (·.leg) == some l) && s.map[p] != map[p])

/-- Whether a face has a job, a held result or an owed result (R13 check 4). -/
def State.faceBusy (s : State) (f : FaceId) : Bool :=
  !s.engineFree f || s.engine.held.any (fun j => j.face == f) || setHas s.resultOwed f.val

/-- R14 for one path, the new map being in force: `before` is its place under the old one. -/
def State.remapPath (s : State) (before : Option Place) (p : PathId) : State :=
  match before, s.place p with
  | some _, none => s.setPath p .unmapped
  | none, some _ => s.setPath p .parked
  | some _, some _ | none, none => s

/-- R14 for a changed leg. -/
def State.rewidthLeg (s : State) (l : LegId) : State :=
  let w := widthIn s.map s.plan l
  s.modLeg l (fun x => { x with
    configuredWidth := w, excluded := 0#4, minimumWidth := clampWidth w x.minimumWidth })

/-- R14: the load of a map. -/
def State.loadMap (s : State) (map : Vector (Option Lane) 8) : State :=
  let changed := allLegs.filter (s.changedBy map)
  let s1 := allPaths.foldl (fun t p => t.remapPath (s.place p) p) { s with map := map }
  changed.foldl (fun t l => t.rewidthLeg l) s1

/-- LOAD MAP: the checks of R13 in order. -/
def loadMapAct (body : List Byte) (s : State) : Answer :=
  withOperand s (ofLength 8 body (mapAt body 0)) (fun map =>
    let changed := allLegs.filter (s.changedBy map)
    if !mapValid map s.plan then .plain s .invalid
    else if !changed.all (fun l => (s.leg l).state == .off) then .plain s .wrongState
    else if changed.any (fun l => (s.legFaces l).any s.faceBusy) then .plain s .wrongState
    else .plain (s.loadMap map) .done)

def execLoadMap (tag : Byte) (body : List Byte) (s : State) : Host.Outcome State Fault Refusal :=
  takeRequest 0x11#8 tag body (loadMapAct body) s

end Sys2Proof.Machine
end

