-- ==== Sys2Proof/Machine/TestCommands.lean ====
section
/-! DEFINITION. The pattern unit's requests (spec/09 R151, R155, R157). -/

namespace Sys2Proof.Machine

/-- The chosen faces of a test of a leg (R149), in face-index order. -/
def State.chosenFaces (s : State) (l : LegId) (choice : FacesChoice) : List FaceId :=
  match choice with
  | .c => (s.groupPaths l).map cFace
  | .s => (s.groupPaths l).map sFace
  | .both => s.groupFaces l

/-- The record of a test that starts (R151 steps 1, 4 and 5). A checker of the record it replaces whose face is not chosen
holds nothing from then on (log entry 46). -/
def State.freshTest (s : State) (o : TestOrder) : TestRecord where
  status := .running
  faces := o.faces
  taps := o.taps
  seed := o.seed
  limit := o.limit
  elapsed := 0
  endCause := none
  limitTimer := if o.limit ≥ 1 then some (1000 * o.limit) else none
  checkers := (s.chosenFaces o.leg o.faces).map (fun f => ⟨f, freshChecker (s.monitor f).lock⟩)

/-- R151 steps 1 to 5, and the leg's move to TEST (R39). A face that is pending with swap on completion keeps both flags on
its TESTING path, as R78 says (log entry 39, beside the example of R82). -/
def State.startTest (s : State) (o : TestOrder) : State :=
  let l := o.leg
  let fs := s.chosenFaces l o.faces
  let s1 := s.setTest l (some (s.freshTest o))
  let s2 := (s1.modLeg l (fun x => { x with trimTimer := none })).setPaths (s1.groupPaths l) .testing
  let s3 := s2.setLegState l .test
  fs.foldl (fun s f => s.setGenerator f (some o.seed)) s3

/-- TEST START (R151). -/
def testStartAct (body : List Byte) (s : State) : Answer :=
  withOperand s (testBody body) (fun o =>
    if isLinked (s.leg o.leg).state then .plain (s.legEvent o.leg .test (fun s => s.startTest o)) .done
    else .plain s .wrongState)

def execTestStart (tag : Byte) (body : List Byte) (s : State) : Host.Outcome State Fault Refusal :=
  takeRequest 0x60#8 tag body (testStartAct body) s

/-- R155: the test ends and the leg goes to TRAINING with the cause given. -/
def State.leaveTest (s : State) (l : LegId) (c : TestEnd) (t : TrainCause) : State :=
  s.legEvent l (.train t) (fun s => (s.endTest l c).startSeries l t)

/-- TEST STOP (R155). -/
def testStopAct (body : List Byte) (s : State) : Answer :=
  withOperand s (legBody body) (fun l =>
    if (s.leg l).state = .test then .plain (s.leaveTest l .stop .testEnd) .done else .plain s .wrongState)

def execTestStop (tag : Byte) (body : List Byte) (s : State) : Host.Outcome State Fault Refusal :=
  takeRequest 0x61#8 tag body (testStopAct body) s

/-- TEST READ (R157). -/
def testReadAct (body : List Byte) (s : State) : Answer :=
  withOperand s (legBody body) (fun l =>
    match s.test l with
    | some t => .ok s t.bytes
    | none => .plain s .wrongState)

def execTestRead (tag : Byte) (body : List Byte) (s : State) : Host.Outcome State Fault Refusal :=
  takeRequest 0x62#8 tag body (testReadAct body) s

end Sys2Proof.Machine
end

