-- ==== Sys2Proof/Machine/MonitorEvents.lean ====
section
/-! DEFINITION. The lane monitors' events (spec/06 R107 to R111). -/

namespace Sys2Proof.Machine

/-- SIGNAL_PRESENT (R107). -/
def execSignalPresent (f : FaceId) (s : State) : Host.Outcome State Fault Refusal :=
  .next (if (s.monitor f).signal = .lost then s.modMonitor f (fun m => { m with signal := .present }) else s)

/-- LOCK_ACQUIRED (R108), and a LOST checker of the face seeks again (R153). -/
def execLockAcquired (f : FaceId) (s : State) : Host.Outcome State Fault Refusal :=
  .next (
    if (s.monitor f).signal = .present ∧ (s.monitor f).lock = .unlocked
    then (s.modMonitor f (fun m => { m with lock := .locked })).modChecker f (fun _ k => k.relock)
    else s)

/-- The earliest report in flight reaches its receivers, where it is the one of that kind and face, and then the reports of
other blocks that waited behind it reach theirs (R126; log entry 38). It is delivered even if the monitor has become idle or
has started again since (R110). -/
def State.deliverReport (s : State) (k : ErrorKind) (f : FaceId) : State :=
  match s.inFlight with
  | r :: rest =>
    if r.kind = k ∧ r.face = some f then (State.handOver { s with inFlight := rest } r).handWaiting else s
  | [] => s

/-- The monitor of a face hears the signal no more (R107); the report shows the leg as it stands then (R110). The face's
checker, where one runs, goes on until the loss is taken and ends the test (R153, R155; log entry 43). -/
def State.loseSignal (s : State) (f : FaceId) : State :=
  s.modMonitor f (fun m => { m with signal := .lost, lock := .unlocked })

/-- The receiver of a face loses lock (R108), and the face's checker is LOST (R153). -/
def State.loseLock (s : State) (f : FaceId) : State :=
  (s.modMonitor f (fun m => { m with lock := .unlocked })).modChecker f (fun _ k => k.unlock)

/-- SIGNAL_LOST (R107, R110, R111): the loss, its delivery, or both. -/
def execSignalLost (x : LaneReport) (s : State) : Host.Outcome State Fault Refusal :=
  .next (
    let f := x.face
    match x.delivery with
    | .delivered => s.deliverReport .signalLost f
    | .now =>
      if (s.monitor f).signal = .present
      then (s.loseSignal f).handNow (s.faceReport .signalLost f none) else s
    | .raised =>
      if (s.monitor f).signal = .present then (s.loseSignal f).raiseReport (s.faceReport .signalLost f none) else s)

/-- LOCK_LOST (R108, R110, R111): the loss, its delivery, or both. -/
def execLockLost (x : LaneReport) (s : State) : Host.Outcome State Fault Refusal :=
  .next (
    let f := x.face
    let watched := (s.monitor f).signal = .present ∧ (s.monitor f).lock = .locked
    match x.delivery with
    | .delivered => s.deliverReport .lockLost f
    | .now =>
      if watched then (s.loseLock f).handNow (s.faceReport .lockLost f none) else s
    | .raised => if watched then (s.loseLock f).raiseReport (s.faceReport .lockLost f none) else s)

/-- A slip is counted (R109). -/
def Monitor.countSlip (m : Monitor) : Monitor := { m with slips := min 65535 (m.slips + 1) }

/-- Whether a slip is the one that passes the window limit, the first time in its window (R109). -/
def Monitor.bursts (m : Monitor) : Bool := m.slips == m.windowLimit && !m.burstRaised

/-- The report of a burst, with the count as detail (R110). -/
def State.burstReport (s : State) (f : FaceId) : Report :=
  s.faceReport .slipBurst f (some (s.monitor f).countSlip.slips)

/-- SLIP (R109, R110): a slip is counted while lock is LOCKED; the one that passes the window limit is reported. -/
def execSlip (x : LaneReport) (s : State) : Host.Outcome State Fault Refusal :=
  .next (
    let f := x.face
    let m := s.monitor f
    match x.delivery with
    | .delivered => s.deliverReport .slipBurst f
    | .now | .raised =>
      if m.lock ≠ .locked then s
      else if m.bursts then
        let s1 := s.modMonitor f (fun m => { m.countSlip with burstRaised := true })
        if x.delivery = .now then s1.handNow (s.burstReport f) else s1.raiseReport (s.burstReport f)
      else s.modMonitor f Monitor.countSlip)

/-- SLIP_WINDOW_END (R109): a watching monitor begins a new window with the slip limit of its leg. -/
def execSlipWindowEnd (f : FaceId) (s : State) : Host.Outcome State Fault Refusal :=
  .next (
    if (s.monitor f).signal = .notWatched then s
    else
      s.modMonitor f (fun m => { m with
        slips := 0, burstRaised := false, windowRemaining := 100
        windowLimit := match s.faceLeg f with
          | some l => (s.leg l).slipLimit
          | none => m.windowLimit }))

end Sys2Proof.Machine
end

