-- ==== Sys2Proof/Machine/TimerEvents.lean ====
section
/-! DEFINITION. The expiries of the legs' timers (spec/02 R27, R31, R35; spec/03 R50, R64; spec/09 R154). A stopped timer
does not expire. -/

namespace Sys2Proof.Machine

/-- R27: the hold timer stops; with the hold request clear the leg leaves HELD. -/
def State.expireHold (s : State) (l : LegId) : State :=
  let s1 := s.modLeg l (fun x => { x with holdTimer := none })
  let leg := s1.leg l
  if leg.holdRequest then s1 else s1.startSeries l leg.trainingCause

/-- HOLD_TIMER_EXPIRY (R27). -/
def execHoldTimerExpiry (l : LegId) (s : State) : Host.Outcome State Fault Refusal :=
  .next (
    let leg := s.leg l
    if leg.state = .held ∧ leg.holdTimer.isSome then s.legEvent l (.train .first) (fun s => s.expireHold l) else s)

/-- The group faces of the phase being run (R64). -/
def State.phaseFaces (s : State) (l : LegId) (p : Phase) : List FaceId :=
  match p with
  | .c => (s.groupPaths l).map cFace
  | .s => (s.groupPaths l).map sFace

/-- R64: the positions of the faces that are not READY, where some of the phase are and some are not. -/
def State.lateSet (s : State) (l : LegId) (p : Phase) : PosSet :=
  let fs := s.phaseFaces l p
  let late := fs.filter (fun f => (s.face f).status != .ready)
  if late.length = fs.length then 0#4
  else late.foldl (fun g f => match s.pathPos (facePath f) with
    | some q => setAdd g q.val
    | none => g) 0#4

/-- R64: the attempt times out. -/
def State.timeOut (s : State) (l : LegId) (p : Phase) : State :=
  s.failAttempt l .timeout (s.lateSet l p) (some (.trainTimeout, none, none))

/-- TRAINING_LIMIT_EXPIRY (R31, R64). -/
def execTrainingLimitExpiry (l : LegId) (s : State) : Host.Outcome State Fault Refusal :=
  .next (
    match (s.leg l).state, (s.leg l).limitTimer, (s.leg l).record with
    | .training, some _, some r => s.legEvent l (.train .first) (fun s => s.timeOut l r.phase)
    | _, _, _ => s)

/-- R35: the faces of the leg's PASSING paths whose pinned flag is clear. -/
def State.trimFaces (s : State) (l : LegId) : List FaceId :=
  (facesOfPaths ((s.legPaths l).filter (fun p => s.path p == .passing))).filter (fun f => !(s.face f).pinned)

/-- TRIM_TIMER_EXPIRY (R35): TRIMs are requested and the timer starts again for the trim interval. -/
def execTrimTimerExpiry (l : LegId) (s : State) : Host.Outcome State Fault Refusal :=
  .next (
    let leg := s.leg l
    if isLinked leg.state ∧ leg.trimTimer.isSome then
      ((s.trimFaces l).foldl (fun s f => s.requestTrim f .leg) s).modLeg l (fun x => { x with
        trimTimer := if x.trimInterval ≥ 1 then some (1000 * x.trimInterval) else none })
    else s)

/-- TEST_LIMIT_EXPIRY (R154, R155). -/
def execTestLimitExpiry (l : LegId) (s : State) : Host.Outcome State Fault Refusal :=
  .next (
    match s.test l with
    | some t =>
      if t.status = .running ∧ t.limitTimer.isSome ∧ (s.leg l).state = .test then s.leaveTest l .limit .testEnd else s
    | none => s)

/-- The leg a word on a face belongs to, where the face's path is TRAINING and the leg holds a training record
(R46, R48). -/
def State.exchange (s : State) (f : FaceId) : Option (LegId × TrainRecord) :=
  match s.path (facePath f), s.faceLeg f with
  | .training, some l => (s.leg l).record.map (fun r => (l, r))
  | _, _ => none

/-- ANNOUNCE_REPEAT (R50): an ANNOUNCED face whose partner has not announced. -/
def execAnnounceRepeat (f : FaceId) (s : State) : Host.Outcome State Fault Refusal :=
  .next (
    match s.exchange f with
    | some (l, r) =>
      if (s.face f).status = .announced ∧ setHas r.partnerAnnounced f.val = false then s.sendAnnounce l f else s
    | none => s)

end Sys2Proof.Machine
end

