-- ==== Sys2Proof/Machine/PartnerWords.lean ====
section
/-! DEFINITION. Training words from the partners (spec/03 R48, R51 to R56, R59, R63). A word with a bad check or a
reserved encoding, or one that R48 discards, changes nothing. -/

namespace Sys2Proof.Machine

/-! ### ANNOUNCE -/

/-- What a partner ANNOUNCE comes to (R51 to R55). -/
inductive AnnounceOutcome where
  | stale | repeated | mismatch | recorded | agreed (rate : Rate) | noRate | tune
  deriving DecidableEq, Repr

/-- The rate sets of every group C-face with the offer, once `rates` is recorded for `p` (R52). -/
def State.commonRates (s : State) (l : LegId) (r : TrainRecord) (p : PathId) (rates : RateSet) : RateSet :=
  (s.groupPaths l).foldl (fun g q => g &&& (if q = p then rates else (r.partnerRates[q]).getD 0#3)) r.offered

/-- Whether the ANNOUNCE on the C-face of `p` is the last of the group (R52). -/
def State.lastAnnounce (s : State) (l : LegId) (r : TrainRecord) (p : PathId) : Bool :=
  (s.groupPaths l).all (fun q => q == p || setHas r.partnerAnnounced (cFace q).val)

/-- R51 to R55: what an ANNOUNCE that R48 lets through comes to. -/
def State.judgeAnnounce (s : State) (l : LegId) (r : TrainRecord) (f : FaceId) (a : Announced) : AnnounceOutcome :=
  if a.attempt ≠ 0 ∧ a.attempt ≠ r.attempt then .stale
  else if setHas r.partnerAnnounced f.val then .repeated
  else if s.pathPos (facePath f) ≠ some a.pos then .mismatch
  else if isCFace f then
    if s.lastAnnounce l r (facePath f) then
      match highestRate (s.commonRates l r (facePath f) a.rates) with
      | some rate => .agreed rate
      | none => .noRate
    else .recorded
  else
    match (s.leg l).agreedRate with
    | some rate => if setHas a.rates (rateIndex rate) then .tune else .noRate
    | none => .noRate

/-- R51 step 3: the ANNOUNCE is accepted and the part sends its own once more; a C-face's partner rates are recorded. -/
def State.acceptAnnounce (s : State) (l : LegId) (f : FaceId) (rates : RateSet) : State :=
  (s.modRecord l (fun r => { r with
    partnerAnnounced := setAdd r.partnerAnnounced f.val
    partnerRates := if isCFace f then modAt r.partnerRates (facePath f) (fun _ => some rates) else r.partnerRates
    })).sendAnnounce l f

/-- A face goes to TUNING: its lock becomes UNLOCKED (R106) and a SWEEP is outstanding (R57). -/
def State.enterTuning (s : State) (l : LegId) (f : FaceId) : State :=
  ((s.setStatus f .tuning).modMonitor f Monitor.unlock).modRecord l (fun r => { r with
    sweepOutstanding := setAdd r.sweepOutstanding f.val })

/-- Faces go to TUNING together, and then each has its SWEEP requested, in face-index order (R52, R57; log entry 12). -/
def State.tuneFaces (s : State) (l : LegId) (fs : List FaceId) : State :=
  fs.foldl (fun s f => s.requestSweep f) (fs.foldl (fun s f => s.enterTuning l f) s)

/-- R53: a rate failure. -/
def State.failRate (s : State) (l : LegId) : State := s.failAttempt l .rate 0#4 (some (.rateMismatch, none, none))

/-- The cause a LEG STATE notice of a word's taking would carry if the new state gave none; a word leads to TRAINING's
own exits only, which name theirs (R19). -/
def wordCause : Cause := .train .first

/-- R51 to R55: the leg controller and the exchange take an ANNOUNCE. -/
def State.takeAnnounce (s : State) (l : LegId) (r : TrainRecord) (f : FaceId) (a : Announced) : State :=
  match s.judgeAnnounce l r f a with
  | .stale => s
  | .repeated => s.sendAnnounce l f
  | .mismatch => s.legEvent l wordCause (fun s => s.laneFault l f (some .positionMismatch))
  | .recorded => s.acceptAnnounce l f a.rates
  | .agreed rate =>
    ((s.acceptAnnounce l f a.rates).modLeg l (fun x => { x with agreedRate := some rate })).tuneFaces l
      ((s.groupPaths l).map cFace)
  | .noRate => s.legEvent l wordCause (fun s => (s.acceptAnnounce l f a.rates).failRate l)
  | .tune => (s.acceptAnnounce l f a.rates).tuneFaces l [f]

/-- PARTNER_ANNOUNCE (R48, R51). -/
def execPartnerAnnounce (f : FaceId) (word : RawWord) (s : State) : Host.Outcome State Fault Refusal :=
  .next (
    match announceOf word, s.exchange f with
    | some a, some (l, r) => if (s.face f).status = .idle then s else s.takeAnnounce l r f a
    | _, _ => s)

/-! ### ADJUST (R56, R81) -/

/-- The TX half after one step of a tap, or none where the step is out of range. -/
def TxHalf.step (t : TxHalf) (tap : Tap) (up : Bool) : Option TxHalf :=
  match tap, up with
  | .pre, true => if t.pre < 10 ∧ t.pre + t.post < 24 then some { t with pre := t.pre + 1 } else none
  | .post, true => if t.post < 14 ∧ t.pre + t.post < 24 then some { t with post := t.post + 1 } else none
  | .pre, false => if t.pre = 0 then none else some { t with pre := t.pre - 1 }
  | .post, false => if t.post = 0 then none else some { t with post := t.post - 1 }

/-- R56: the outcome of an ADJUST, and the TX half after it. -/
def Face.adjust (x : Face) (tap : Tap) (up : Bool) : AnswerOutcome × TxHalf :=
  if x.pinned then (.pinned, x.active.tx)
  else
    match x.active.tx.step tap up with
    | some t => (.applied, t)
    | none => (.atLimit, x.active.tx)

/-- R56: the active TX half takes the step and the part sends its ANSWER. -/
def State.takeAdjust (s : State) (f : FaceId) (tap : Tap) (up : Bool) : State :=
  let (outcome, tx) := (s.face f).adjust tap up
  (s.modFace f (fun x => { x with active := { x.active with tx := tx } })).send f (.answer outcome tx.pre tx.post)

/-- PARTNER_ADJUST (R48, R56). -/
def execPartnerAdjust (f : FaceId) (word : RawWord) (s : State) : Host.Outcome State Fault Refusal :=
  .next (
    match adjustOf word, s.exchange f with
    | some (tap, up), some _ => if (s.face f).status = .idle then s else s.takeAdjust f tap up
    | _, _ => s)

/-! ### READY (R59) -/

/-- R59: the partner's READY is kept; the face becomes READY where the part has sent its own, and the part answers. -/
def State.takeReady (s : State) (l : LegId) (r : TrainRecord) (f : FaceId) : State :=
  if (s.face f).status = .ready ∨ setHas r.readyReceived f.val = true then s.send f .ready
  else
    let s1 := s.modRecord l (fun r => { r with readyReceived := setAdd r.readyReceived f.val })
    if setHas r.readySent f.val then (s1.send f .ready).becomeReady l f else s1

/-- PARTNER_READY (R48, R59). -/
def execPartnerReady (f : FaceId) (word : RawWord) (s : State) : Host.Outcome State Fault Refusal :=
  .next (
    match isReadyWord word, s.exchange f with
    | true, some (l, r) =>
      if (s.face f).status = .idle then s else s.legEvent l wordCause (fun s => s.takeReady l r f)
    | _, _ => s)

/-! ### ABORT (R63) -/

/-- PARTNER_ABORT (R48, R63): the attempt fails with cause PARTNER, on a face of any status. -/
def execPartnerAbort (f : FaceId) (word : RawWord) (s : State) : Host.Outcome State Fault Refusal :=
  .next (
    match abortOf word, s.exchange f with
    | some reason, some (l, _) =>
      s.legEvent l wordCause (fun s =>
        s.failAttempt l .partner 0#4 (some (.partnerAbort, some f, some (abortCode reason))))
    | _, _ => s)

end Sys2Proof.Machine
end

