-- ==== Sys2Proof/Machine/PortCommands.lean ====
section
/-! DEFINITION. The requests of the management port itself (spec/11 R168 to R171). -/

namespace Sys2Proof.Machine

/-- The silicon revision's character code (R177). -/
def revisionByte : Byte := byte (0x41 + Config.revision.val)

/-- The PING body, 9 bytes: part code 0x0458, revision, epoch, stamp and reset cause. -/
def State.pingBytes (s : State) : List Byte :=
  le16 0x0458 ++ [revisionByte, byte s.clock.epoch] ++ le32 s.stamp.toNat ++ [byte (resetCauseCode s.clock.resetCause)]

/-- PING (R170). -/
def pingAct (body : List Byte) (s : State) : Answer := withEmpty s body (.ok s s.pingBytes)

def execPing (tag : Byte) (body : List Byte) (s : State) : Host.Outcome State Fault Refusal :=
  takeRequest 0x01#8 tag body (pingAct body) s

/-- The PORT STATUS body, 4 bytes (R170, R175). -/
def State.statusBytes (s : State) : List Byte :=
  [boolByte s.port.arrivedHeld, byte s.notices.queue.length, byte s.notices.dropped, setByte s.notices.mask]

/-- PORT STATUS (R170). -/
def portStatusAct (body : List Byte) (s : State) : Answer := withEmpty s body (.ok s s.statusBytes)

def execPortStatus (tag : Byte) (body : List Byte) (s : State) : Host.Outcome State Fault Refusal :=
  takeRequest 0x02#8 tag body (portStatusAct body) s

/-- The oldest notice leaves the queue and the dropped count becomes 0 (R169). -/
def NoticeQueue.fetched (q : NoticeQueue) : NoticeQueue := { q with queue := q.queue.tail, dropped := 0 }

/-- FETCH NOTICE (R169). -/
def fetchNoticeAct (body : List Byte) (s : State) : Answer :=
  withEmpty s body (
    let s1 := { s with notices := s.notices.fetched }
    match s.notices.queue with
    | n :: _ => .ok s1 (byte s.notices.dropped :: n.bytes)
    | [] => ⟨s1, .none, [byte s.notices.dropped]⟩)

def execFetchNotice (tag : Byte) (body : List Byte) (s : State) : Host.Outcome State Fault Refusal :=
  takeRequest 0x03#8 tag body (fetchNoticeAct body) s

/-- SET NOTICE MASK (R169). -/
def setNoticeMaskAct (body : List Byte) (s : State) : Answer :=
  withOperand s (ofLength 1 body (setAt 6 body 0)) (fun m => .plain { s with notices := { s.notices with mask := m } } .done)

def execSetNoticeMask (tag : Byte) (body : List Byte) (s : State) : Host.Outcome State Fault Refusal :=
  takeRequest 0x04#8 tag body (setNoticeMaskAct body) s

/-- PART RESET (R171): a reset is marked as pending. -/
def partResetAct (body : List Byte) (s : State) : Answer :=
  withEmpty s body (.plain (s.modPort (fun p => { p with resetPending := true })) .accepted)

def execPartReset (tag : Byte) (body : List Byte) (s : State) : Host.Outcome State Fault Refusal :=
  takeRequest 0x05#8 tag body (partResetAct body) s

end Sys2Proof.Machine
end

