-- ==== Sys2Proof/Machine/ReactionCommands.lean ====
section
/-! DEFINITION. The reaction table's requests (spec/06 R119, R120). -/

namespace Sys2Proof.Machine

/-- SET REACTION (R119): the slot record is written as carried and its fire count becomes 0. -/
def setReactionAct (body : List Byte) (s : State) : Answer :=
  withOperand s (reactionBody body) (fun (l, j, x) => .plain (s.modSlot l j (fun _ => x)) .done)

def execSetReaction (tag : Byte) (body : List Byte) (s : State) : Host.Outcome State Fault Refusal :=
  takeRequest 0x48#8 tag body (setReactionAct body) s

/-- READ REACTIONS (R120). -/
def readReactionsAct (body : List Byte) (s : State) : Answer :=
  withOperand s (legBody body) (fun l => .ok s (s.reactionBytes l))

def execReadReactions (tag : Byte) (body : List Byte) (s : State) : Host.Outcome State Fault Refusal :=
  takeRequest 0x49#8 tag body (readReactionsAct body) s

end Sys2Proof.Machine
end

