-- ==== Sys2Proof/Machine/SidebandCommands.lean ====
section
/-! DEFINITION. The sideband concentrator's requests (spec/08 R145 to R148). -/

namespace Sys2Proof.Machine

/-- SET FRAME PLAN (R146). -/
def setFramePlanAct (body : List Byte) (s : State) : Answer :=
  withOperand s (ofLength 3 body (framePlanAt body 0)) (fun p =>
    match s.frame.state with
    | .disabled | .halted => .plain (s.modFrame (fun x => { x with plan := p })).judgePlan .done
    | .idle | .sending => .plain s .wrongState)

def execSetFramePlan (tag : Byte) (body : List Byte) (s : State) : Host.Outcome State Fault Refusal :=
  takeRequest 0x58#8 tag body (setFramePlanAct body) s

/-- R145: what the engine does with the requests just written, by the state in which it takes them. In IDLE, with the gap
over, a mode that calls for a frame starts it (R143). -/
def State.actOnControl (s : State) : State :=
  let x := s.frame
  match x.state with
  | .sending => s
  | .idle => (s.modFrame FrameEngine.sample).startIfDue
  | .halted =>
    if !x.enableRequest then s.modFrame FrameEngine.sample
    else
      let s1 := s.modFrame (fun x => { x with mode := x.modeRequest })
      if x.haltRequest then s1 else s1.startFrame
  | .disabled =>
    if !x.enableRequest then s
    else
      let s1 := s.modFrame (fun x => { x with mode := x.modeRequest })
      if x.haltRequest then s1.modFrame FrameEngine.sample else s1.startFrame

/-- FRAME CONTROL (R145). -/
def frameControlAct (body : List Byte) (s : State) : Answer :=
  withOperand s (controlBody body) (fun (enable, mode, halt) =>
    .plain (s.modFrame (fun x => { x with
      enableRequest := enable, modeRequest := mode, haltRequest := halt })).actOnControl .done)

def execFrameControl (tag : Byte) (body : List Byte) (s : State) : Host.Outcome State Fault Refusal :=
  takeRequest 0x59#8 tag body (frameControlAct body) s

/-- R147: whether SBL is high as the part reads it now, and the state after the look. The line is low where the part
pulls it; while the part releases it the switch decides (log entry 7). -/
def State.lookAtSbl (s : State) : Bool × State :=
  if s.pullsSbl then (false, s)
  else (!Config.switchPullsSbl s.freeCount, { s with freeCount := s.freeCount + 1 })

/-- READ SIDEBAND (R147). -/
def readSidebandAct (body : List Byte) (s : State) : Answer :=
  withEmpty s body (
    let (high, s1) := s.lookAtSbl
    .ok s1 (s.sidebandBytes high))

def execReadSideband (tag : Byte) (body : List Byte) (s : State) : Host.Outcome State Fault Refusal :=
  takeRequest 0x5A#8 tag body (readSidebandAct body) s

/-- R148: the alert latches of a set of legs clear together. An empty set has no effect. -/
def State.clearAlerts (s : State) (ls : BitVec 4) : State :=
  if ls = 0#4 then s
  else ((allLegs.filter (fun l => setHas ls l.val)).foldl (fun s l => s.setLatch l false) s).judge

/-- CLEAR ALERT (R148). -/
def clearAlertAct (body : List Byte) (s : State) : Answer :=
  withOperand s (ofLength 1 body (setAt 4 body 0)) (fun ls => .plain (s.clearAlerts ls) .done)

def execClearAlert (tag : Byte) (body : List Byte) (s : State) : Host.Outcome State Fault Refusal :=
  takeRequest 0x5B#8 tag body (clearAlertAct body) s

end Sys2Proof.Machine
end

