-- ==== Sys2Proof/Machine/SidebandEvents.lean ====
section
/-! DEFINITION. The sideband concentrator's events (spec/08 R135 to R144): wires, filters, start requests, frames and
collisions. -/

namespace Sys2Proof.Machine

/-! ### Wires and filters (R135 to R137) -/

/-- A wire takes a level; a change of the level restarts the stability timer. -/
def Filter.wire (x : Filter) (low : Bool) : Filter := if x.wireLow = low then x else { x with wireLow := low, stable := 0 }

/-- The filtered level takes the wire's level, which is then `level` (log entry 11). -/
def Filter.settle (x : Filter) (level : Bool) : Filter := { x with wireLow := level, asserted := level }

def LegWires.filter (w : LegWires) : WireId → Filter
  | .present => w.present
  | .alert => w.alert
  | .wake => w.wake

def LegWires.modFilter (w : LegWires) (i : WireId) (g : Filter → Filter) : LegWires :=
  match i with
  | .present => { w with present := g w.present }
  | .alert => { w with alert := g w.alert }
  | .wake => { w with wake := g w.wake }

/-- SIDEBAND_WIRE_CHANGE (R135). -/
def execSidebandWireChange (l : LegId) (i : WireId) (low : Bool) (s : State) : Host.Outcome State Fault Refusal :=
  .next (s.modWires l (fun w => w.modFilter i (fun x => x.wire low)))

def edgeOf (level : Bool) : Edge := if level then .rise else .fall

/-- A filtered input takes a level (R136). -/
def State.settleFilter (s : State) (l : LegId) (i : WireId) (level : Bool) : State :=
  s.modWires l (fun w => w.modFilter i (fun x => x.settle level))

/-- R136: the leg controller takes a presence change (R24, R25). -/
def State.takePresence (s : State) (l : LegId) (level : Bool) : State :=
  s.legEvent l .presence (fun s =>
    match (s.leg l).state, level with
    | .absent, true => s.enterHeld l .first
    | .held, false | .training, false | .active, false | .degraded, false | .test, false | .failed, false =>
      s.goDown l .absent
    | _, _ => s)

/-- A change of debounced presence: the leg controller first, the PRESENT slot value at the same change, then the reaction
table (R136, R139). -/
def State.presenceChange (s : State) (l : LegId) (level : Bool) : State :=
  (((s.settleFilter l .present level).takePresence l level).judge).tableTake ⟨l, .present, some (edgeOf level)⟩

/-- PRESENCE_RISE. A rise of a level that is asserted already does not happen (log entry 3). -/
def execPresenceRise (l : LegId) (s : State) : Host.Outcome State Fault Refusal :=
  .next (if (s.wiresOf l).present.asserted then s else s.presenceChange l true)

/-- PRESENCE_FALL. -/
def execPresenceFall (l : LegId) (s : State) : Host.Outcome State Fault Refusal :=
  .next (if (s.wiresOf l).present.asserted then s.presenceChange l false else s)

/-- R137: the latch becomes set in any leg state but OFF and ABSENT. -/
def State.latchAlert (s : State) (l : LegId) : State :=
  match (s.leg l).state with
  | .off | .absent => s
  | .held | .training | .active | .degraded | .test | .failed => s.setLatch l true

/-- ALERT_RISE (R137). -/
def execAlertRise (l : LegId) (s : State) : Host.Outcome State Fault Refusal :=
  .next (
    if (s.wiresOf l).alert.asserted then s
    else (((s.settleFilter l .alert true).latchAlert l).judge).tableTake ⟨l, .alert, some .rise⟩)

/-- ALERT_FALL (R137). -/
def execAlertFall (l : LegId) (s : State) : Host.Outcome State Fault Refusal :=
  .next (
    if (s.wiresOf l).alert.asserted then ((s.settleFilter l .alert false).judge).tableTake ⟨l, .alert, some .fall⟩ else s)

/-- WAKE_CHANGE (R136): the filtered level changes to the other one. -/
def execWakeChange (l : LegId) (s : State) : Host.Outcome State Fault Refusal :=
  let level := !(s.wiresOf l).wake.asserted
  .next (((s.settleFilter l .wake level).judge).tableTake ⟨l, .wake, some (edgeOf level)⟩)

/-! ### Frames (R140 to R144) -/

/-- START_REQUEST (R143): with the gap over the frame starts at once. -/
def execStartRequest (s : State) : Host.Outcome State Fault Refusal :=
  .next (
    match s.frame.state, s.frame.mode with
    | .idle, .quiet => (s.modFrame (fun x => { x with startWanted := true })).startIfDue
    | _, _ => s)

/-- FRAME_START (R143): the gap is over and something calls for a frame. -/
def execFrameStart (s : State) : Host.Outcome State Fault Refusal := .next s.startIfDue

/-- The last-sent values after a frame: those of the snapshot's plan take what the frame carried (R141). -/
def sentValues (x : Snapshot) (last : Vector (BitVec 5) 4) : Vector (BitVec 5) 4 :=
  let m := planItems x.plan.slots
  let one (l : LegId) : BitVec 5 := (x.values[l] &&& m) ||| (last[l] &&& ~~~m)
  #v[one 0, one 1, one 2, one 3]

/-- FRAME_GOOD_END (R141, R142). -/
def execFrameGoodEnd (s : State) : Host.Outcome State Fault Refusal :=
  .next (
    match s.frame.state, s.frame.snapshot with
    | .sending, some x =>
      ((s.modFrame (fun e => { e with lastSent := sentValues x e.lastSent })).judgeGoodEnd).modFrame FrameEngine.endFrame
    | _, _ => s)

/-- SIDEBAND_COLLISION (R144): SBL reads low in a slot whose snapshot value is not asserted. -/
def execSidebandCollision (slot : Nat) (s : State) : Host.Outcome State Fault Refusal :=
  .next (
    match s.frame.state, s.frame.snapshot with
    | .sending, some x =>
      if slot < slotCount x.plan.slots ∧ x.slot slot = false then
        (s.tell (s.partReport .sidebandCollision none)).modFrame FrameEngine.endFrame
      else s
    | _, _ => s)

end Sys2Proof.Machine
end

