-- ==== Sys2Proof/Machine/StoreCommands.lean ====
section
/-! DEFINITION. The build store's requests and the end of its operation (spec/10 R160 to R163). -/

namespace Sys2Proof.Machine

/-- STORE READ (R160). -/
def storeReadAct (body : List Byte) (s : State) : Answer :=
  withOperand s (pageBody body) (fun p =>
    if s.store.operation = .idle then .ok s (s.page p).bytes else .plain s .busy)

def execStoreRead (tag : Byte) (body : List Byte) (s : State) : Host.Outcome State Fault Refusal :=
  takeRequest 0x68#8 tag body (storeReadAct body) s

def State.setOperation (s : State) (o : StoreOperation) : State := { s with store := { s.store with operation := o } }

/-- STORE ERASE: the checks of R161 in order, and the start of the operation. -/
def storeEraseAct (body : List Byte) (s : State) : Answer :=
  withOperand s (pageBody body) (fun p =>
    if s.store.operation ≠ .idle then .plain s .busy
    else if (s.page p).locked then .plain s .locked
    else .plain (s.setOperation (.erasing p)) .accepted)

def execStoreErase (tag : Byte) (body : List Byte) (s : State) : Host.Outcome State Fault Refusal :=
  takeRequest 0x69#8 tag body (storeEraseAct body) s

/-- STORE WRITE: the checks of R161 in order, and the start of the operation. -/
def storeWriteAct (body : List Byte) (s : State) : Answer :=
  withOperand s (storeWriteBody body) (fun (p, record) =>
    if s.store.operation ≠ .idle then .plain s .busy
    else if (s.page p).locked then .plain s .locked
    else if (s.page p).content ≠ .blank then .plain s .notBlank
    else .plain (s.setOperation (.writing p record)) .accepted)

def execStoreWrite (tag : Byte) (body : List Byte) (s : State) : Host.Outcome State Fault Refusal :=
  takeRequest 0x6A#8 tag body (storeWriteAct body) s

/-- STORE LOCK (R163). -/
def storeLockAct (body : List Byte) (s : State) : Answer :=
  withOperand s (pageBody body) (fun p =>
    if s.store.operation ≠ .idle then .plain s .busy
    else .plain (s.modPage p (fun x => { x with locked := true })) .done)

def execStoreLock (tag : Byte) (body : List Byte) (s : State) : Host.Outcome State Fault Refusal :=
  takeRequest 0x6B#8 tag body (storeLockAct body) s

/-- R162 (whether the page verifies is the operand, log entry 26): the page takes its content, a fault is reported, STORE DONE
is raised and the operation state becomes IDLE. -/
def State.endOperation (s : State) (p : PageId) (act : StoreAct) (good : PageContent) (verifies : Bool) : State :=
  let s1 := s.modPage p (fun x => { x with content := if verifies then good else .torn })
  let s2 := if verifies then s1 else s1.tell (s1.partReport .storeFault (some p.val))
  (s2.raiseNotice (.storeDone s2.stamp p act verifies)).setOperation .idle

/-- STORE_OPERATION_COMPLETE (R162). -/
def execStoreOperationComplete (verifies : Bool) (s : State) : Host.Outcome State Fault Refusal :=
  .next (
    match s.store.operation with
    | .idle => s
    | .erasing p => s.endOperation p .erase .blank verifies
    | .writing p record => s.endOperation p .write (.written record) verifies)

end Sys2Proof.Machine
end

