-- ==== Sys2Proof/Machine/TuneCommands.lean ====
section
/-! DEFINITION. The tuning engine's requests (spec/05 R89, R93, R103). -/

namespace Sys2Proof.Machine

/-- TUNE MARGIN (R89): the checks in order; the MARGIN is queued, and an IDLE engine chooses. -/
def tuneMarginAct (tag : Byte) (body : List Byte) (s : State) : Answer :=
  withOperand s (faceBody body) (fun f =>
    match s.path (facePath f) with
    | .passing | .testing =>
      if s.engineFree f then .plain (s.queueJob ⟨f, .margin, .switch, tag⟩) .accepted else .plain s .faceBusy
    | .unmapped | .parked | .benched | .training => .plain s .wrongState)

def execTuneMargin (tag : Byte) (body : List Byte) (s : State) : Host.Outcome State Fault Refusal :=
  takeRequest 0x40#8 tag body (tuneMarginAct tag body) s

/-- READ TUNE QUEUE (R103). -/
def readTuneQueueAct (body : List Byte) (s : State) : Answer := withEmpty s body (.ok s s.engine.bytes)

def execReadTuneQueue (tag : Byte) (body : List Byte) (s : State) : Host.Outcome State Fault Refusal :=
  takeRequest 0x41#8 tag body (readTuneQueueAct body) s

/-- SET TUNE MASK (R93): an IDLE engine chooses at once. -/
def setTuneMaskAct (body : List Byte) (s : State) : Answer :=
  withOperand s (faceSetBody body) (fun fs => .plain (s.modEngine (fun e => { e with mask := fs })).choose .done)

def execSetTuneMask (tag : Byte) (body : List Byte) (s : State) : Host.Outcome State Fault Refusal :=
  takeRequest 0x42#8 tag body (setTuneMaskAct body) s

end Sys2Proof.Machine
end

