-- ==== Sys2Proof/Machine/Dispatch.lean ====
section
/-! DEFINITION. One arm for each command. -/

namespace Sys2Proof.Machine

def exec (i : Instr) (s : State) : Host.Outcome State Fault Refusal :=
  match i with
  | .ping tag body => Sys2Proof.Machine.execPing tag body s
  | .portStatus tag body => Sys2Proof.Machine.execPortStatus tag body s
  | .fetchNotice tag body => Sys2Proof.Machine.execFetchNotice tag body s
  | .setNoticeMask tag body => Sys2Proof.Machine.execSetNoticeMask tag body s
  | .partReset tag body => Sys2Proof.Machine.execPartReset tag body s
  | .partResetExecute trigger strap pinExtends => Sys2Proof.Machine.execPartResetExecute trigger strap pinExtends s
  | .readMap tag body => Sys2Proof.Machine.execReadMap tag body s
  | .loadMap tag body => Sys2Proof.Machine.execLoadMap tag body s
  | .readLeg tag body => Sys2Proof.Machine.execReadLeg tag body s
  | .legEnable tag body => Sys2Proof.Machine.execLegEnable tag body s
  | .legDisable tag body => Sys2Proof.Machine.execLegDisable tag body s
  | .legHold tag body => Sys2Proof.Machine.execLegHold tag body s
  | .legRelease tag body => Sys2Proof.Machine.execLegRelease tag body s
  | .legRetrain tag body => Sys2Proof.Machine.execLegRetrain tag body s
  | .legRestoreWidth tag body => Sys2Proof.Machine.execLegRestoreWidth tag body s
  | .legReset tag body => Sys2Proof.Machine.execLegReset tag body s
  | .setLegParams tag body => Sys2Proof.Machine.execSetLegParams tag body s
  | .readFace tag body => Sys2Proof.Machine.execReadFace tag body s
  | .stageFace tag body => Sys2Proof.Machine.execStageFace tag body s
  | .commitFaces tag body => Sys2Proof.Machine.execCommitFaces tag body s
  | .pinFace tag body => Sys2Proof.Machine.execPinFace tag body s
  | .unpinFace tag body => Sys2Proof.Machine.execUnpinFace tag body s
  | .tuneMargin tag body => Sys2Proof.Machine.execTuneMargin tag body s
  | .readTuneQueue tag body => Sys2Proof.Machine.execReadTuneQueue tag body s
  | .setTuneMask tag body => Sys2Proof.Machine.execSetTuneMask tag body s
  | .setReaction tag body => Sys2Proof.Machine.execSetReaction tag body s
  | .readReactions tag body => Sys2Proof.Machine.execReadReactions tag body s
  | .readLog tag body => Sys2Proof.Machine.execReadLog tag body s
  | .clearLog tag body => Sys2Proof.Machine.execClearLog tag body s
  | .setErrorKind tag body => Sys2Proof.Machine.execSetErrorKind tag body s
  | .setTally tag body => Sys2Proof.Machine.execSetTally tag body s
  | .clearTally tag body => Sys2Proof.Machine.execClearTally tag body s
  | .setFramePlan tag body => Sys2Proof.Machine.execSetFramePlan tag body s
  | .frameControl tag body => Sys2Proof.Machine.execFrameControl tag body s
  | .readSideband tag body => Sys2Proof.Machine.execReadSideband tag body s
  | .clearAlert tag body => Sys2Proof.Machine.execClearAlert tag body s
  | .testStart tag body => Sys2Proof.Machine.execTestStart tag body s
  | .testStop tag body => Sys2Proof.Machine.execTestStop tag body s
  | .testRead tag body => Sys2Proof.Machine.execTestRead tag body s
  | .storeRead tag body => Sys2Proof.Machine.execStoreRead tag body s
  | .storeErase tag body => Sys2Proof.Machine.execStoreErase tag body s
  | .storeWrite tag body => Sys2Proof.Machine.execStoreWrite tag body s
  | .storeLock tag body => Sys2Proof.Machine.execStoreLock tag body s
  | .storeOperationComplete verifies => Sys2Proof.Machine.execStoreOperationComplete verifies s
  | .frameError bytes => Sys2Proof.Machine.execFrameError bytes s
  | .unknown tag code body => Sys2Proof.Machine.execUnknown tag code body s
  | .writeWhileWorking => Sys2Proof.Machine.execWriteWhileWorking s
  | .replyRead count => Sys2Proof.Machine.execReplyRead count s
  | .powerOn strap => Sys2Proof.Machine.execPowerOn strap s
  | .pinReset strap => Sys2Proof.Machine.execPinReset strap s
  | .sidebandWireChange leg wire low => Sys2Proof.Machine.execSidebandWireChange leg wire low s
  | .presenceRise leg => Sys2Proof.Machine.execPresenceRise leg s
  | .presenceFall leg => Sys2Proof.Machine.execPresenceFall leg s
  | .alertRise leg => Sys2Proof.Machine.execAlertRise leg s
  | .alertFall leg => Sys2Proof.Machine.execAlertFall leg s
  | .wakeChange leg => Sys2Proof.Machine.execWakeChange leg s
  | .startRequest => Sys2Proof.Machine.execStartRequest s
  | .frameStart => Sys2Proof.Machine.execFrameStart s
  | .frameGoodEnd => Sys2Proof.Machine.execFrameGoodEnd s
  | .sidebandCollision slot => Sys2Proof.Machine.execSidebandCollision slot s
  | .holdTimerExpiry leg => Sys2Proof.Machine.execHoldTimerExpiry leg s
  | .trainingLimitExpiry leg => Sys2Proof.Machine.execTrainingLimitExpiry leg s
  | .trimTimerExpiry leg => Sys2Proof.Machine.execTrimTimerExpiry leg s
  | .testLimitExpiry leg => Sys2Proof.Machine.execTestLimitExpiry leg s
  | .announceRepeat face => Sys2Proof.Machine.execAnnounceRepeat face s
  | .partnerAnnounce face word => Sys2Proof.Machine.execPartnerAnnounce face word s
  | .partnerAdjust face word => Sys2Proof.Machine.execPartnerAdjust face word s
  | .partnerReady face word => Sys2Proof.Machine.execPartnerReady face word s
  | .partnerAbort face word => Sys2Proof.Machine.execPartnerAbort face word s
  | .signalPresent face => Sys2Proof.Machine.execSignalPresent face s
  | .signalLost report => Sys2Proof.Machine.execSignalLost report s
  | .lockAcquired face => Sys2Proof.Machine.execLockAcquired face s
  | .lockLost report => Sys2Proof.Machine.execLockLost report s
  | .slip report => Sys2Proof.Machine.execSlip report s
  | .slipWindowEnd face => Sys2Proof.Machine.execSlipWindowEnd face s
  | .tuneStepBoundary => Sys2Proof.Machine.execTuneStepBoundary s
  | .jobCompletion found => Sys2Proof.Machine.execJobCompletion found s
  | .checkerLock face bits => Sys2Proof.Machine.execCheckerLock face bits s
  | .comparedUnit face => Sys2Proof.Machine.execComparedUnit face s
  | .testMismatch face => Sys2Proof.Machine.execTestMismatch face s
  | .replyFormed => Sys2Proof.Machine.execReplyFormed s
  | .bitMismatch face matching => Sys2Proof.Machine.execBitMismatch face matching s

end Sys2Proof.Machine
end

