-- ==== Sys2Proof/Machine/Tick.lean ====
section
/-! DEFINITION. The tick: what a step does when no command waits (log entry 1). One microsecond passes; what counts time
counts, and the events that fall due are put into the queue, where the next steps take them. -/

namespace Sys2Proof.Machine

/-! ### Each microsecond -/

/-- The frame engine's own time: the gap in IDLE, the place in the frame in SENDING (R140, R143). -/
def FrameEngine.tick (x : FrameEngine) : FrameEngine :=
  match x.state with
  | .sending => { x with elapsed := x.elapsed + 1 }
  | .idle =>
    if x.gap = 0 then x
    else if x.bitPhase + 1 ≥ bitMicros x.plan.bit then { x with gap := x.gap - 1, bitPhase := 0 }
    else { x with bitPhase := x.bitPhase + 1 }
  | .disabled | .halted => x

/-- How long a filter's wire has been stable, in microseconds, up to the longest filter time (R135). -/
def Filter.tick (x : Filter) : Filter := { x with stable := min 10000 (x.stable + 1) }

def LegWires.tick (w : LegWires) : LegWires :=
  { w with present := w.present.tick, alert := w.alert.tick, wake := w.wake.tick }

/-- R153: a checker that is LOST while the receiver is locked seeks again at the next received bit. -/
def State.seekAgain (s : State) (f : FaceId) : State :=
  if (s.monitor f).lock = .locked then s.modChecker f (fun _ k => k.relock) else s

/-- R150: a running generator has sent the microsecond's bits. -/
def State.runGenerator (s : State) (f : FaceId) : State :=
  match s.generators[f], s.faceLeg f with
  | some v, some l =>
    match s.test l, (s.leg l).agreedRate with
    | some t, some r => s.setGenerator f (some (patternSteps t.taps (bitsPerMicrosecond r) v))
    | _, _ => s
  | _, _ => s

/-! ### Each millisecond -/

def countDown (t : Option Nat) : Option Nat := t.map (· - 1)

/-- The three timers of a leg (R16). -/
def Leg.tickMs (x : Leg) : Leg :=
  { x with holdTimer := countDown x.holdTimer, limitTimer := countDown x.limitTimer, trimTimer := countDown x.trimTimer }

/-- The slip window of a watching monitor (R109); an idle one has none remaining. -/
def Monitor.tickMs (m : Monitor) : Monitor := { m with windowRemaining := m.windowRemaining - 1 }

/-- Elapsed time, which stops at the longest limit, and the test-limit timer (R154). -/
def TestRecord.tickMs (t : TestRecord) : TestRecord :=
  if t.status = .running then { t with elapsed := min 3600000 (t.elapsed + 1), limitTimer := countDown t.limitTimer } else t

/-- One millisecond passes. -/
def State.tickMs (s : State) : State :=
  { s with
    clock := { s.clock with stamp := s.clock.stamp + 1, micros := 0 }
    legs := s.legs.map Leg.tickMs
    monitors := s.monitors.map Monitor.tickMs
    tests := s.tests.map (fun t => t.map TestRecord.tickMs) }

/-! ### What falls due -/

/-- The filter times in microseconds (R135). -/
def filterTime : WireId → Nat
  | .present => 10000
  | .alert | .wake => 1000

def Filter.due (x : Filter) (i : WireId) : Bool := x.wireLow != x.asserted && decide (x.stable ≥ filterTime i)

/-- The change of a filtered input that falls due. -/
def filterEvent (l : LegId) (i : WireId) (low : Bool) : Instr :=
  match i, low with
  | .present, true => .presenceRise l
  | .present, false => .presenceFall l
  | .alert, true => .alertRise l
  | .alert, false => .alertFall l
  | .wake, _ => .wakeChange l

/-- A leg's timers that have run out. -/
def State.dueTimers (s : State) (l : LegId) : List Instr :=
  let x := s.leg l
  (if x.holdTimer = some 0 then [.holdTimerExpiry l] else [])
    ++ (if x.limitTimer = some 0 then [.trainingLimitExpiry l] else [])
    ++ (if x.trimTimer = some 0 then [.trimTimerExpiry l] else [])
    ++ (if (s.test l).any (fun t => t.status == .running && t.limitTimer == some 0) then [.testLimitExpiry l] else [])

def State.dueFilters (s : State) (l : LegId) : List Instr :=
  [WireId.present, WireId.alert, WireId.wake].filterMap (fun i =>
    let x := (s.wiresOf l).filter i
    if x.due i then some (filterEvent l i x.wireLow) else none)

/-- Slip windows that end. -/
def State.dueWindow (s : State) (f : FaceId) : Bool :=
  (s.monitor f).signal != .notWatched && (s.monitor f).windowRemaining == 0

/-- ANNOUNCED faces whose partner has not announced (R50; log entry 29). -/
def State.dueAnnounce (s : State) (f : FaceId) : Bool :=
  match s.exchange f with
  | some (_, r) => (s.face f).status == .announced && !setHas r.partnerAnnounced f.val
  | none => false

/-- What falls due at a millisecond, in a fixed order (log entry 1). -/
def State.dueMs (s : State) : List Instr :=
  allLegs.flatMap s.dueTimers
    ++ (allFaces.filter s.dueWindow).map Instr.slipWindowEnd
    ++ allLegs.flatMap s.dueFilters
    ++ (allFaces.filter s.dueAnnounce).map Instr.announceRepeat

/-- A frame's good end, or a frame's start (R140, R143). -/
def State.dueFrame (s : State) : List Instr :=
  match s.frame.state, s.frame.snapshot with
  | .sending, some x => if s.frame.elapsed ≥ frameMicros x.plan then [.frameGoodEnd] else []
  | _, _ => if s.frame.callsForFrame && s.frame.gap == 0 then [.frameStart] else []

/-- What a microsecond changes by itself, but for the clock. -/
def State.tickMicro (s : State) : State :=
  allFaces.foldl (fun s f => (s.seekAgain f).runGenerator f)
    { s with frame := s.frame.tick, wires := s.wires.map LegWires.tick }

/-- A microsecond passes. -/
def State.tick (s : State) : State :=
  let s1 := s.tickMicro
  if s1.clock.micros + 1 ≥ 1000 then
    let s2 := s1.tickMs
    { s2 with pending := s2.pending ++ s2.dueMs ++ s2.dueFrame }
  else
    { s1 with
      clock := { s1.clock with micros := s1.clock.micros + 1 }
      pending := s1.pending ++ allLegs.flatMap s1.dueFilters ++ s1.dueFrame }

end Sys2Proof.Machine
end

