-- ==== Sys2Proof/Machine/Bus.lean ====
section
/-! DEFINITION. The two-wire bus of the management port, event by event (spec/11 R164, R167): which addresses and bytes the port
acknowledges, what it supplies, and the command that the end of a transaction is. No row of the table is a bus event: these
functions stand beside the step (log entry 35). -/

namespace Sys2Proof.Machine

/-- What the port takes the bus as (R164): a start, a repeated start, a stop, an address with its direction, a data byte written
to the port, and a data byte read from it with the switch controller's acknowledge or its absence. -/
inductive BusEvent where
  | start
  | repeatedStart
  | stop
  | address (value : BitVec 7) (read : Bool)
  | written (b : Byte)
  | readOut (acknowledged : Bool)
  deriving DecidableEq, Repr

/-- Whether the port acknowledges an event (R164): its own address, outside a reset, in every port state, and each byte of a
write to it. `inReset` says whether a reset is in progress. -/
def State.acknowledges (s : State) (inReset : Bool) (e : BusEvent) : Bool :=
  match e, s.bus with
  | .address a _, .awaiting => !inReset && a == s.port.address
  | .written _, .writing _ _ => !inReset
  | _, _ => false

/-- The byte the port supplies for the switch controller to read next, if it supplies one (R164, R167): the byte of the reply
that the read was begun on, and 0xFF beyond its CHECK or with no reply. -/
def State.busSupplies (s : State) : Option Byte :=
  match s.bus with
  | .reading reply n true => some ((reply.getD []).getD n 0xFF#8)
  | _ => none

/-- The request of a CODE with a TAG and a BODY (R174). -/
def requestOf (tag code : Byte) (body : List Byte) : Option Instr :=
  match code.toNat with
  | 0x01 => some (.ping tag body)
  | 0x02 => some (.portStatus tag body)
  | 0x03 => some (.fetchNotice tag body)
  | 0x04 => some (.setNoticeMask tag body)
  | 0x05 => some (.partReset tag body)
  | 0x10 => some (.readMap tag body)
  | 0x11 => some (.loadMap tag body)
  | 0x20 => some (.readLeg tag body)
  | 0x21 => some (.legEnable tag body)
  | 0x22 => some (.legDisable tag body)
  | 0x23 => some (.legHold tag body)
  | 0x24 => some (.legRelease tag body)
  | 0x25 => some (.legRetrain tag body)
  | 0x26 => some (.legRestoreWidth tag body)
  | 0x27 => some (.legReset tag body)
  | 0x28 => some (.setLegParams tag body)
  | 0x30 => some (.readFace tag body)
  | 0x31 => some (.stageFace tag body)
  | 0x32 => some (.commitFaces tag body)
  | 0x33 => some (.pinFace tag body)
  | 0x34 => some (.unpinFace tag body)
  | 0x40 => some (.tuneMargin tag body)
  | 0x41 => some (.readTuneQueue tag body)
  | 0x42 => some (.setTuneMask tag body)
  | 0x48 => some (.setReaction tag body)
  | 0x49 => some (.readReactions tag body)
  | 0x50 => some (.readLog tag body)
  | 0x51 => some (.clearLog tag body)
  | 0x52 => some (.setErrorKind tag body)
  | 0x53 => some (.setTally tag body)
  | 0x54 => some (.clearTally tag body)
  | 0x58 => some (.setFramePlan tag body)
  | 0x59 => some (.frameControl tag body)
  | 0x5A => some (.readSideband tag body)
  | 0x5B => some (.clearAlert tag body)
  | 0x60 => some (.testStart tag body)
  | 0x61 => some (.testStop tag body)
  | 0x62 => some (.testRead tag body)
  | 0x68 => some (.storeRead tag body)
  | 0x69 => some (.storeErase tag body)
  | 0x6A => some (.storeWrite tag body)
  | 0x6B => some (.storeLock tag body)
  | _ => none

/-- The command that a write is: its first 132 bytes are kept and all of them counted (R164). A frame that passes the checks of
R165 is its request, or UNKNOWN where its CODE names none; any other is a faulty frame. Of a longer write nothing depends on
the bytes that were not kept. -/
def writeCommand (kept : List Byte) (count : Nat) : Instr :=
  let bytes := kept ++ List.replicate (count - kept.length) 0#8
  if frameOk bytes then
    let tag := bytes.getD 1 0#8
    let code := bytes.getD 2 0#8
    let body := (bytes.drop 3).dropLast
    (requestOf tag code body).getD (.unknown tag code body)
  else .frameError bytes

/-- The end of the transaction in progress, which is a stop or a repeated start (R164): a write that carried data is taken, a
probe changes nothing, and a read ends with the bytes that it read (R167). -/
def State.endTransaction (s : State) (after : Bus) : Host.Outcome State Fault Refusal :=
  let s1 := { s with bus := after }
  match s.bus with
  | .writing kept (n + 1) => exec (writeCommand kept (n + 1)) s1
  | .reading (some _) n _ => exec (.replyRead n) s1
  | .reading none n _ => .next { s1 with readData := suppliedBytes [] n }
  | .writing _ 0 | .idle | .awaiting | .ignored => .next s1

/-- The reply that a read begins on: the one held as it begins, or none (R167). -/
def State.heldReply (s : State) : Option (List Byte) :=
  match s.port.state with
  | .replyHeld reply => some reply
  | .ready | .working _ => none

/-- The transaction that an address begins (R164). -/
def State.addressed (s : State) (a : BitVec 7) (read : Bool) : Bus :=
  if a ≠ s.port.address then .ignored
  else if read then .reading s.heldReply 0 true
  else .writing [] 0

/-- The port takes a bus event (R164). During a reset it takes none. -/
def State.busTake (s : State) (inReset : Bool) (e : BusEvent) : Host.Outcome State Fault Refusal :=
  if inReset then .next { s with bus := .idle }
  else
    match e, s.bus with
    | .start, _ | .repeatedStart, _ => s.endTransaction .awaiting
    | .stop, _ => s.endTransaction .idle
    | .address a read, .awaiting => .next { s with bus := s.addressed a read }
    | .written b, .writing kept n =>
      .next { s with bus := .writing (if n < keptBytes then kept ++ [b] else kept) (n + 1) }
    | .readOut acknowledged, .reading reply n true => .next { s with bus := .reading reply (n + 1) acknowledged }
    | .address _ _, _ | .written _, _ | .readOut _, _ => .next s

/-- The port takes events one after another, outside a reset. -/
def State.onBus (s : State) : List BusEvent → Host.Outcome State Fault Refusal
  | [] => .next s
  | e :: es =>
    match s.busTake false e with
    | .next t => State.onBus t es
    | .fault f => .fault f
    | .refused r => .refused r

end Sys2Proof.Machine
end

