-- ==== Sys2Proof/Machine/Lanes.lean ====
section
/-! DEFINITION. What each face circuit does, as it follows from the state: power, the transmitter's output, the crossbar
and the set in use, for the faces of the paths and for the C-face circuits by cable lane (spec/01 R1, R2; spec/03 R49;
spec/04 R70; spec/09 R150). -/

namespace Sys2Proof.Machine

/-- What a transmitter sends. -/
inductive Transmitted where
  | quiet
  /-- The training signal at a rate, with the back channel's words or without. -/
  | training (rate : Option Rate) (words : Bool)
  /-- The symbols received on another face, at the leg's agreed rate. -/
  | traffic (source : FaceId) (rate : Option Rate)
  /-- The test pattern at the leg's agreed rate: the symbols of the coming microsecond, the first one sent first. -/
  | pattern (rate : Option Rate) (symbols : List Symbol)
  deriving DecidableEq, Repr

/-- The other face of the same path. -/
def otherFace (f : FaceId) : FaceId := if isCFace f then sFace (facePath f) else cFace (facePath f)

/-- R2: the circuit of a path's face is powered while the path is TRAINING, PASSING or TESTING. An UNMAPPED path has no
C-face circuit, and its S-face circuit is powered down. -/
def State.powered (s : State) (f : FaceId) : Bool :=
  match s.path (facePath f) with
  | .training | .passing | .testing => true
  | .unmapped | .parked | .benched => false

/-- The agreed rate of the leg of a face. -/
def State.faceRate (s : State) (f : FaceId) : Option Rate := (s.faceLeg f).bind (fun l => (s.leg l).agreedRate)

/-- R150: the symbols of the coming microsecond that a generator with register `v` sends on a face. -/
def State.patternSymbols (s : State) (f : FaceId) (v : Stages) : List Symbol :=
  match (s.faceLeg f).bind s.test, s.faceRate f with
  | some t, some r => symbolsOf r (patternBits t.taps (bitsPerMicrosecond r) v)
  | _, _ => []

/-- R1, R2, R49, R150: what the transmitter of a face sends. -/
def State.transmits (s : State) (f : FaceId) : Transmitted :=
  match s.path (facePath f) with
  | .unmapped | .parked | .benched => .quiet
  | .training =>
    match (s.face f).status with
    | .idle => .training (some .r25) false
    | .announced => .training (some .r25) true
    | .tuning | .ready => .training (s.faceRate f) true
  | .passing => .traffic (otherFace f) (s.faceRate f)
  | .testing =>
    match s.generators[f] with
    | some v => .pattern (s.faceRate f) (s.patternSymbols f v)
    | none => .traffic (otherFace f) (s.faceRate f)

/-- R70: the set the face circuit uses while it is powered. -/
def State.circuitSet (s : State) (f : FaceId) : Option EqSet := if s.powered f then some (s.face f).active else none

/-! ### The C-face circuits, by cable lane (section 1.1) -/

/-- The path that names a cable lane: the one whose entry of the map in force it is (R4, R5). -/
def State.lanePath (s : State) (c : Lane) : Option PathId := allPaths.find? (fun p => s.map[p] == some c)

/-- R2: the C-face circuit of a cable lane is powered as its path's C-face is; one whose lane no path names is powered
down. -/
def State.lanePowered (s : State) (c : Lane) : Bool :=
  match s.lanePath c with
  | some p => s.powered (cFace p)
  | none => false

/-- R1, R2: what the C-face circuit of a cable lane sends; one whose lane no path names is quiet. -/
def State.laneTransmits (s : State) (c : Lane) : Transmitted :=
  match s.lanePath c with
  | some p => s.transmits (cFace p)
  | none => .quiet

/-- R70: the set the C-face circuit of a cable lane uses while it is powered. -/
def State.laneSet (s : State) (c : Lane) : Option EqSet := (s.lanePath c).bind (fun p => s.circuitSet (cFace p))

end Sys2Proof.Machine
end

