-- ==== Sys2Proof/Safety.lean ====
section
/-! DEFINITION. What counts as a sound state, and the terms in which statements speak of requests and of takings. -/

namespace Sys2Proof.Machine

/-! ### Requests -/

/-- The port takes a write as a request: it is not WORKING and no PART RESET is pending (R165, R171). -/
def State.takesRequests (s : State) : Prop := s.port.state.isWorking = false ∧ s.port.resetPending = false

/-- The port after a request it has taken: WORKING on the request, with the owning block's result and reply body. -/
def State.answered (s : State) (tag code : Byte) (body : List Byte) (result : Result) (reply : List Byte) : State :=
  { s with port := { s.port with
      state := .working ⟨tag, code, result, reply⟩
      request := requestFrame tag code body
      arrivedHeld := s.port.state.isHeld } }

/-- TAG, CODE and BODY of a command that is a request of the catalogue (R174). -/
def requestParts (i : Instr) : Option (Byte × Byte × List Byte) :=
  match i with
  | .ping t b => some (t, 0x01#8, b)
  | .portStatus t b => some (t, 0x02#8, b)
  | .fetchNotice t b => some (t, 0x03#8, b)
  | .setNoticeMask t b => some (t, 0x04#8, b)
  | .partReset t b => some (t, 0x05#8, b)
  | .readMap t b => some (t, 0x10#8, b)
  | .loadMap t b => some (t, 0x11#8, b)
  | .readLeg t b => some (t, 0x20#8, b)
  | .legEnable t b => some (t, 0x21#8, b)
  | .legDisable t b => some (t, 0x22#8, b)
  | .legHold t b => some (t, 0x23#8, b)
  | .legRelease t b => some (t, 0x24#8, b)
  | .legRetrain t b => some (t, 0x25#8, b)
  | .legRestoreWidth t b => some (t, 0x26#8, b)
  | .legReset t b => some (t, 0x27#8, b)
  | .setLegParams t b => some (t, 0x28#8, b)
  | .readFace t b => some (t, 0x30#8, b)
  | .stageFace t b => some (t, 0x31#8, b)
  | .commitFaces t b => some (t, 0x32#8, b)
  | .pinFace t b => some (t, 0x33#8, b)
  | .unpinFace t b => some (t, 0x34#8, b)
  | .tuneMargin t b => some (t, 0x40#8, b)
  | .readTuneQueue t b => some (t, 0x41#8, b)
  | .setTuneMask t b => some (t, 0x42#8, b)
  | .setReaction t b => some (t, 0x48#8, b)
  | .readReactions t b => some (t, 0x49#8, b)
  | .readLog t b => some (t, 0x50#8, b)
  | .clearLog t b => some (t, 0x51#8, b)
  | .setErrorKind t b => some (t, 0x52#8, b)
  | .setTally t b => some (t, 0x53#8, b)
  | .clearTally t b => some (t, 0x54#8, b)
  | .setFramePlan t b => some (t, 0x58#8, b)
  | .frameControl t b => some (t, 0x59#8, b)
  | .readSideband t b => some (t, 0x5A#8, b)
  | .clearAlert t b => some (t, 0x5B#8, b)
  | .testStart t b => some (t, 0x60#8, b)
  | .testStop t b => some (t, 0x61#8, b)
  | .testRead t b => some (t, 0x62#8, b)
  | .storeRead t b => some (t, 0x68#8, b)
  | .storeErase t b => some (t, 0x69#8, b)
  | .storeWrite t b => some (t, 0x6A#8, b)
  | .storeLock t b => some (t, 0x6B#8, b)
  | _ => none

/-- Whether a body has the length of its request (R177): by CODE, and for STORE WRITE by the page its first byte names. -/
def lengthFits (code : Byte) (body : List Byte) : Bool :=
  match code.toNat with
  | 0x01 | 0x02 | 0x03 | 0x05 | 0x10 | 0x41 | 0x5A => body.length == 0
  | 0x11 => body.length == 8
  | 0x28 => body.length == 9
  | 0x31 => body.length == 7
  | 0x32 | 0x42 => body.length == 2
  | 0x48 => body.length == 5
  | 0x52 | 0x58 | 0x59 => body.length == 3
  | 0x53 => body.length == 4
  | 0x60 => body.length == 12
  | 0x6A =>
    match body with
    | [] => false
    | p :: record => (p == 0#8 && record.length == 43) || (p == 2#8 && record.length == 41)
        || ((p == 1#8 || p == 3#8) && record.length == 96)
  | _ => body.length == 1

/-- A byte of a body that names one of `n` members. -/
def below (body : List Byte) (i n : Nat) : Prop := byteAt body i < n

/-- A byte of a body in a range. -/
def within (body : List Byte) (i lo hi : Nat) : Prop := lo ≤ byteAt body i ∧ byteAt body i ≤ hi

/-- A map entry: a cable lane 0 to 7, or NONE as 0xFF (R13). -/
def laneFits (body : List Byte) (i : Nat) : Prop := below body i 8 ∨ byteAt body i = 0xFF

/-- Six bytes of an equaliser set, each in its range (R69). -/
def setFits (body : List Byte) (i : Nat) : Prop :=
  within body i 0 10 ∧ within body (i + 1) 0 14 ∧ within body (i + 2) 0 15 ∧ within body (i + 3) 0 31
  ∧ -31 ≤ signedAt body (i + 4) ∧ signedAt body (i + 4) ≤ 31 ∧ -15 ≤ signedAt body (i + 5) ∧ signedAt body (i + 5) ≤ 15

/-- Eight bytes of leg parameters, each in its range (R16). -/
def paramsFit (body : List Byte) (i : Nat) : Prop :=
  below body i 3 ∧ byteAt body (i + 1) ∈ [1, 2, 4] ∧ within body (i + 2) 1 7 ∧ within body (i + 3) 1 255
  ∧ within body (i + 4) 1 255 ∧ within body (i + 5) 0 60 ∧ within body (i + 6) 0 63 ∧ within body (i + 7) 1 255

/-- Three bytes of a frame plan: slot plan, bit time and start width (R140). -/
def planFits (body : List Byte) (i : Nat) : Prop := below body i 2 ∧ below body (i + 1) 3 ∧ below body (i + 2) 3

/-- The record of a STORE WRITE, after the byte of its page: every field is a defined encoding within its range (R161 check 1,
R177). The position of an UNUSED plan entry is log entry 20. -/
def recordFits (body : List Byte) : Prop :=
  match byteAt body 0 with
  | 0 =>
    (∀ k : Nat, k < 16 → within body (1 + k) 0x20 0x7E) ∧ within body 17 0 99 ∧ within body 18 1 53 ∧ within body 19 1 14
    ∧ (∀ k : Nat, k < 8 → (below body (20 + 2 * k) 4 ∨ byteAt body (20 + 2 * k) = 0xFF) ∧ below body (21 + 2 * k) 4)
    ∧ ∀ k : Nat, k < 8 → laneFits body (36 + k)
  | 1 => ∀ k : Nat, k < 16 → setFits body (1 + 6 * k)
  | 2 =>
    (∀ k : Nat, k < 4 → below body (1 + 9 * k) 2 ∧ paramsFit body (2 + 9 * k)) ∧ planFits body 37 ∧ below body 40 2
    ∧ below body 41 2
  | 3 => True
  | _ => False

/-- Every field of a body of the right length is a defined encoding within its range (R179): a leg 0 to 3 (R20), a face 0 to
15 and a valid set (R73, R74), map entries (R13), leg parameters (R43), a slot record whose fields agree (R119), and the rest
(R93, R129 to R133, R145 to R148, R151, R160 to R163, R169). -/
def fieldsFit (code : Byte) (body : List Byte) : Prop :=
  match code.toNat with
  | 0x04 => below body 0 64
  | 0x11 => ∀ k : Nat, k < 8 → laneFits body k
  | 0x20 | 0x21 | 0x22 | 0x23 | 0x24 | 0x25 | 0x26 | 0x27 | 0x49 | 0x54 | 0x61 | 0x62 | 0x68 | 0x69 | 0x6B => below body 0 4
  | 0x28 => below body 0 4 ∧ paramsFit body 1
  | 0x30 | 0x33 | 0x34 | 0x40 => below body 0 16
  | 0x31 => below body 0 16 ∧ setFits body 1 ∧ byteAt body 1 + byteAt body 2 ≤ 24
  | 0x48 =>
    below body 0 4 ∧ below body 1 4
    ∧ ((byteAt body 2 = 0 ∧ byteAt body 3 = 0xFF ∧ byteAt body 4 = 0xFF)
      ∨ (within body 2 1 3 ∧ below body 3 3 ∧ below body 4 5)
      ∨ (within body 2 4 7 ∧ byteAt body 3 = 0xFF ∧ below body 4 5))
  | 0x50 | 0x51 => below body 0 3
  | 0x52 => within body 0 1 14 ∧ below body 1 2 ∧ below body 2 3
  | 0x53 => below body 0 4 ∧ below body 2 16
  | 0x58 => planFits body 0
  | 0x59 => below body 0 2 ∧ below body 1 2 ∧ below body 2 2
  | 0x5B => below body 0 16
  | 0x60 =>
    below body 0 4 ∧ below body 1 3 ∧ within body 5 64 127 ∧ below body 9 128
    ∧ (∃ k : Nat, k < 4 ∧ byteAt body (6 + k) ≠ 0) ∧ byteAt body 10 + 256 * byteAt body 11 ≤ 3600
  | 0x6A => recordFits body
  | _ => True

/-! ### Bodies and records, field by field -/

/-- One-byte fields of a body, from an offset on; one that is absent is 0xFF (R173). -/
def fieldsAt (body : List Byte) : Nat → List (Option Nat) → Prop
  | _, [] => True
  | o, some n :: rest => byteAt body o = n % 256 ∧ fieldsAt body (o + 1) rest
  | o, none :: rest => byteAt body o = 255 ∧ fieldsAt body (o + 1) rest

/-- A field of two bytes and one of four, little-endian (R173). -/
def wordAt (body : List Byte) (o n : Nat) : Prop := le16At body o = n % 65536
def longAt (body : List Byte) (o n : Nat) : Prop := le32At body o = n % 4294967296

/-- An error record, or its 14 bytes of 0xFF (R176, R177). -/
def errorRecordAt (body : List Byte) (o : Nat) : Option ErrorRecord → Prop
  | none => ∀ k : Nat, k < 14 → byteAt body (o + k) = 255
  | some r =>
    fieldsAt body o [some (kindNumber r.kind), some (severityCode r.severity), r.leg.map (·.val), r.path.map (·.val),
      r.face.map (·.val), r.legState.map legStateCode, r.attempts]
    ∧ longAt body (o + 7) r.stamp.toNat ∧ fieldsAt body (o + 11) [some r.epoch] ∧ wordAt body (o + 12) (r.detail.getD 65535)

/-- A face count and the entries of TEST DONE and TEST READ, of 11 bytes each (R176). -/
def checkersAt (body : List Byte) (o : Nat) (cs : List CheckerRecord) : Prop :=
  fieldsAt body o [some cs.length]
  ∧ ∀ (i : Nat) (c : CheckerRecord), cs[i]? = some c →
      let e := o + 1 + 11 * i
      fieldsAt body e [some c.face.val, some (checkerStateCode c.checker.state)]
      ∧ longAt body (e + 2) c.checker.units ∧ longAt body (e + 6) c.checker.mismatched
      ∧ fieldsAt body (e + 10) [some c.checker.losses]

/-- A set as the face record shows it (R176): pre, post, main, peaking, gain, dfe1 and dfe2, the last two signed. -/
def setShownAt (body : List Byte) (o : Nat) (e : EqSet) : Prop :=
  fieldsAt body o [some e.tx.pre, some e.tx.post, some (48 - e.tx.pre - e.tx.post), some e.rx.peaking, some e.rx.gain]
  ∧ body.getD (o + 5) 0#8 = BitVec.ofInt 8 e.rx.dfe1 ∧ body.getD (o + 6) 0#8 = BitVec.ofInt 8 e.rx.dfe2

/-- A job entry, 4 bytes (R177). -/
def jobAt (body : List Byte) (o : Nat) (j : Job) : Prop :=
  fieldsAt body o [some j.face.val, some (jobKindCode j.kind), some (requesterCode j.requester),
    some (if j.requester = .switch then j.tag.toNat else 0)]

/-- The capture record, 11 + 6e bytes (R177). -/
def captureAt (body : List Byte) (o : Nat) (c : Capture) : Prop :=
  longAt body o c.stamp.toNat
  ∧ fieldsAt body (o + 4) [some c.slot.val, some (sourceCode c.source), c.edge.map edgeCode,
      some (legStateCode c.legState), some c.tally, some c.overflow.toNat, some c.entries.length]
  ∧ ∀ (i : Nat) (x : CaptureEntry), c.entries[i]? = some x →
      let e := o + 11 + 6 * i
      fieldsAt body e [some x.face.val, x.lastMargin.map (·.val), some (signalCode x.signal), some (lockCode x.lock)]
      ∧ wordAt body (e + 4) x.slips

/-- A notice record (R176). -/
def noticeAt (body : List Byte) (n : Notice) : Prop :=
  match n with
  | .legState st l old new cause width =>
    longAt body 1 st.toNat
    ∧ fieldsAt body 0 [some 1]
    ∧ fieldsAt body 5 [some l.val, some (legStateCode old), some (legStateCode new), some (causeCode cause), some width]
  | .error st sev r =>
    longAt body 1 st.toNat ∧ fieldsAt body 0 [some 2] ∧ fieldsAt body 5 [some (severityCode sev)]
    ∧ errorRecordAt body 6 (some r)
  | .jobDone st tag f outcome margin =>
    longAt body 1 st.toNat ∧ fieldsAt body 0 [some 3]
    ∧ fieldsAt body 5 [some tag.toNat, some f.val, some 2, some (jobEndCode outcome), margin.map (·.val)]
  | .reaction st l j src e state =>
    longAt body 1 st.toNat ∧ fieldsAt body 0 [some 4]
    ∧ fieldsAt body 5 [some l.val, some j.val, some (sourceCode src), e.map edgeCode, some (legStateCode state)]
  | .storeDone st p act ok =>
    longAt body 1 st.toNat ∧ fieldsAt body 0 [some 5]
    ∧ fieldsAt body 5 [some p.val, some (storeActCode act), some (if ok = true then 0 else 1)]
  | .testDone st l cause elapsed cs =>
    longAt body 1 st.toNat ∧ fieldsAt body 0 [some 6] ∧ fieldsAt body 5 [some l.val, some (testEndCode cause)]
    ∧ longAt body 7 elapsed ∧ checkersAt body 11 cs

/-- The codes of R175 and R176, each list in the order of its numbers. -/
def codesAsGiven : Prop :=
  [LegState.off, .absent, .held, .training, .active, .degraded, .test, .failed].map legStateCode = [0, 1, 2, 3, 4, 5, 6, 7]
  ∧ [PathState.unmapped, .parked, .benched, .training, .passing, .testing].map pathStateCode = [0, 1, 2, 3, 4, 5]
  ∧ [TrainCause.first, .loss, .host, .reaction, .restore, .testEnd].map trainCauseCode = [0, 1, 2, 3, 4, 5]
  ∧ (∀ c : TrainCause, causeCode (.train c) = trainCauseCode c)
  ∧ [Cause.disable, .enable, .presence, .test, .reset, .fail .budget, .fail .width, .fail .rate].map causeCode
      = [6, 7, 8, 9, 10, 11, 12, 13]
  ∧ [FailCause.budget, .width, .rate].map failCauseCode = [11, 12, 13]
  ∧ [Rate.r25, .r50, .r100].map rateIndex = [0, 1, 2]
  ∧ [Severity.critical, .major, .minor].map severityCode = [0, 1, 2]
  ∧ [TrainStatus.idle, .announced, .tuning, .ready].map statusCode = [0, 1, 2, 3]
  ∧ [Source.none, .present, .alert, .wake, .tallyThreshold, .slipBurst, .marginLow, .signalLost].map sourceCode
      = [0, 1, 2, 3, 4, 5, 6, 7]
  ∧ [Edge.rise, .fall].map edgeCode = [0, 1] ∧ [EdgeMode.rise, .fall, .either].map edgeModeCode = [0, 1, 2]
  ∧ [Action.retrain, .hold, .release, .capture, .notify].map actionCode = [0, 1, 2, 3, 4]
  ∧ [ErrorKind.signalLost, .lockLost, .slipBurst, .marginLow, .tuneNoConverge, .trainTimeout, .rateMismatch, .partnerAbort,
      .positionMismatch, .widthReduced, .legFailed, .testMismatch, .sidebandCollision, .storeFault].map kindNumber
      = [1, 2, 3, 4, 5, 6, 7, 8, 9, 10, 11, 12, 13, 14]
  ∧ [JobKind.sweep, .trim, .margin].map jobKindCode = [0, 1, 2]
  ∧ [Requester.leg, .settings, .switch].map requesterCode = [0, 1, 2]
  ∧ [JobEnd.completed, .displaced, .cancelled].map jobEndCode = [0, 1, 2]
  ∧ [Signal.notWatched, .present, .lost].map signalCode = [0, 1, 2]
  ∧ [Lock.notWatched, .locked, .unlocked].map lockCode = [0, 1, 2]
  ∧ [SlotPlan.short, .long].map slotPlanCode = [0, 1] ∧ [BitTime.us1, .us2, .us4].map bitTimeCode = [0, 1, 2]
  ∧ [StartWidth.w3, .w5, .w7].map startWidthCode = [0, 1, 2] ∧ [FrameMode.continuous, .quiet].map modeCode = [0, 1]
  ∧ [FrameState.disabled, .idle, .sending, .halted].map frameStateCode = [0, 1, 2, 3]
  ∧ [FacesChoice.c, .s, .both].map facesChoiceCode = [0, 1, 2]
  ∧ [TestStatus.running, .ended].map testStatusCode = [0, 1] ∧ [TestEnd.stop, .limit, .loss].map testEndCode = [0, 1, 2]
  ∧ [CheckerState.seeking, .locked, .lost].map checkerStateCode = [0, 1, 2]
  ∧ [StoreAct.erase, .write].map storeActCode = [0, 1] ∧ [ResetCause.power, .pin, .request].map resetCauseCode = [0, 1, 2]
  ∧ pageStateCode .blank = 0 ∧ (∀ r : List Byte, pageStateCode (.written r) = 1) ∧ pageStateCode .torn = 2

/-! ### Sound states -/

/-- Between steps nothing waits in the reaction table. -/
def State.tableAtRest (s : State) : Prop := s.table = noWork

/-- R168: at most 16 notices, and a dropped count of at most 255. -/
def State.noticesBounded (s : State) : Prop := s.notices.queue.length ≤ 16 ∧ s.notices.dropped ≤ 255

/-- R5: the map in force and the plan copy meet the conditions of a valid map together. -/
def State.mapSound (s : State) : Prop := mapValid s.map s.plan = true

/-- R69: every active and staged set is valid, and swap on completion is set only together with pending; the load
image's presets are valid too (R71). -/
def State.facesSound (s : State) : Prop :=
  (∀ f : FaceId, (s.face f).active.valid = true ∧ (s.face f).staged.valid = true
    ∧ ((s.face f).swapOnCompletion = true → (s.face f).pending = true))
  ∧ ∀ f : FaceId, (s.image.presets[f]).valid = true

/-- R129: a filled next record comes with a filled first record and a further count of at least 1. -/
def Log.sound (g : Log) : Prop :=
  (g.next.isSome → g.first.isSome ∧ 1 ≤ g.further) ∧ g.further ≤ 255

def State.logsSound (s : State) : Prop := ∀ sev : Severity, (s.errors.log sev).sound

/-- R142: a frame is in flight exactly while the engine is SENDING. -/
def State.frameSound (s : State) : Prop := s.frame.state = .sending ↔ s.frame.snapshot.isSome = true

/-- R147: change-pending is set whenever a current value of the plan in force differs from its last-sent value. -/
def State.changesKnown (s : State) : Prop := s.differs s.frame.plan.slots = true → s.frame.changePending = true

/-- R84: a suspended job is always a MARGIN. -/
def State.suspendedIsMargin (s : State) : Prop := ∀ x, s.engine.suspended = some x → x.job.kind = .margin

/-- R86: a pending job is filed under its own face. -/
def State.jobsFiled (s : State) : Prop := ∀ (f : FaceId) (j : Job), s.queued f = some j → j.face = f

/-- R153: a checker's 32-bit counts stay within 32 bits, its unit is not full and has at most 255 mismatches. -/
def Checker.bounded (k : Checker) : Prop :=
  k.units ≤ 4294967295 ∧ k.mismatched ≤ 4294967295 ∧ k.unitBits < 1048576 ∧ k.unitMismatches ≤ 255

def State.checkersBounded (s : State) : Prop :=
  ∀ (l : LegId) (r : TestRecord), s.test l = some r → ∀ c ∈ r.checkers, c.checker.bounded

/-- R7: a path is UNMAPPED exactly when the map and the plan copy give it no place. -/
def State.unmappedSound (s : State) : Prop := ∀ p : PathId, s.path p = .unmapped ↔ s.place p = none

/-- R8: TRAINING, PASSING and TESTING paths are paths of the group of a leg in TRAINING, in ACTIVE or DEGRADED, and in
TEST. -/
def State.pathLaw (s : State) (p : PathId) (q : Place) : Prop :=
  match s.path p with
  | .training => (s.leg q.leg).state = .training ∧ setHas (s.leg q.leg).group q.pos.val = true
  | .passing => isLinked (s.leg q.leg).state = true ∧ setHas (s.leg q.leg).group q.pos.val = true
  | .testing => (s.leg q.leg).state = .test ∧ setHas (s.leg q.leg).group q.pos.val = true
  | .unmapped | .parked | .benched => True

def State.pathsSound (s : State) : Prop :=
  s.unmappedSound ∧ ∀ (p : PathId) (q : Place), s.place p = some q → s.pathLaw p q

/-- R8, R12: no position of a leg's group is excluded, and a path whose position is excluded is never TRAINING, PASSING or
TESTING. -/
def State.excludedSound (s : State) : Prop :=
  (∀ l : LegId, (s.leg l).group &&& (s.leg l).excluded = 0#4)
  ∧ ∀ (p : PathId) (q : Place), s.place p = some q → watchedState (s.path p) = true →
      setHas (s.leg q.leg).excluded q.pos.val = false

/-! ### Takings spoken of in statements -/

/-- No reaction slot of a leg has the source. -/
def State.noSlotOn (s : State) (l : LegId) (src : Source) : Prop := ∀ j : SlotId, (s.slot l j).source ≠ src

/-- Whether a face's path is one of a leg's. -/
def State.onLeg (s : State) (l : LegId) (f : FaceId) : Bool := s.faceLeg f == some l

/-- Whether a face's path is one of a leg's, at a position of a set. -/
def State.onPositions (s : State) (l : LegId) (g : PosSet) (f : FaceId) : Bool :=
  match s.place (facePath f) with
  | some q => q.leg == l && setHas g q.pos.val
  | none => false

/-- Whether a face's path is one of a leg's group. -/
def State.onGroup (s : State) (l : LegId) (f : FaceId) : Bool := s.onPositions l (s.leg l).group f

/-- The face after a swap (R77). -/
def Face.swapped (x : Face) : Face := ⟨x.staged, x.staged, false, false, x.pinned, none, x.status⟩

/-- The face after a settle point (R76). -/
def Face.settled (x : Face) : Face := if x.pending = true then x.swapped else x

/-- Nothing of a face record but its training status has changed from `x`. -/
def Face.sameSet (x y : Face) : Prop := y = { x with status := y.status }

/-- A path's faces and monitors are as they were, but for training statuses. -/
def State.pathKept (s t : State) (p : PathId) : Prop :=
  ∀ f : FaceId, facePath f = p → t.monitor f = s.monitor f ∧ (s.face f).sameSet (t.face f)

/-- A path has entered PARKED or BENCHED: its monitors are idle (R105), and its faces have settled (R9, R76). -/
def State.pathRests (s t : State) (p : PathId) : Prop :=
  ∀ f : FaceId, facePath f = p →
    (t.monitor f).signal = .notWatched ∧ (t.monitor f).lock = .notWatched ∧ (t.monitor f).slips = 0
    ∧ (s.face f).settled.sameSet (t.face f)

/-- Every path of a leg is PARKED. One that was not so before has entered that state (R9). -/
def State.legParked (s t : State) (l : LegId) : Prop :=
  ∀ p : PathId, s.pathLeg p = some l →
    t.path p = .parked ∧ if s.path p = .parked then s.pathKept t p else s.pathRests t p

/-- The first ANNOUNCE of an attempt on each group C-face (R50 step 4). -/
def State.announces (s : State) (l : LegId) (w : Nat) (g : PosSet) (attempt : Nat) : List SentWord :=
  (allFaces.filter (fun f => s.onPositions l g f && isCFace f)).map (fun f =>
    ⟨f, .announce (((s.place (facePath f)).map (·.pos)).getD 0) w (ratesUpTo (s.leg l).targetRate) attempt⟩)

/-- An attempt has begun at width `w` on group `g` (R30, R50): the leg, its paths, their monitors and faces, and the words the
part sends after those in `before`. The faces of the group settle, and so do those of a path that enters BENCHED. -/
def State.attemptBegun (s t : State) (l : LegId) (w : Nat) (g : PosSet) (before : List SentWord) : Prop :=
  (t.leg l).state = .training ∧ (t.leg l).currentWidth = w ∧ (t.leg l).group = g ∧ (t.leg l).agreedRate = none
  ∧ (t.leg l).holdTimer = none ∧ (t.leg l).trimTimer = none
  ∧ (t.leg l).limitTimer = some (10 * (s.leg l).trainingLimit)
  ∧ (t.leg l).record = some (freshRecord ((t.leg l).attemptCount + 1) (ratesUpTo (s.leg l).targetRate))
  ∧ t.sent = before ++ s.announces l w g ((t.leg l).attemptCount + 1)
  ∧ ∀ (p : PathId) (q : Place), s.place p = some q → q.leg = l →
      (if setHas g q.pos.val then
        t.path p = .training ∧ (t.face (cFace p)).status = .announced ∧ (t.face (sFace p)).status = .idle
          ∧ t.monitor (sFace p) = Monitor.start (s.leg l).slipLimit
          ∧ t.monitor (cFace p) = Monitor.start (s.leg l).slipLimit
          ∧ ∀ f : FaceId, facePath f = p → (s.face f).settled.sameSet (t.face f)
       else
        t.path p = .benched ∧ (s.path p ≠ .benched → s.pathRests t p)
          ∧ (s.path p = .benched → setHas (s.leg l).group q.pos.val = false → s.pathKept t p))

/-- A series has started (R30): the count is 0, the cause is set and the first attempt has begun. -/
def State.seriesBegun (s t : State) (l : LegId) (c : TrainCause) (w : Nat) (g : PosSet) : Prop :=
  s.attemptBegun t l w g s.sent ∧ (t.leg l).attemptCount = 0 ∧ (t.leg l).trainingCause = c

/-- What no taking of leg `l` alone touches: the other legs and their paths, the map and plan, the store and load image,
the errors, the reports in flight and the reaction slots. -/
def State.othersKept (s t : State) (l : LegId) : Prop :=
  (∀ k : LegId, k ≠ l → t.leg k = s.leg k ∧ t.test k = s.test k)
  ∧ (∀ (p : PathId), s.pathLeg p ≠ some l → t.path p = s.path p ∧ t.monitor (sFace p) = s.monitor (sFace p)
      ∧ t.monitor (cFace p) = s.monitor (cFace p) ∧ t.face (sFace p) = s.face (sFace p)
      ∧ t.face (cFace p) = s.face (cFace p))
  ∧ t.map = s.map ∧ t.plan = s.plan ∧ t.store = s.store ∧ t.image = s.image ∧ t.errors = s.errors ∧ t.slots = s.slots
  ∧ t.clock = s.clock ∧ t.table = s.table ∧ t.inFlight = s.inFlight ∧ t.bus = s.bus ∧ t.pending = s.pending

/-- What no taking of a leg controller, the tuning engine or the reaction table touches: the map and plan, the store and the
load image, the port and its bus, the clock, the straps, what reads were given, the free-value counter and the waiting
commands. -/
def State.groundKept (s t : State) : Prop :=
  t.map = s.map ∧ t.plan = s.plan ∧ t.store = s.store ∧ t.image = s.image ∧ t.port = s.port ∧ t.bus = s.bus
  ∧ t.clock = s.clock ∧ t.addrPins = s.addrPins ∧ t.readData = s.readData ∧ t.freeCount = s.freeCount
  ∧ t.pending = s.pending

/-- The same, and the reports in flight stay in their order: one that is made while others are in flight waits behind them, and
none waits where none did. -/
def State.takingKept (s t : State) : Prop :=
  s.groundKept t ∧ ∃ more : List Report, t.inFlight = s.inFlight ++ more ∧ (s.inFlight = [] → more = [])

/-- The frame that starts from the engine `x` (R140, R143): the snapshot of the plan in force and the current values. -/
def State.startedFrom (s : State) (x : FrameEngine) : FrameEngine :=
  { x with
    state := .sending, startWanted := false, elapsed := 0, gap := 0, bitPhase := 0
    snapshot := some ⟨x.plan, #v[s.slotValues 0, s.slotValues 1, s.slotValues 2, s.slotValues 3]⟩ }

/-- The frame engine that was in `s` is judged over the slot values of `t` and nothing else happens to it: change-pending is
set where it was set or where a current value of the plan in force differs from its last-sent value (R141), shortPending
likewise for the items of the SHORT plan (log entry 16), and an engine in IDLE with its gap over starts the frame that this
calls for (R143). -/
def State.frameJudged (s t : State) : Prop :=
  ∃ cp sp : Bool,
    let x : FrameEngine := { s.frame with changePending := cp, shortPending := sp }
    t.frame = (if x.state = .idle ∧ x.gap = 0 ∧ (x.mode = .continuous ∨ cp = true ∨ x.startWanted = true)
      then t.startedFrom x else x)
    ∧ (cp = true ↔ s.frame.changePending = true ∨ t.differs s.frame.plan.slots = true)
    ∧ (sp = true ↔ s.frame.shortPending = true ∨ t.differs .short = true)

/-- Nothing but the wires of one leg has changed, and the frame engine is judged over the slot values that follow. -/
def State.wiresBecame (s t : State) (l : LegId) (w : LegWires) : Prop :=
  t = { s with wires := s.wires.set l w, frame := t.frame } ∧ s.frameJudged t

/-- A slot of the leg on the source that matches the edge has fired once, whatever its action did; a slot on another source
but TALLY THRESHOLD has not, nor has a slot of another leg (R113, R114). A fire count saturates at 255. -/
def State.firedOnce (s t : State) (l : LegId) (src : Source) (e : Option Edge) : Prop :=
  (∀ j : SlotId, (s.slot l j).source = src → t.slot l j = { s.slot l j with
      fires :=
        if (match e with
            | none => true
            | some e => (s.slot l j).edge.any (fun m => edgeMatches m e)) = true
        then min 255 ((s.slot l j).fires + 1) else (s.slot l j).fires })
  ∧ (∀ j : SlotId, (s.slot l j).source ≠ src → (s.slot l j).source ≠ .tallyThreshold → t.slot l j = s.slot l j)
  ∧ ∀ (k : LegId) (j : SlotId), k ≠ l → t.slot k j = s.slot k j

/-- A running test of the leg has been discarded: no record is left and its generators have stopped (R156). Where none was
running the record is as it was. -/
def State.testDiscarded (s t : State) (l : LegId) : Prop :=
  (∀ r : TestRecord, s.test l = some r → r.status = .running →
    t.test l = none ∧ ∀ c ∈ r.checkers, t.generators[c.face] = none)
  ∧ ((∀ r : TestRecord, s.test l = some r → r.status ≠ .running) → t.test l = s.test l)

/-! ### The engine, as statements speak of it -/

/-- The engine is IDLE and has nothing that it can take: what is pending is masked (R91). -/
def State.engineIdle (s : State) : Prop :=
  s.engine.running = none ∧ s.engine.suspended = none
  ∧ ∀ f : FaceId, (s.queued f).isSome = true → setHas s.engine.mask f.val = true

/-- Once the running job has left, the engine has a suspended MARGIN that resumes, or nothing at all; no result waits. -/
def State.lastJob (s : State) : Prop :=
  s.engine.held = []
  ∧ ((s.engine.suspended.isSome = true ∧ s.engine.urgentPending = false)
    ∨ (s.engine.suspended = none ∧ ∀ g : FaceId, s.queued g = none))

/-- The engine after the running job has left: a suspended MARGIN resumes with its steps, or starts over where the RX half of
its face was rewritten meanwhile, and its grace counts anew (R91, R95). -/
def Engine.freed (e : Engine) (rewritten : Option FaceId) : Engine :=
  { e with
    running := e.suspended.map (fun x =>
      ⟨x.job, if rewritten = some x.job.face then 0 else x.stepsDone, 0, false⟩)
    suspended := none, held := [] }

/-- The engine once it has taken a job from its queue: the job has left, and the pointer of its class has moved (R91, R92). -/
def Engine.after (e : Engine) (j : Job) : Engine :=
  { e with
    queue := e.queue.set j.face none
    urgentPointer := if j.kind = .sweep then j.face + 1 else e.urgentPointer
    routinePointer := if j.kind = .trim then j.face + 1 else e.routinePointer
    probePointer := if j.kind = .margin then j.face + 1 else e.probePointer }

/-- The order of the classes (R91): URGENT, ROUTINE, PROBE. -/
def classRank : JobKind → Nat
  | .sweep => 0
  | .trim => 1
  | .margin => 2

/-- How many faces a face lies after a pointer, in face-index order wrapping from 15 to 0 (R91). -/
def facesPast (pointer f : FaceId) : Nat := (f.val + 16 - pointer.val) % 16

/-- The rotation pointer of a kind's class (R83, R92). -/
def Engine.turnOf (e : Engine) : JobKind → FaceId
  | .sweep => e.urgentPointer
  | .trim => e.routinePointer
  | .margin => e.probePointer

/-- The job that an engine which is free takes from its queue (R91): its face is unmasked; where a MARGIN is suspended it is a
SWEEP; and every other pending job of an unmasked face is of a lower class, or of the same class on a face further past the
class's rotation pointer. -/
def Engine.takes (e : Engine) (j : Job) : Prop :=
  e.queue[j.face] = some j ∧ setHas e.mask j.face.val = false ∧ (e.suspended.isSome = true → j.kind = .sweep)
  ∧ ∀ f : FaceId, f ≠ j.face → setHas e.mask f.val = false → ∀ k ∈ e.queue[f],
      classRank j.kind < classRank k.kind ∨ (j.kind = k.kind ∧ facesPast (e.turnOf j.kind) j.face < facesPast (e.turnOf j.kind) f)

/-- No SWEEP is pending on an unmasked face (R91). -/
def Engine.noneUrgent (e : Engine) : Prop :=
  ∀ f : FaceId, ∀ k ∈ e.queue[f], k.kind = .sweep → setHas e.mask f.val = true

/-- A cancellation of the faces `fs` has been taken (R96, R97): none of them has a pending or a suspended job, a running job
of one is ending, and the pending job of its face is held for its stop. Every other job, the pointers and the mask are as they
were. -/
def State.cancelled (s t : State) (fs : FaceId → Bool) : Prop :=
  (∀ f : FaceId, t.queued f = if fs f = true then none else s.queued f)
  ∧ t.engine.running = s.engine.running.map (fun r => if fs r.job.face = true then { r with cancelling := true } else r)
  ∧ t.engine.suspended.map (·.job) = (s.engine.suspended.map (·.job)).filter (fun j => !fs j.face)
  ∧ t.engine.held = s.engine.held ++ (match s.engine.running with
      | some r => if fs r.job.face = true then (s.queued r.job.face).toList else []
      | none => [])
  ∧ t.engine.urgentPointer = s.engine.urgentPointer ∧ t.engine.routinePointer = s.engine.routinePointer
  ∧ t.engine.probePointer = s.engine.probePointer ∧ t.engine.mask = s.engine.mask

/-- The jobs whose results a cancellation of the faces `fs` hands over at once (R96): for each face in order its suspended job,
and its pending one unless the result is held (R97). -/
def State.cancelHanded (s : State) (fs : FaceId → Bool) : List Job :=
  (allFaces.filter fs).flatMap (fun f =>
    let suspended := ((s.engine.suspended.map (·.job)).filter (fun j => j.face == f)).toList
    let queued := if s.runningOn f = true then [] else (s.queued f).toList
    suspended ++ queued)

/-- The JOB DONE notices of a cancellation of the faces `fs` (R96, R102): only jobs of requester SWITCH raise one. -/
def State.cancelNotices (s : State) (fs : FaceId → Bool) : List Notice :=
  ((s.cancelHanded fs).filter (fun j => j.requester == .switch)).map (fun j =>
    .jobDone s.clock.stamp j.tag j.face .cancelled none)

/-! ### The end of an attempt, as statements speak of it -/

/-- Whether a face is a group face of a leg whose SWEEP outstanding field is yes (R46, R47). -/
def State.outstanding (s : State) (l : LegId) (f : FaceId) : Bool :=
  s.onGroup l f && (s.leg l).record.any (fun r => setHas r.sweepOutstanding f.val)

/-- Whether a face's result is owed once the leg's attempt has ended and a cancellation of the faces `fs` has been taken: the
flag was set, or is set for a SWEEP outstanding (R47), and no CANCELLED result has cleared it meanwhile. -/
def State.owesAfter (s : State) (l : LegId) (fs : FaceId → Bool) (f : FaceId) : Bool :=
  (setHas s.resultOwed f.val || s.outstanding l f)
  && !(s.cancelHanded fs).any (fun j => j.kind == .sweep && j.requester == .leg && j.face == f)

/-- The ABORTs at the end of a leg's attempt: one on each group face that is not IDLE (R61 step 2, R67). A leg without a
training record has no attempt. -/
def State.aborts (s : State) (l : LegId) (reason : AbortReason) : List SentWord :=
  if (s.leg l).record.isSome = true then
    (allFaces.filter (fun f => s.onGroup l f && (s.face f).status != .idle)).map (fun f => ⟨f, .abort reason⟩)
  else []

/-- An attempt in progress, where there is one, has been abandoned (R67), and the jobs of the faces `fs` cancelled: the ABORTs
sent, the results owed, and every group face IDLE. -/
def State.abandonedWith (s t : State) (l : LegId) (reason : AbortReason) (fs : FaceId → Bool) : Prop :=
  t.sent = s.sent ++ s.aborts l reason
  ∧ (∀ f : FaceId, setHas t.resultOwed f.val = s.owesAfter l fs f)
  ∧ ((s.leg l).record.isSome = true → ∀ f : FaceId, s.onGroup l f = true → (t.face f).status = .idle)

/-! ### Reports, as statements spell them (R123) -/

/-- A report of face scope, of a face of leg `l`. -/
def State.errorAtFace (s : State) (l : LegId) (k : ErrorKind) (f : FaceId) (detail : Option Nat) : Report :=
  ⟨k, some l, some (facePath f), some f, some (s.leg l).state, some (s.leg l).attemptCount, s.clock.stamp, detail⟩

/-- A report of leg scope, with the leg's state and count as they are when it is made. -/
def State.errorAtLeg (s : State) (l : LegId) (k : ErrorKind) (st : LegState) (count : Nat) (detail : Option Nat) : Report :=
  ⟨k, some l, none, none, some st, some count, s.clock.stamp, detail⟩

/-- The error unit once it has taken reports, in order. -/
def State.afterReports (s : State) (rs : List Report) : State := rs.foldl (fun s r => (s.takeReport r).1) s

/-- A leg controller raises reports in the middle of its taking, in order (R126): the error unit takes them, or they wait
behind what is in flight. -/
def State.told (s : State) (rs : List Report) : State :=
  if s.inFlight.isEmpty = true then s.afterReports rs else { s with inFlight := s.inFlight ++ rs }

/-- What the error unit has in `t` is what it has in `u`: errors, and reports in flight. -/
def State.reportsOf (t u : State) : Prop := t.errors = u.errors ∧ t.inFlight = u.inFlight

/-- Nothing that waits behind a monitor's report is taken with it: nothing waits, or the next one is a monitor's too. -/
def monitorNext (rest : List Report) : Prop := ∀ (r : Report) (more : List Report), rest = r :: more →
  r.kind = .signalLost ∨ r.kind = .lockLost ∨ r.kind = .slipBurst

/-! ### The exchange -/

/-- A face of a group path of a leg in TRAINING, with the leg's training record (R46). -/
def State.inExchange (s : State) (f : FaceId) (q : Place) (r : TrainRecord) : Prop :=
  s.path (facePath f) = .training ∧ s.place (facePath f) = some q ∧ (s.leg q.leg).state = .training
  ∧ (s.leg q.leg).record = some r ∧ setHas (s.leg q.leg).group q.pos.val = true

/-- A path of the leg's group, with its place. -/
def State.inGroup (s : State) (p : PathId) (q : Place) : Prop :=
  s.place p = some q ∧ setHas (s.leg q.leg).group q.pos.val = true

/-- A face of a phase becomes READY, and the part sends READY on it, in the step whose outcome is `out` (R59, R60). In `b`,
everything else that the step does beforehand has happened, and the record is `rec`; `answered` is what it does afterwards.
Where other faces of the phase are not READY, nothing else happens. The last C-face starts the S phase, in which every group
S-face is ANNOUNCED with the agreed rate alone. The last S-face makes the attempt a success: the group PASSING, the leg ACTIVE
at its configured width and DEGRADED below it, with WIDTH REDUCED reported, and a SWEEP still outstanding owes its result
(R47). That WIDTH REDUCED waits behind reports in flight is log entry 38, and that the LEG STATE notice comes last is log entry
13. -/
def State.becomesReady (b : State) (l : LegId) (f : FaceId) (rec : TrainRecord) (answered : State → State)
    (out : Host.Outcome State Fault Refusal) : Prop :=
  let last : Prop := ∀ (g : FaceId) (x : Place),
    b.inGroup (facePath g) x → x.leg = l → isCFace g = isCFace f → g ≠ f → (b.face g).status = .ready
  let group (c : Bool) (g : FaceId) : Bool := b.onGroup l g && isCFace g == c
  (¬last →
    out = .next (answered { (b.modLeg l (fun x => { x with record := some rec })).modFace f (fun x => { x with
      status := .ready }) with sent := b.sent ++ [⟨f, .ready⟩] }))
  ∧ (last → rec.phase = .c → ∀ rate : Rate, (b.leg l).agreedRate = some rate →
    ∃ t, out = .next t ∧ t.leg l = { b.leg l with record := some { rec with phase := .s } }
      ∧ (∀ g : FaceId, (t.face g).status =
          if g = f then .ready else if group false g = true then .announced else (b.face g).status)
      ∧ t.sent = b.sent ++ ⟨f, .ready⟩ :: (allFaces.filter (group false)).map (fun g =>
          ⟨g, .announce (((b.place (facePath g)).map (·.pos)).getD 0) (b.leg l).currentWidth (rateAlone rate)
            rec.attempt⟩)
      ∧ t.paths = b.paths ∧ t.errors = b.errors ∧ t.notices = b.notices ∧ t.engine = b.engine
      ∧ t.resultOwed = b.resultOwed ∧ t.port = (answered b).port)
  ∧ (last → rec.phase = .s → b.noSlotOn l .tallyThreshold →
    let full := decide ((b.leg l).currentWidth = (b.leg l).configuredWidth)
    ∃ t, out = .next t
      ∧ t.leg l = { b.leg l with
          state := if full = true then .active else .degraded, limitTimer := none, record := none
          trimTimer := if (b.leg l).trimInterval ≥ 1 then some (1000 * (b.leg l).trimInterval) else none }
      ∧ (∀ p : PathId, t.path p = if group true (cFace p) = true then .passing else b.path p)
      ∧ (∀ g : FaceId, b.onGroup l g = true → (t.face g).status = .idle)
      ∧ t.sent = b.sent ++ [⟨f, .ready⟩]
      ∧ (∀ g : FaceId, setHas t.resultOwed g.val =
          (setHas b.resultOwed g.val || (b.onGroup l g && setHas rec.sweepOutstanding g.val)))
      ∧ t.reportsOf (if full = true then b
          else b.told [⟨.widthReduced, some l, none, none, some .degraded, some (b.leg l).attemptCount, b.clock.stamp,
            none⟩])
      ∧ (∃ ns : List Notice, t.notices =
          (ns.foldl NoticeQueue.take b.notices).take
            (.legState b.clock.stamp l .training (t.leg l).state (.train (b.leg l).trainingCause)
              (b.leg l).currentWidth))
      ∧ t.port = (answered b).port ∧ ∀ k : LegId, k ≠ l → t.leg k = b.leg k)

/-- A rate class that the offer and the partner rate set of every group C-face hold, once `rates` is the one of `p`
(R52). -/
def State.commonRate (s : State) (l : LegId) (r : TrainRecord) (p : PathId) (rates : RateSet) (k : Nat) : Prop :=
  setHas r.offered k = true ∧ setHas rates k = true
  ∧ ∀ (p' : PathId) (q : Place), s.inGroup p' q → q.leg = l → p' ≠ p →
      setHas ((r.partnerRates[p']).getD 0#3) k = true

/-- The next attempt of the series has begun after a failure (R33): one failure more is counted, the excluded set is `ex`
and the cause is kept. The ABORTs are sent before the new attempt's ANNOUNCEs (R61 step 2), and a group face that the new
attempt does not announce on is IDLE (R61 step 6). -/
def State.retried (s t : State) (l : LegId) (ex : PosSet) (w : Nat) (g : PosSet) : Prop :=
  s.attemptBegun t l w g (s.sent ++ s.aborts l .giveUp) ∧ (t.leg l).attemptCount = (s.leg l).attemptCount + 1
  ∧ (t.leg l).excluded = ex ∧ (t.leg l).trainingCause = (s.leg l).trainingCause
  ∧ ∀ f : FaceId, s.onGroup l f = true → (s.onPositions l g f && isCFace f) = false → (t.face f).status = .idle

/-- The leg has gone to FAILED after a failure (R33, R34). What was reported before is in `base`, and LEG FAILED is reported
after it, with the failure cause's code as detail (R176). The words sent before are `before`, and the ABORTs follow them (R61
step 2); every group face is IDLE (R61 step 6). -/
def State.gaveUp (s t : State) (l : LegId) (ex : PosSet) (c : FailCause) (base : State) (before : List SentWord) : Prop :=
  (t.leg l).state = .failed ∧ (t.leg l).failureCause = some c
  ∧ (t.leg l).attemptCount = (s.leg l).attemptCount + 1 ∧ (t.leg l).excluded = ex ∧ (t.leg l).currentWidth = 0
  ∧ (t.leg l).group = 0#4 ∧ (t.leg l).agreedRate = none ∧ (t.leg l).limitTimer = none ∧ (t.leg l).record = none
  ∧ s.legParked t l ∧ t.sent = before ++ s.aborts l .giveUp
  ∧ (∀ f : FaceId, s.onGroup l f = true → (t.face f).status = .idle)
  ∧ t.reportsOf (base.told [s.errorAtLeg l .legFailed .failed ((s.leg l).attemptCount + 1)
      (some (match c with
        | .budget => 11
        | .width => 12
        | .rate => 13))])
  ∧ ∀ k : LegId, k ≠ l → t.leg k = s.leg k

/-- A command fails the attempt of a leg, and `base` has the error that the part reports. The next attempt starts where the budget
allows one and a width qualifies; the leg goes to FAILED with cause BUDGET where the budget is spent, and with cause WIDTH
where no width qualifies (R33, R61). `more` holds of the state either way. -/
def State.failsAttempt (s : State) (i : Instr) (l : LegId) (ex : PosSet) (base : State) (more : State → Prop) : Prop :=
  ((s.leg l).attemptCount + 1 ≠ (s.leg l).retryBudget →
    (∀ (w : Nat) (g : PosSet),
      selectWidth (s.leg l).configuredWidth (s.leg l).minimumWidth ex = some (w, g) →
      ∃ t, exec i s = .next t ∧ s.retried t l ex w g ∧ t.reportsOf base ∧ more t
        ∧ ∀ k : LegId, k ≠ l → t.leg k = s.leg k)
    ∧ (selectWidth (s.leg l).configuredWidth (s.leg l).minimumWidth ex = none →
      ∃ t, exec i s = .next t ∧ s.gaveUp t l ex .width base s.sent ∧ more t))
  ∧ ((s.leg l).attemptCount + 1 = (s.leg l).retryBudget →
    ∃ t, exec i s = .next t ∧ s.gaveUp t l ex .budget base s.sent ∧ more t)

/-- Whether a face is a chosen face of a test of a leg (R149). -/
def State.chosen (s : State) (l : LegId) (choice : FacesChoice) (f : FaceId) : Bool :=
  s.onGroup l f
  && (match choice with
      | .c => isCFace f
      | .s => !isCFace f
      | .both => true)

/-! ### Time -/

/-- Whether a filter's wire has differed from its filtered level for its filter time (R135). -/
def Filter.settlesAt (x : Filter) (low : Bool) (micros : Nat) : Prop := x.wireLow = low ∧ x.asserted ≠ low ∧ micros ≤ x.stable

/-- What has fallen due in a state that a tick has left (log entry 1); `ms` says whether the tick ended a millisecond. -/
def State.fallsDue (t : State) (ms : Prop) (i : Instr) : Prop :=
  match i with
  | .holdTimerExpiry l => ms ∧ (t.leg l).holdTimer = some 0
  | .trainingLimitExpiry l => ms ∧ (t.leg l).limitTimer = some 0
  | .trimTimerExpiry l => ms ∧ (t.leg l).trimTimer = some 0
  | .testLimitExpiry l => ms ∧ ∃ r : TestRecord, t.test l = some r ∧ r.status = .running ∧ r.limitTimer = some 0
  | .slipWindowEnd f => ms ∧ (t.monitor f).signal ≠ .notWatched ∧ (t.monitor f).windowRemaining = 0
  | .announceRepeat f => ms ∧ t.path (facePath f) = .training ∧ (t.face f).status = .announced
      ∧ ∃ (l : LegId) (r : TrainRecord), t.faceLeg f = some l ∧ (t.leg l).record = some r
          ∧ setHas r.partnerAnnounced f.val = false
  | .presenceRise l => (t.wiresOf l).present.settlesAt true 10000
  | .presenceFall l => (t.wiresOf l).present.settlesAt false 10000
  | .alertRise l => (t.wiresOf l).alert.settlesAt true 1000
  | .alertFall l => (t.wiresOf l).alert.settlesAt false 1000
  | .wakeChange l => ∃ low : Bool, (t.wiresOf l).wake.settlesAt low 1000
  | .frameGoodEnd => t.frame.state = .sending ∧ ∃ x : Snapshot, t.frame.snapshot = some x ∧ frameMicros x.plan ≤ t.frame.elapsed
  | .frameStart => t.frame.state = .idle ∧ t.frame.gap = 0
      ∧ (t.frame.mode = .continuous ∨ t.frame.changePending = true ∨ t.frame.startWanted = true)
  | _ => False

/-- A timer that runs has one millisecond less. -/
def lessOne (timer : Option Nat) : Option Nat := timer.map (fun n => n - 1)

end Sys2Proof.Machine
end

