-- ==== Sys2Proof/Certificates/Slice0/Obligations.lean ====
section
/-! DEFINITION. The statements for the provers. -/

open Sys2Proof Sys2Proof.Machine

/-! ### Steps, reset and the port -/

/-- A step takes the command at the front of the queue and runs it on the state with the queue's rest. -/
def Obligations.StepRunsFrontCommand : Prop :=
  ∀ (c : Instr) (rest : List Instr) (s : State), step { s with pending := c :: rest } = exec c { s with pending := rest }

/-- With no command waiting a step is one microsecond (log entry 1): the microseconds grow by one, or the stamp does and
they start over; paths, faces, the engine, the errors, the notices, the store, the port and the legs' states stay. Each
microsecond the frame engine counts its gap or its frame (R140, R143), each filter its stability (R135), a running generator
moves on by the microsecond's bits (R150, log entry 8), and a LOST checker whose receiver is locked seeks again (R153, log
entry 23). Each millisecond the timers of the legs (R16), the slip windows (R109) and a running test's elapsed time and limit
(R154) count. What falls due then waits in the queue, and nothing else does. -/
def Obligations.IdleStepIsOneMicrosecond : Prop :=
  ∀ s : State, s.pending = [] →
    let ms : Prop := ¬(s.clock.micros + 1 < 1000)
    ∃ t, step s = .next t
      ∧ t.clock.stamp = (if s.clock.micros + 1 < 1000 then s.clock.stamp else s.clock.stamp + 1)
      ∧ t.clock.micros = (if s.clock.micros + 1 < 1000 then s.clock.micros + 1 else 0)
      ∧ t.clock.epoch = s.clock.epoch ∧ t.clock.resetCause = s.clock.resetCause
      ∧ t.paths = s.paths ∧ t.faces = s.faces ∧ t.engine = s.engine ∧ t.errors = s.errors ∧ t.notices = s.notices
      ∧ t.store = s.store ∧ t.port = s.port ∧ t.map = s.map ∧ t.plan = s.plan ∧ t.image = s.image ∧ t.sent = s.sent
      ∧ t.slots = s.slots ∧ t.inFlight = s.inFlight ∧ t.bus = s.bus ∧ t.resultOwed = s.resultOwed
      ∧ (∀ l : LegId, t.leg l =
          if s.clock.micros + 1 < 1000 then s.leg l
          else { s.leg l with
            holdTimer := lessOne (s.leg l).holdTimer, limitTimer := lessOne (s.leg l).limitTimer
            trimTimer := lessOne (s.leg l).trimTimer })
      ∧ (∀ f : FaceId, t.monitor f =
          if s.clock.micros + 1 < 1000 then s.monitor f
          else { s.monitor f with windowRemaining := (s.monitor f).windowRemaining - 1 })
      ∧ (∀ l : LegId,
          let older (x : Filter) : Filter := ⟨x.wireLow, x.asserted, min 10000 (x.stable + 1)⟩
          let w := s.wiresOf l
          t.wiresOf l = ⟨older w.present, older w.alert, older w.wake, w.alertLatch⟩)
      ∧ t.frame = (
          let x := s.frame
          let bit := match x.plan.bit with
            | .us1 => 1
            | .us2 => 2
            | .us4 => 4
          if x.state = .sending then { x with elapsed := x.elapsed + 1 }
          else if x.state = .idle ∧ 0 < x.gap then
            (if x.bitPhase + 1 < bit then { x with bitPhase := x.bitPhase + 1 }
             else { x with gap := x.gap - 1, bitPhase := 0 })
          else x)
      ∧ (∀ l : LegId, s.test l = none → t.test l = none)
      ∧ (∀ (l : LegId) (r : TestRecord), s.test l = some r →
          ∃ cs : List CheckerRecord, cs.map (·.face) = r.checkers.map (·.face)
            ∧ t.test l = some (
                if r.status = .running ∧ ¬(s.clock.micros + 1 < 1000) then
                  { r with checkers := cs, elapsed := min 3600000 (r.elapsed + 1), limitTimer := lessOne r.limitTimer }
                else { r with checkers := cs }))
      ∧ (∀ f : FaceId, t.checkerOf f = (s.checkerOf f).map (fun k =>
          if k.state = .lost ∧ (s.monitor f).lock = .locked
          then { k with state := .seeking, history := 0#31, gathered := 0, run := 0 } else k))
      ∧ (∀ (f : FaceId) (l : LegId) (r : TestRecord) (rate : Rate) (v : Stages), s.generators[f] = some v →
          s.faceLeg f = some l → s.test l = some r → (s.leg l).agreedRate = some rate →
          t.generators[f] = some (patternSteps r.taps (bitsPerMicrosecond rate) v))
      ∧ ∀ i : Instr, i ∈ t.pending ↔ t.fallsDue ms i

/-- The state after reset, where the spec gives its value: stamp and epoch 0 and cause POWER (R170), port READY at 0x38 with
strap 0, which is log entry 9, no notice and an empty mask (R169), every leg ABSENT and every path PARKED (R7, R17), the
default map and plan (R4), the engine empty (R104), every monitor idle (R105), every slot disarmed (R112), the logs empty
(R134), no test (R149), the operation IDLE (R158), the frame engine SENDING (R142); and every sound-state law of Safety holds.
State.reset is the power-on of a part whose store is blank (log entry 10). -/
def Obligations.ResetStateIsAsSpecified : Prop :=
  State.reset.clock = ⟨0#32, 0, 0, .power⟩ ∧ State.reset.port = ⟨.ready, [], false, false, false, 0x38#7⟩
  ∧ State.reset.notices = ⟨[], 0#6, 0⟩
  ∧ (∀ l : LegId, (State.reset.leg l).state = .absent ∧ (State.reset.leg l).configuredWidth = 2)
  ∧ (∀ p : PathId, State.reset.path p = .parked ∧ State.reset.map[p] = some p)
  ∧ (∀ f : FaceId, State.reset.queued f = none ∧ State.reset.face f = freshFace factoryPreset
      ∧ (State.reset.monitor f).signal = .notWatched)
  ∧ State.reset.engine.running = none ∧ State.reset.engine.suspended = none ∧ State.reset.engine.mask = 0#16
  ∧ (∀ (l : LegId) (j : SlotId), State.reset.slot l j = ⟨.none, none, none, 0⟩)
  ∧ State.reset.errors.critical = emptyLog ∧ State.reset.errors.major = emptyLog ∧ State.reset.errors.minor = emptyLog
  ∧ (∀ l : LegId, State.reset.test l = none) ∧ State.reset.store.operation = .idle
  ∧ State.reset.frame.state = .sending ∧ State.reset.inFlight = [] ∧ State.reset.bus = .idle ∧ State.reset.pending = []
  ∧ State.reset.tableAtRest ∧ State.reset.noticesBounded ∧ State.reset.mapSound ∧ State.reset.facesSound
  ∧ State.reset.logsSound ∧ State.reset.frameSound ∧ State.reset.changesKnown ∧ State.reset.suspendedIsMargin
  ∧ State.reset.jobsFiled ∧ State.reset.checkersBounded
  ∧ State.reset.pathsSound ∧ State.reset.excludedSound

/-- PING and PORT STATUS (R170) answer DONE with 9 and 4 bytes and change nothing but the port. -/
def Obligations.PingAndPortStatusAnswer : Prop :=
  ∀ (s : State) (tag : Byte), s.takesRequests →
    exec (.ping tag []) s = .next (s.answered tag 0x01#8 [] .done
      ([0x58#8, 0x04#8, byte (0x41 + Config.revision.val), byte s.clock.epoch] ++ le32 s.clock.stamp.toNat
        ++ [byte (resetCauseCode s.clock.resetCause)]))
    ∧ exec (.portStatus tag []) s = .next (s.answered tag 0x02#8 [] .done
      [boolByte s.port.state.isHeld, byte s.notices.queue.length, byte s.notices.dropped, s.notices.mask.setWidth 8])

/-- FETCH NOTICE removes and returns the oldest notice, or answers NONE, with the dropped count, which becomes 0; SET
NOTICE MASK replaces the mask with a set of the six kinds and refuses any other bit (R169). ATTN_N is low exactly while the
queue holds a notice, so the fetch of the last one releases it (R168). -/
def Obligations.FetchNoticeAndSetNoticeMask : Prop :=
  (∀ (s : State) (tag : Byte), s.takesRequests →
    (∀ (n : Notice) (rest : List Notice), s.notices.queue = n :: rest →
      exec (.fetchNotice tag []) s =
        .next ({ s with notices := ⟨rest, s.notices.mask, 0⟩ }.answered tag 0x03#8 [] .done
          (byte s.notices.dropped :: n.bytes)))
    ∧ (s.notices.queue = [] →
      exec (.fetchNotice tag []) s =
        .next ({ s with notices := ⟨[], s.notices.mask, 0⟩ }.answered tag 0x03#8 [] .none [byte s.notices.dropped]))
    ∧ (∀ m : BitVec 6,
      exec (.setNoticeMask tag [m.setWidth 8]) s =
        .next ({ s with notices := ⟨s.notices.queue, m, s.notices.dropped⟩ }.answered tag 0x04#8 [m.setWidth 8] .done []))
    ∧ (∀ b : Byte, 64 ≤ b.toNat → exec (.setNoticeMask tag [b]) s = .next (s.answered tag 0x04#8 [b] .invalid [])))
  ∧ ∀ s : State, s.attnLow = true ↔ s.notices.queue ≠ []

/-- PART RESET is answered ACCEPTED and marks a reset as pending; with it pending, the first write, be it a request, a faulty
frame or an unknown CODE, or the read that reaches CHECK performs the reset, and a shorter read leaves it pending (R171). The
two commands for one event are log entry 5, and the operands of the second log entry 25. -/
def Obligations.PendingPartReset : Prop :=
  (∀ (s : State) (tag : Byte), s.takesRequests →
    exec (.partReset tag []) s =
      .next ((s.modPort (fun p => { p with resetPending := true })).answered tag 0x05#8 [] .accepted []))
  ∧ (∀ (s : State) (i : Instr) (tag code : Byte) (body : List Byte), requestParts i = some (tag, code, body) →
      s.port.state.isWorking = false → s.port.resetPending = true →
      exec i s = .next (s.resetPart .request s.addrPins))
  ∧ (∀ s : State, s.port.state.isWorking = false → s.port.resetPending = true →
      (∀ bytes : List Byte, bytes ≠ [] → frameOk bytes = false →
        exec (.frameError bytes) s = .next (s.resetPart .request s.addrPins))
      ∧ ∀ (tag code : Byte) (body : List Byte), code.toNat ∉ requestCodes →
          exec (.unknown tag code body) s = .next (s.resetPart .request s.addrPins))
  ∧ (∀ (s : State) (reply : List Byte) (n : Nat), s.port.state = .replyHeld reply → s.port.resetPending = true →
      (reply.length ≤ n →
        exec (.replyRead n) s = .next ({ s with readData := suppliedBytes reply n }.resetPart .request s.addrPins))
      ∧ (n < reply.length → exec (.replyRead n) s = .next { s with readData := suppliedBytes reply n })
      ∧ ∀ (strap : BitVec 2) (ext : Bool),
          exec (.partResetExecute .write strap ext) s = .next (s.resetPart (if ext then .pin else .request) strap)
          ∧ exec (.partResetExecute .read strap ext) s =
              .next ({ s with readData := reply }.resetPart (if ext then .pin else .request) strap))

/-- What the load image takes from the pages (R4, R71, R159). A BLANK or TORN page supplies factory values; the plan and the map
of a CABLE record are used where they meet R5 together, and the default ones together where they do not; a preset that is no
valid set is the factory preset, and the fields of a DEFAULTS record are used as they stand. -/
def Sys2Proof.Machine.imageFrom (pages : Vector Page 4) (i : Image) : Prop :=
  let content (p : PageId) : PageContent := pages[p].content
  let empty (p : PageId) : Prop := content p = .blank ∨ content p = .torn
  (empty 0 → i.plan = defaultPlan ∧ i.map = defaultMap)
  ∧ (∀ (name : List Byte) (plan : Vector (Option Place) 8) (map : Vector (Option Lane) 8), name.length = 19 →
      content 0 = .written (name ++ plan.toList.flatMap placeBytes ++ map.toList.map mapByte) →
      if mapValid map plan = true then i.plan = plan ∧ i.map = map else i.plan = defaultPlan ∧ i.map = defaultMap)
  ∧ (empty 1 → ∀ f : FaceId, i.presets[f] = factoryPreset)
  ∧ (∀ (r : List Byte) (f : FaceId), content 1 = .written r →
      let k := 6 * f.val
      (setFits r k → i.presets[f] = ⟨⟨byteAt r k, byteAt r (k + 1)⟩,
        ⟨byteAt r (k + 2), byteAt r (k + 3), signedAt r (k + 4), signedAt r (k + 5)⟩⟩)
      ∧ (¬setFits r k → i.presets[f] = factoryPreset))
  ∧ (empty 2 → i.framePlan = ⟨.short, .us2, .w5⟩ ∧ i.mode = .continuous ∧ i.enable = true
      ∧ ∀ l : LegId, i.legs[l] = ⟨true, .r100, 1, 3, 60, 20, 10, 12, 16⟩)
  ∧ ∀ r : List Byte, content 2 = .written r →
      (∀ l : LegId,
        let k := 9 * l.val
        let d := i.legs[l]
        below r k 2 → paramsFit r (k + 1) →
        (d.enabled = true ↔ byteAt r k = 1) ∧ rateIndex d.targetRate = byteAt r (k + 1)
        ∧ d.minimumWidth = byteAt r (k + 2) ∧ d.retryBudget = byteAt r (k + 3) ∧ d.trainingLimit = byteAt r (k + 4)
        ∧ d.holdMinimum = byteAt r (k + 5) ∧ d.trimInterval = byteAt r (k + 6) ∧ d.marginFloor = byteAt r (k + 7)
        ∧ d.slipLimit = byteAt r (k + 8))
      ∧ (planFits r 36 → slotPlanCode i.framePlan.slots = byteAt r 36 ∧ bitTimeCode i.framePlan.bit = byteAt r 37
          ∧ startWidthCode i.framePlan.start = byteAt r 38)
      ∧ (below r 39 2 → modeCode i.mode = byteAt r 39)
      ∧ (below r 40 2 → (i.enable = true ↔ byteAt r 40 = 1))

/-- What every reset of the part leaves (R7, R17, R47, R71, R104, R105, R112, R126, R134, R138, R141, R142, R149, R158, R159,
R162, R169, R172). `log` is the CRITICAL log as the reset finds it. The page of an operation that ran is torn, the load image
comes from the pages as they then stand, and each of their faults is logged with stamp and epoch as they are after the reset. -/
def Sys2Proof.Machine.State.comesUp (s t : State) (strap : BitVec 2) (log : Log) : Prop :=
  let fault (d : Nat) : ErrorRecord :=
    ⟨.storeFault, .critical, none, none, none, none, none, t.clock.stamp, t.clock.epoch, some d⟩
  let faults := storeFaults t.store.pages
  t.port = ⟨.ready, [], false, false, false, 0x38#7 + strap.setWidth 7⟩ ∧ t.addrPins = strap ∧ t.bus = .idle
  ∧ t.resultOwed = 0#16 ∧ t.engine = freshEngine ∧ t.tableAtRest ∧ t.inFlight = []
  ∧ t.store.operation = .idle
  ∧ (∀ p : PageId, t.page p =
      match s.store.operation with
      | .idle => s.page p
      | .erasing q | .writing q _ => if p = q then ⟨.torn, (s.page p).locked⟩ else s.page p)
  ∧ t.image = loadImage t.store.pages ∧ imageFrom t.store.pages t.image
  ∧ (∀ d : Nat, d ∈ faults ↔
      (∃ p : PageId, (t.page p).content = .torn ∧ d = p.val)
      ∨ (d = 0 ∧ (∃ r : List Byte, (t.page 0).content = .written r) ∧ cableOf (t.page 0).content = none)
      ∨ (d = 1 ∧ ∃ (r : List Byte) (k : Nat), (t.page 1).content = .written r ∧ k < 16 ∧ validPreset r k = none))
  ∧ t.errors.critical = faults.foldl (fun g d => g.add (fault d)) log
  ∧ t.notices = ⟨(match log.first, faults with
      | none, d :: _ => [.error t.clock.stamp .critical (fault d)]
      | _, _ => []), 0#6, 0⟩
  ∧ t.errors.settings = defaultSettings ∧ t.errors.tallies = Vector.replicate 4 defaultTally
  ∧ t.map = t.image.map ∧ t.plan = t.image.plan ∧ t.mapSound
  ∧ (∀ p : PathId, t.path p = if t.place p = none then .unmapped else .parked)
  ∧ (∀ f : FaceId, t.face f = freshFace t.image.presets[f] ∧ (t.monitor f).signal = .notWatched
      ∧ (t.monitor f).lock = .notWatched ∧ (t.monitor f).slips = 0 ∧ t.generators[f] = none)
  ∧ (∀ l : LegId,
      let d := t.image.legs[l]
      let x := t.leg l
      x.enabled = d.enabled ∧ x.configuredWidth = widthIn t.map t.plan l ∧ x.targetRate = d.targetRate
      ∧ x.minimumWidth = clampWidth x.configuredWidth d.minimumWidth ∧ x.retryBudget = d.retryBudget
      ∧ x.trainingLimit = d.trainingLimit ∧ x.holdMinimum = d.holdMinimum ∧ x.trimInterval = d.trimInterval
      ∧ x.marginFloor = d.marginFloor ∧ x.slipLimit = d.slipLimit
      ∧ x.state = (if x.enabled = false ∨ x.configuredWidth = 0 then .off else .absent)
      ∧ x.holdRequest = false ∧ x.excluded = 0#4 ∧ x.attemptCount = 0 ∧ x.currentWidth = 0 ∧ x.group = 0#4
      ∧ x.agreedRate = none ∧ x.trainingCause = .first ∧ x.failureCause = none ∧ x.record = none ∧ x.capture = none
      ∧ x.holdTimer = none ∧ x.limitTimer = none ∧ x.trimTimer = none ∧ t.test l = none ∧ t.holdAsserted l = false
      ∧ (let w := s.wiresOf l
         t.wiresOf l = ⟨⟨w.present.wireLow, false, 0⟩, ⟨w.alert.wireLow, false, 0⟩, ⟨w.wake.wireLow, false, 0⟩, false⟩)
      ∧ ∀ j : SlotId, t.slot l j = emptySlot)
  ∧ (t.frame.state = if t.frame.enableRequest then .sending else .disabled)
  ∧ t.frame.plan = t.image.framePlan ∧ t.frame.mode = t.image.mode ∧ t.frame.enableRequest = t.image.enable
  ∧ t.frame.modeRequest = t.image.mode ∧ t.frame.haltRequest = false ∧ t.frame.startWanted = false
  ∧ t.frame.changePending = false ∧ t.frame.lastSent = Vector.replicate 4 0#5

/-- The three resets bring the part up (R172): at power-on stamp and epoch are 0; at a pin reset and a PART RESET the
stamp runs on and the epoch grows by one up to 255; the logs are emptied at power-on and kept otherwise (R134), and the store's
faults join the CRITICAL one (R159). The operands of the resets are log entry 25; that each sideband wire and the straps have
their levels from outside is log entry 9; and that a reset takes no time, so that the stamp and the microseconds after it are
those before it, is the model's choice (log entry 42). -/
def Obligations.ResetsBringThePartUp : Prop :=
  ∀ (s : State) (strap : BitVec 2),
    (∃ t, exec (.powerOn strap) s = .next t ∧ State.comesUp s t strap emptyLog ∧ t.clock = ⟨0#32, 0, 0, .power⟩
      ∧ t.errors.major = emptyLog ∧ t.errors.minor = emptyLog)
    ∧ (∃ t, exec (.pinReset strap) s = .next t ∧ State.comesUp s t strap s.errors.critical
      ∧ t.clock = ⟨s.clock.stamp, s.clock.micros, min 255 (s.clock.epoch + 1), .pin⟩
      ∧ t.errors.major = s.errors.major ∧ t.errors.minor = s.errors.minor)
    ∧ ∀ (tr : ResetTrigger) (ext : Bool), s.port.state.isHeld = true → s.port.resetPending = true →
        ∃ t, exec (.partResetExecute tr strap ext) s = .next t ∧ State.comesUp s t strap s.errors.critical
          ∧ t.clock = ⟨s.clock.stamp, s.clock.micros, min 255 (s.clock.epoch + 1), if ext then .pin else .request⟩
          ∧ t.errors.major = s.errors.major ∧ t.errors.minor = s.errors.minor

/-- The bus (R164): outside a reset the port acknowledges its own address, in every port state, and every byte of a write to it,
and nothing else; during a reset it acknowledges nothing. A write transaction is the command that its bytes make, taken at the
stop or at the repeated start that ends it: the request of its CODE, UNKNOWN, or a faulty frame. A probe changes nothing, and
neither does a transaction to another address. A read transaction reads bytes of the reply from LEN onward, and 0xFF beyond
CHECK or with no reply held. The reply is formed whole when the port leaves WORKING; a read that reaches CHECK delivers it, a
shorter one leaves it held, and a read that meets no reply gets 0xFF (R167). That the bus stands beside the step is log entry
35. -/
def Obligations.TransactionsRepliesAndReads : Prop :=
  (∀ (s : State) (e : BusEvent), s.acknowledges true e = false)
  ∧ (∀ s : State,
      (∀ (a : BitVec 7) (read : Bool), s.bus = .awaiting →
        (s.acknowledges false (.address a read) = true ↔ a = s.port.address))
      ∧ (∀ (kept : List Byte) (n : Nat) (b : Byte), s.bus = .writing kept n → s.acknowledges false (.written b) = true)
      ∧ (∀ b : Byte, s.bus = .ignored → s.acknowledges false (.written b) = false)
      ∧ ∀ (reply : Option (List Byte)) (n : Nat) (more : Bool), s.bus = .reading reply n more →
          s.busSupplies = if more = true then some ((reply.getD []).getD n 0xFF#8) else none)
  ∧ (∀ s : State, s.bus = .idle →
      let addressed (a : BitVec 7) (read : Bool) : List BusEvent := [.start, .address a read]
      let write (bytes : List Byte) : List BusEvent := addressed s.port.address false ++ bytes.map BusEvent.written
      (∀ (i : Instr) (tag code : Byte) (body : List Byte), requestParts i = some (tag, code, body) → body.length ≤ 128 →
        s.onBus (write (requestFrame tag code body) ++ [.stop]) = exec i s
        ∧ s.onBus (write (requestFrame tag code body) ++ [.repeatedStart]) = exec i { s with bus := .awaiting })
      ∧ (∀ (tag code : Byte) (body : List Byte), code.toNat ∉ requestCodes → body.length ≤ 128 →
        s.onBus (write (requestFrame tag code body) ++ [.stop]) = exec (.unknown tag code body) s)
      ∧ (∀ bytes : List Byte, bytes ≠ [] → frameOk bytes = false →
        s.onBus (write bytes ++ [.stop]) = exec (.frameError bytes) s)
      ∧ s.onBus (write [] ++ [.stop]) = .next s
      ∧ (∀ (a : BitVec 7) (read : Bool) (bytes : List Byte), a ≠ s.port.address →
        s.onBus (addressed a read ++ bytes.map BusEvent.written ++ [.stop]) = .next s)
      ∧ ∀ n : Nat,
        s.onBus (addressed s.port.address true ++ List.replicate n (.readOut true) ++ [.readOut false, .stop])
          = exec (.replyRead (n + 1)) s)
  ∧ (∀ (s : State) (w : Work), s.port.state = .working w →
    exec .replyFormed s =
      .next { s with port := { s.port with
        overrun := false
        state := .replyHeld ([byte w.body.length, w.tag, w.code, resultCode w.result, s.replyFlags] ++ w.body
          ++ [crc8 ([byte w.body.length, w.tag, w.code, resultCode w.result, s.replyFlags] ++ w.body)]) } })
  ∧ (∀ (s : State) (reply : List Byte) (n : Nat), s.port.state = .replyHeld reply → s.port.resetPending = false →
      (reply.length ≤ n →
        exec (.replyRead n) s = .next { s with
          readData := reply ++ List.replicate (n - reply.length) 0xFF#8, port := { s.port with state := .ready } })
      ∧ (n < reply.length → exec (.replyRead n) s = .next { s with readData := reply.take n }))
  ∧ ∀ (s : State) (n : Nat), s.port.state.isHeld = false →
      exec (.replyRead n) s = .next { s with readData := List.replicate n 0xFF#8 }

/-- R166: a write while the port is WORKING sets the overrun marker and changes nothing else, the reply to the request in
WORKING carries the marker in its OVERRUN flag and clears it, and every reset clears it. -/
def Obligations.WritesWhileWorkingAreLost : Prop :=
  (∀ (s : State) (w : Work), s.port.state = .working w →
    exec .writeWhileWorking s = .next { s with port := { s.port with overrun := true } }
    ∧ (∀ (i : Instr) (tag code : Byte) (body : List Byte), requestParts i = some (tag, code, body) →
        exec i s = .next { s with port := { s.port with overrun := true } })
    ∧ (∀ bytes : List Byte, bytes ≠ [] → frameOk bytes = false →
        exec (.frameError bytes) s = .next { s with port := { s.port with overrun := true } })
    ∧ ∃ t reply, exec .replyFormed s = .next t ∧ t.port.state = .replyHeld reply ∧ t.port.overrun = false
        ∧ (byteAt reply 4) % 2 = (if s.port.overrun then 1 else 0))
  ∧ ∀ (s : State) (strap : BitVec 2),
      (∃ t, exec (.powerOn strap) s = .next t ∧ t.port.overrun = false)
      ∧ (∃ t, exec (.pinReset strap) s = .next t ∧ t.port.overrun = false)
      ∧ ∀ c : ResetCause, (s.resetPart c strap).port.overrun = false

/-- R165: a frame that fails a check goes to no block and gets a FRAME ERROR reply at once, which echoes TAG and CODE where
LEN is 0 to 128 and the write had 3 bytes; a CODE that names no request is answered UNKNOWN and no block acts. -/
def Obligations.FaultyFramesAndUnknownCodes : Prop :=
  (∀ (s : State) (bytes : List Byte), s.takesRequests → bytes ≠ [] → frameOk bytes = false →
    ∃ tag code : Byte,
      (if byteAt bytes 0 ≤ 128 ∧ 3 ≤ bytes.length then tag = bytes.getD 1 0#8 ∧ code = bytes.getD 2 0#8
       else tag = 0#8 ∧ code = 0#8)
      ∧ exec (.frameError bytes) s =
          .next { s with port := { s.port with
            state := .replyHeld [0#8, tag, code, 0x10#8, s.replyFlags, crc8 [0#8, tag, code, 0x10#8, s.replyFlags]]
            request := bytes.take 132
            arrivedHeld := s.port.state.isHeld } })
  ∧ ∀ (s : State) (tag code : Byte) (body : List Byte), s.takesRequests → code.toNat ∉ requestCodes →
      body.length ≤ 128 → exec (.unknown tag code body) s = .next (s.answered tag code body .unknown [])

/-- R179: a request whose body has another length than the request's (R177), or a field that is a reserved encoding or out of
its range, is refused with INVALID and changes nothing. The ranges are the ones `fieldsFit` spells request by request: among
them a leg above 3 (R20), a face above 15 and an invalid set (R73, R74), a map entry 8 to 254 (R13). -/
def Obligations.WrongLengthIsInvalid : Prop :=
  ∀ (s : State) (i : Instr) (tag code : Byte) (body : List Byte), s.takesRequests →
    requestParts i = some (tag, code, body) → body.length ≤ 128 →
    lengthFits code body = false ∨ ¬fieldsFit code body →
    exec i s = .next (s.answered tag code body .invalid [])

/-! ### Reading requests -/

/-- The reading requests answer DONE with the record as it stands and change nothing but the port: READ MAP (R15), READ LEG
(R45), READ FACE (R82), READ TUNE QUEUE (R103), READ REACTIONS (R120), READ LOG (R129), TEST READ of a record that is
present (R157), STORE READ with the operation IDLE (R160). -/
def Obligations.ReadsAnswerAndChangeNothing : Prop :=
  ∀ (s : State) (tag : Byte), s.takesRequests →
    exec (.readMap tag []) s = .next (s.answered tag 0x10#8 [] .done s.mapBytes)
    ∧ (∀ l : LegId, exec (.readLeg tag [byte l.val]) s = .next (s.answered tag 0x20#8 [byte l.val] .done (s.legBytes l)))
    ∧ (∀ f : FaceId,
        exec (.readFace tag [byte f.val]) s = .next (s.answered tag 0x30#8 [byte f.val] .done (s.faceBytes f)))
    ∧ exec (.readTuneQueue tag []) s = .next (s.answered tag 0x41#8 [] .done s.engine.bytes)
    ∧ (∀ l : LegId,
        exec (.readReactions tag [byte l.val]) s = .next (s.answered tag 0x49#8 [byte l.val] .done (s.reactionBytes l)))
    ∧ (∀ sev : Severity, exec (.readLog tag [byte (severityCode sev)]) s =
        .next (s.answered tag 0x50#8 [byte (severityCode sev)] .done (s.errors.bytes sev)))
    ∧ (∀ (l : LegId) (t : TestRecord), s.test l = some t →
        exec (.testRead tag [byte l.val]) s = .next (s.answered tag 0x62#8 [byte l.val] .done t.bytes))
    ∧ (∀ l : LegId, s.test l = none →
        exec (.testRead tag [byte l.val]) s = .next (s.answered tag 0x62#8 [byte l.val] .wrongState []))
    ∧ (∀ p : PageId, s.store.operation = .idle →
        exec (.storeRead tag [byte p.val]) s = .next (s.answered tag 0x68#8 [byte p.val] .done (s.page p).bytes))
    ∧ (∀ p : PageId, s.store.operation ≠ .idle →
        exec (.storeRead tag [byte p.val]) s = .next (s.answered tag 0x68#8 [byte p.val] .busy []))

/-- The reply bodies and records hold the fields that R175 to R177 give them, at their offsets and in their codes: READ MAP 52
bytes, READ LEG 29 (the remaining time of a stopped timer is log entry 19), READ FACE 24, READ LOG 63 with error records of 14,
READ SIDEBAND 26, TEST READ 18 + 11n, READ REACTIONS 17 or 28 + 6e, and the notice records. READ TUNE QUEUE has the 20 + 4n + 4k
bytes that its list of fields adds up to (log entry 22); its held count is log entry 44. The training words that the part sends
have the bytes of R178, and their CHECK, like a frame's, is the CRC-8 of R173. -/
def Obligations.ReplyBodiesAreLaidOut : Prop :=
  codesAsGiven
  ∧ (∀ s : State,
      let b := s.mapBytes
      b.length = 52
      ∧ (∀ p : PathId, fieldsAt b p.val [(s.map[p]).map (·.val)]
        ∧ fieldsAt b (24 + 3 * p.val)
            [(s.place p).map (·.leg.val), (s.place p).map (·.pos.val), some (pathStateCode (s.path p))])
      ∧ (∀ c : Lane, fieldsAt b (8 + 2 * c.val) (match s.plan[c] with
          | some q => [some q.leg.val, some q.pos.val]
          | none => [none, some 0]))
      ∧ ∀ l : LegId, fieldsAt b (48 + l.val) [some (s.leg l).configuredWidth])
  ∧ (∀ (s : State) (l : LegId),
      let b := s.legBytes l
      let x := s.leg l
      b.length = 29
      ∧ fieldsAt b 0 [some l.val, some x.enabled.toNat, some (legStateCode x.state), some x.configuredWidth,
          some x.currentWidth, some x.minimumWidth, some (rateIndex x.targetRate), x.agreedRate.map rateIndex,
          some x.attemptCount, some x.retryBudget, some x.excluded.toNat, some x.group.toNat,
          some (trainCauseCode x.trainingCause), x.failureCause.map failCauseCode, some x.holdRequest.toNat,
          some x.trainingLimit, some x.holdMinimum, some x.trimInterval, some x.marginFloor, some x.slipLimit,
          some (s.wiresOf l).present.asserted.toNat,
          if x.state = .training then x.record.map (·.attempt) else none,
          some (x.holdTimer.isSome.toNat + 2 * x.limitTimer.isSome.toNat + 4 * x.trimTimer.isSome.toNat)]
      ∧ wordAt b 23 (x.holdTimer.getD 0) ∧ wordAt b 25 (x.limitTimer.getD 0) ∧ wordAt b 27 (x.trimTimer.getD 0))
  ∧ (∀ (s : State) (f : FaceId),
      let b := s.faceBytes f
      let x := s.face f
      b.length = 24 ∧ setShownAt b 0 x.active ∧ setShownAt b 7 x.staged
      ∧ fieldsAt b 14 [some (x.pending.toNat + 2 * x.swapOnCompletion.toNat + 4 * x.pinned.toNat),
          x.lastMargin.map (·.val), some (statusCode x.status), some (signalCode (s.monitor f).signal),
          some (lockCode (s.monitor f).lock)]
      ∧ wordAt b 19 (s.monitor f).slips
      ∧ fieldsAt b 21 [some (f.val / 2), some (f.val % 2), some (pathStateCode (s.path (facePath f)))])
  ∧ (∀ (e : ErrorUnit) (sev : Severity),
      let b := e.bytes sev
      b.length = 63 ∧ errorRecordAt b 0 (e.log sev).first ∧ errorRecordAt b 14 (e.log sev).next
      ∧ fieldsAt b 28 [some (e.log sev).further]
      ∧ (∀ k : Fin 14,
          fieldsAt b (29 + k.val) [some ((e.settings[k]).enable.toNat + 2 * severityCode (e.settings[k]).severity)])
      ∧ ∀ l : LegId,
          let y := e.tallies[l]
          fieldsAt b (43 + 5 * l.val) [some y.value, some y.overflow.toNat] ∧ wordAt b (45 + 5 * l.val) y.kinds.toNat
          ∧ fieldsAt b (47 + 5 * l.val) [some y.threshold])
  ∧ (∀ (s : State) (high : Bool),
      let b := s.sidebandBytes high
      let x := s.frame
      b.length = 26
      ∧ (∀ l : LegId,
          let w := s.wiresOf l
          fieldsAt b (4 * l.val)
            [some ((!w.present.wireLow).toNat + 2 * (!w.alert.wireLow).toNat + 4 * (!w.wake.wireLow).toNat
               + 8 * (!s.holdAsserted l).toNat),
             some (w.present.asserted.toNat + 2 * w.alert.asserted.toNat + 4 * w.wake.asserted.toNat
               + 8 * w.alertLatch.toNat),
             some (s.slotValues l).toNat, some (x.lastSent[l]).toNat])
      ∧ fieldsAt b 16 [some high.toNat, some (frameStateCode x.state), some (slotPlanCode x.plan.slots),
          some (bitTimeCode x.plan.bit), some (startWidthCode x.plan.start), some (modeCode x.mode),
          some x.enableRequest.toNat, some (modeCode x.modeRequest), some x.haltRequest.toNat, some x.changePending.toNat])
  ∧ (∀ (s : State) (l : LegId),
      let b := s.reactionBytes l
      (∀ j : SlotId,
        let y := s.slot l j
        fieldsAt b (4 * j.val)
          [some (sourceCode y.source), y.edge.map edgeModeCode, y.action.map actionCode, some y.fires])
      ∧ match (s.leg l).capture with
        | some c => b.length = 28 + 6 * c.entries.length ∧ fieldsAt b 16 [some 1] ∧ captureAt b 17 c
        | none => b.length = 17 ∧ fieldsAt b 16 [some 0])
  ∧ (∀ e : Engine,
      let b := e.bytes
      let pending := allFaces.filterMap (fun f => e.queue[f])
      let n := pending.length
      let k := min 11 e.held.length
      b.length = 20 + 4 * n + 4 * k
      ∧ fieldsAt b 0 [some e.running.isSome.toNat]
      ∧ (match e.running with
        | some r => jobAt b 1 r.job ∧ fieldsAt b 5 [some r.stepsDone, some r.sinceStart, some r.cancelling.toNat]
        | none => fieldsAt b 1 (List.replicate 7 none))
      ∧ (match e.suspended with
        | some x => jobAt b 8 x.job ∧ fieldsAt b 12 [some x.stepsDone]
        | none => fieldsAt b 8 (List.replicate 5 none))
      ∧ fieldsAt b 13 [some n]
      ∧ (∀ (i : Nat) (j : Job), pending[i]? = some j → jobAt b (14 + 4 * i) j)
      ∧ fieldsAt b (14 + 4 * n) [some e.held.length]
      ∧ (∀ (i : Nat) (j : Job), i < 11 → e.held[i]? = some j → jobAt b (15 + 4 * n + 4 * i) j)
      ∧ fieldsAt b (15 + 4 * n + 4 * k) [some e.urgentPointer.val, some e.routinePointer.val, some e.probePointer.val]
      ∧ wordAt b (18 + 4 * n + 4 * k) e.mask.toNat)
  ∧ (∀ r : TestRecord,
      let b := r.bytes
      b.length = 18 + 11 * r.checkers.length
      ∧ fieldsAt b 0 [some (testStatusCode r.status), some (facesChoiceCode r.faces)]
      ∧ longAt b 2 r.taps.toNat ∧ longAt b 6 r.seed.toNat ∧ wordAt b 10 r.limit ∧ longAt b 12 r.elapsed
      ∧ fieldsAt b 16 [r.endCause.map testEndCode] ∧ checkersAt b 17 r.checkers)
  ∧ (∀ p : Page,
      fieldsAt p.bytes 0 [some (pageStateCode p.content), some p.locked.toNat]
      ∧ p.bytes.drop 2 = match p.content with
        | .written record => record
        | .blank | .torn => [])
  ∧ (∀ w : TrainingWord,
      let b := w.bytes
      b.length = 4 ∧ b.getD 3 0#8 = crc8 (b.take 3)
      ∧ match w with
        | .announce pos width rates attempt =>
          (∀ code : Nat, (width, code) ∈ [(1, 0), (2, 1), (4, 2)] →
            fieldsAt b 0 [some 1, some (pos.val + 4 * code + 16 * rates.toNat)])
          ∧ fieldsAt b 2 [some attempt]
        | .answer outcome pre post =>
          fieldsAt b 0 [some 3, some (match outcome with
            | .applied => 0
            | .atLimit => 1
            | .pinned => 2), some (pre + 16 * post)]
        | .ready => fieldsAt b 0 [some 4, some 0, some 0]
        | .abort reason => fieldsAt b 0 [some 5, some (match reason with
            | .reset => 0
            | .giveUp => 1), some 0])
  ∧ crc8 [] = 0#8
  ∧ (∀ (bytes : List Byte) (b : Byte), crc8 (bytes ++ [b]) =
      (List.range 8).foldl (fun (r : Byte) k =>
        (r <<< 1) ^^^ (if r.getLsbD 7 ≠ b.getLsbD (7 - k) then 0x07#8 else 0#8)) (crc8 bytes))
  ∧ (∀ r : ErrorRecord, r.bytes.length = 14 ∧ errorRecordAt r.bytes 0 (some r))
  ∧ ∀ n : Notice, noticeAt n.bytes n

/-! ### Lane Steering -/

/-- LOAD MAP is refused with INVALID for a map that is not valid with the plan copy, with WRONG STATE while a changed leg is
not OFF or a face of one has a job, a held or an owed result, and then changes nothing; otherwise it is taken (R13, R14):
the map is the offered one, paths lose or gain their leg, each changed leg gets its width, an empty excluded set and a
minimum width within its width, and every other leg is as it was. It changes no face record and nothing of the engine where no
face of an UNMAPPED path is pending, and nothing can be (R9, R75); a path that goes from UNMAPPED to PARKED is a settle point. -/
def Obligations.LoadMapIsCheckedAndTaken : Prop :=
  ∀ (s : State) (tag : Byte) (map : Vector (Option Lane) 8), s.takesRequests →
    let body := map.toList.map mapByte
    (mapValid map s.plan = false → exec (.loadMap tag body) s = .next (s.answered tag 0x11#8 body .invalid []))
    ∧ (mapValid map s.plan = true →
        (∃ l : LegId, s.changedBy map l = true ∧ (s.leg l).state ≠ .off) →
        exec (.loadMap tag body) s = .next (s.answered tag 0x11#8 body .wrongState []))
    ∧ (mapValid map s.plan = true →
        (∀ l : LegId, s.changedBy map l = true → (s.leg l).state = .off) →
        (∃ (l : LegId) (f : FaceId), s.changedBy map l = true ∧ s.faceLeg f = some l ∧ s.faceBusy f = true) →
        exec (.loadMap tag body) s = .next (s.answered tag 0x11#8 body .wrongState []))
    ∧ (mapValid map s.plan = true →
        (∀ l : LegId, s.changedBy map l = true → (s.leg l).state = .off) →
        (∀ (l : LegId) (f : FaceId), s.changedBy map l = true → s.faceLeg f = some l → s.faceBusy f = false) →
        ∃ t, exec (.loadMap tag body) s = .next t ∧ t.port = (s.answered tag 0x11#8 body .done []).port
          ∧ t.map = map ∧ t.plan = s.plan ∧ t.store = s.store ∧ t.notices = s.notices ∧ t.errors = s.errors
          ∧ t.slots = s.slots ∧ t.tests = s.tests ∧ t.sent = s.sent ∧ t.frame = s.frame
          ∧ (∀ p : PathId, t.path p =
              if s.place p = none ∧ placeIn map s.plan p ≠ none then .parked
              else if s.place p ≠ none ∧ placeIn map s.plan p = none then .unmapped
              else s.path p)
          ∧ t.engine = { s.engine with suspended := t.engine.suspended } ∧ t.resultOwed = s.resultOwed
          ∧ (∀ p : PathId,
              let enters := s.place p = none ∧ placeIn map s.plan p ≠ none ∧ s.path p ≠ .parked
              let leaves := s.place p ≠ none ∧ placeIn map s.plan p = none ∧ s.path p ≠ .unmapped
              ∀ f : FaceId, facePath f = p →
                t.face f = (if enters then (s.face f).settled else s.face f)
                ∧ if enters ∨ leaves then
                    (t.monitor f).signal = .notWatched ∧ (t.monitor f).lock = .notWatched ∧ (t.monitor f).slips = 0
                  else t.monitor f = s.monitor f)
          ∧ ((∀ f : FaceId, s.path (facePath f) = .unmapped → (s.face f).pending = false) →
              s.unmappedSound → t.faces = s.faces ∧ t.engine = s.engine)
          ∧ ∀ l : LegId, t.leg l =
              if s.changedBy map l = true then
                { s.leg l with
                  configuredWidth := widthIn map s.plan l, excluded := 0#4
                  minimumWidth := clampWidth (widthIn map s.plan l) (s.leg l).minimumWidth }
              else s.leg l)

/-- R12: the width and group an attempt starts with. The width is W, W/2 or W/4, not below the minimum; the group is
aligned at that width and free of excluded positions; no wider candidate and no lower group of that width is free. With no
answer, no candidate has a free group. -/
def Obligations.WidthSelectionIsTheWidestFreeGroup : Prop :=
  ∀ (W m : Nat) (excluded : PosSet), W ∈ [1, 2, 4] →
    (∀ (w : Nat) (g : PosSet), selectWidth W m excluded = some (w, g) →
      (w = W ∨ 2 * w = W ∨ 4 * w = W) ∧ m ≤ w ∧ g &&& excluded = 0#4
      ∧ (∃ k : Nat, k < W / w ∧ g = groupMask w k
          ∧ ∀ j : Nat, j < k → groupMask w j &&& excluded ≠ 0#4)
      ∧ ∀ v : Nat, w < v → (v = W ∨ 2 * v = W ∨ 4 * v = W) → ∀ j : Nat, j < W / v → groupMask v j &&& excluded ≠ 0#4)
    ∧ (selectWidth W m excluded = none →
      ∀ v : Nat, 1 ≤ v → m ≤ v → (v = W ∨ 2 * v = W ∨ 4 * v = W) →
        ∀ j : Nat, j < W / v → groupMask v j &&& excluded ≠ 0#4)

/-! ### Leg controllers -/

/-- The leg context after an entry to HELD from a state at work, from HELD's own rule R26. A FAILED leg has no exchange to
stop. -/
def Sys2Proof.Machine.Leg.heldWith (x : Leg) (c : TrainCause) : Leg :=
  { x with
    state := .held, attemptCount := 0, currentWidth := 0, agreedRate := none, failureCause := none, group := 0#4
    trainingCause := c, limitTimer := none, trimTimer := none, holdTimer := some x.holdMinimum
    record := if isTrained x.state then none else x.record }

/-- LEG HOLD is taken in every state (R28): in OFF and ABSENT it sets the hold request alone, in HELD it also restarts
the hold timer, and in the other states the leg enters HELD (R26) with cause HOST, every mapped path of it PARKED, HOLD_N
asserted (R138), one LEG STATE notice last, and no other leg touched. From TRAINING, ACTIVE, DEGRADED and TEST the jobs of its
faces are cancelled (R41, R96), a running test is discarded (R156), and an attempt is abandoned: one ABORT with reason GIVE UP
on each group face that is not IDLE, and a result owed for each SWEEP outstanding (R67, R47). A path that enters PARKED has
its monitors idle and its faces settled (R105, R9, R76). That the LEG STATE notice comes after every other notice of the taking
is log entry 13, and that the attempt is abandoned before the jobs are cancelled log entry 14. -/
def Obligations.LegHoldTakesEffect : Prop :=
  ∀ (s : State) (tag : Byte) (l : LegId), s.takesRequests → s.tableAtRest →
    (∀ k : LegId, s.holdAsserted k = true ↔ (s.leg k).state = .held)
    ∧ ((s.leg l).state = .off ∨ (s.leg l).state = .absent →
      exec (.legHold tag [byte l.val]) s =
        .next ((s.modLeg l (fun x => { x with holdRequest := true })).answered tag 0x23#8 [byte l.val] .done []))
    ∧ ((s.leg l).state = .held →
      exec (.legHold tag [byte l.val]) s =
        .next ((s.modLeg l (fun x => { x with holdRequest := true, holdTimer := some x.holdMinimum })).answered
          tag 0x23#8 [byte l.val] .done []))
    ∧ ((s.leg l).state ≠ .off → (s.leg l).state ≠ .absent → (s.leg l).state ≠ .held →
      ∃ t, exec (.legHold tag [byte l.val]) s = .next t
        ∧ t.port = (s.answered tag 0x23#8 [byte l.val] .done []).port
        ∧ t.leg l = { (s.leg l).heldWith .host with holdRequest := true } ∧ t.holdAsserted l = true
        ∧ s.legParked t l
        ∧ (if (s.leg l).state = .failed then
            t.engine.queue = s.engine.queue ∧ t.engine.running = s.engine.running ∧ t.test l = s.test l
            ∧ t.sent = s.sent ∧ t.resultOwed = s.resultOwed
            ∧ t.notices = s.notices.take (.legState s.clock.stamp l .failed .held (.train .host) 0)
          else
            s.cancelled t (s.onLeg l) ∧ s.testDiscarded t l ∧ s.abandonedWith t l .giveUp (s.onLeg l)
            ∧ t.notices = ((s.cancelNotices (s.onLeg l)).foldl NoticeQueue.take s.notices).take
                (.legState s.clock.stamp l (s.leg l).state .held (.train .host) 0))
        ∧ s.othersKept t l)

/-- LEG RELEASE clears the hold request in every state, and a HELD leg whose hold timer has expired leaves for TRAINING at
once (R29, R27); at a hold timer's expiry a leg leaves HELD unless its hold request is set (R27). The series that starts has
the cause recorded at the entry to HELD (R30), its first attempt starts with a settle point and its ANNOUNCEs (R50), and HOLD_N
is released (R138). The expiry comes whatever time remains in the
timer (log entry 2). -/
def Obligations.HeldLegsLeaveByReleaseOrExpiry : Prop :=
  ∀ (s : State) (tag : Byte) (l : LegId), s.tableAtRest →
    (s.takesRequests → ¬((s.leg l).state = .held ∧ (s.leg l).holdTimer = none) →
      exec (.legRelease tag [byte l.val]) s =
        .next ((s.modLeg l (fun x => { x with holdRequest := false })).answered tag 0x24#8 [byte l.val] .done []))
    ∧ (s.takesRequests → (s.leg l).state = .held → (s.leg l).holdTimer = none → ∀ (w : Nat) (g : PosSet),
        selectWidth (s.leg l).configuredWidth (s.leg l).minimumWidth (s.leg l).excluded = some (w, g) →
        ∃ t, exec (.legRelease tag [byte l.val]) s = .next t ∧ s.seriesBegun t l (s.leg l).trainingCause w g
          ∧ (t.leg l).holdRequest = false ∧ t.holdAsserted l = false ∧ (t.leg l).excluded = (s.leg l).excluded ∧ s.othersKept t l
          ∧ t.port = (s.answered tag 0x24#8 [byte l.val] .done []).port
          ∧ t.notices = s.notices.take
              (.legState s.clock.stamp l .held .training (.train (s.leg l).trainingCause) w))
    ∧ ((s.leg l).state = .held → (s.leg l).holdTimer.isSome = true → (s.leg l).holdRequest = true →
        exec (.holdTimerExpiry l) s = .next (s.modLeg l (fun x => { x with holdTimer := none })))
    ∧ ((s.leg l).state = .held → (s.leg l).holdTimer.isSome = true → (s.leg l).holdRequest = false →
        ∀ (w : Nat) (g : PosSet),
        selectWidth (s.leg l).configuredWidth (s.leg l).minimumWidth (s.leg l).excluded = some (w, g) →
        ∃ t, exec (.holdTimerExpiry l) s = .next t ∧ s.seriesBegun t l (s.leg l).trainingCause w g
          ∧ (t.leg l).excluded = (s.leg l).excluded ∧ t.holdAsserted l = false ∧ s.othersKept t l ∧ t.port = s.port
          ∧ t.notices = s.notices.take
              (.legState s.clock.stamp l .held .training (.train (s.leg l).trainingCause) w))

/-- A leg that leaves HELD with no width that qualifies goes to FAILED with cause WIDTH on the one event (R30, R34), at the
expiry of its hold timer and at LEG RELEASE: its paths are PARKED (R9), the count is 0, the excluded set is kept, LEG FAILED is
reported with that cause's code as detail, and the LEG STATE notice follows what the report raises (log entry 13); behind
reports that are in flight it waits (R126, log entry 38). The expiry comes whatever time remains in the timer (log entry
2). No slot of the leg is on TALLY THRESHOLD, which the report could fire. -/
def Obligations.NoQualifyingWidthFailsTheLeg : Prop :=
  ∀ (s : State) (tag : Byte) (l : LegId), s.tableAtRest → s.noSlotOn l .tallyThreshold → (s.leg l).state = .held →
    selectWidth (s.leg l).configuredWidth (s.leg l).minimumWidth (s.leg l).excluded = none →
    let failed (t : State) : Prop :=
      (t.leg l).state = .failed ∧ (t.leg l).failureCause = some .width
      ∧ (t.leg l).attemptCount = 0 ∧ (t.leg l).excluded = (s.leg l).excluded ∧ (t.leg l).currentWidth = 0
      ∧ (t.leg l).group = 0#4 ∧ (t.leg l).agreedRate = none ∧ (t.leg l).limitTimer = none ∧ (t.leg l).holdTimer = none
      ∧ t.holdAsserted l = false
      ∧ s.legParked t l ∧ t.sent = s.sent ∧ t.resultOwed = s.resultOwed
      ∧ (let took := s.told [s.errorAtLeg l .legFailed .failed 0 (some 12)]
         t.reportsOf took
         ∧ t.notices = took.notices.take (.legState s.clock.stamp l .held .failed (.fail .width) 0))
      ∧ (∀ k : LegId, k ≠ l → t.leg k = s.leg k) ∧ t.map = s.map ∧ t.store = s.store
    ((s.leg l).holdTimer.isSome = true → (s.leg l).holdRequest = false →
      ∃ t, exec (.holdTimerExpiry l) s = .next t ∧ failed t ∧ t.port = s.port)
    ∧ (s.takesRequests → (s.leg l).holdTimer = none →
      ∃ t, exec (.legRelease tag [byte l.val]) s = .next t ∧ failed t ∧ (t.leg l).holdRequest = false
        ∧ t.port = (s.answered tag 0x24#8 [byte l.val] .done []).port)

/-- LEG ENABLE (R22): refused with WRONG STATE at configured width 0, DONE with no change in any state but OFF; an OFF leg
becomes enabled and goes to HELD with cause FIRST if its server is present, else to ABSENT, keeping its hold request. -/
def Obligations.LegEnableTakesEffect : Prop :=
  ∀ (s : State) (tag : Byte) (l : LegId), s.takesRequests → s.tableAtRest →
    ((s.leg l).configuredWidth = 0 →
      exec (.legEnable tag [byte l.val]) s = .next (s.answered tag 0x21#8 [byte l.val] .wrongState []))
    ∧ ((s.leg l).configuredWidth ≠ 0 → (s.leg l).state ≠ .off →
      exec (.legEnable tag [byte l.val]) s = .next (s.answered tag 0x21#8 [byte l.val] .done []))
    ∧ ((s.leg l).configuredWidth ≠ 0 → (s.leg l).state = .off →
      ∃ t, exec (.legEnable tag [byte l.val]) s = .next t
        ∧ t.port = (s.answered tag 0x21#8 [byte l.val] .done []).port ∧ s.othersKept t l
        ∧ t.leg l =
            (if (s.wiresOf l).present.asserted then { (s.leg l).heldWith .first with enabled := true }
             else { s.leg l with enabled := true, state := .absent, attemptCount := 0, excluded := 0#4 })
        ∧ ((s.wiresOf l).present.asserted = true → s.legParked t l)
        ∧ ((s.wiresOf l).present.asserted = false → t.paths = s.paths ∧ t.faces = s.faces ∧ t.monitors = s.monitors)
        ∧ t.sent = s.sent ∧ t.resultOwed = s.resultOwed
        ∧ t.notices = s.notices.take
            (.legState s.clock.stamp l .off (t.leg l).state .enable (t.leg l).currentWidth))

/-- LEG DISABLE (R23, R21): an OFF leg's enabled and hold request clear; an ABSENT one goes to OFF; a leg in HELD or a state
from there on is shut down and goes to OFF: not enabled, all its timers stopped, its hold request, counts, excluded set,
group, width, rate, causes of failure and exchange cleared, its alert latch clear, its paths PARKED with their monitors idle and
their faces settled (R105, R9, R76), the jobs of its faces cancelled (R96), a running test discarded (R156), an attempt
abandoned with its ABORTs of reason GIVE UP and its owed results (R67, R47), and no other leg touched. That the LEG STATE notice
comes after every other notice of the taking is log entry 13, and that the attempt is abandoned before the jobs are cancelled log
entry 14. -/
def Obligations.LegDisableTakesEffect : Prop :=
  ∀ (s : State) (tag : Byte) (l : LegId), s.takesRequests → s.tableAtRest →
    ((s.leg l).state = .off →
      exec (.legDisable tag [byte l.val]) s =
        .next ((s.modLeg l (fun x => { x with enabled := false, holdRequest := false })).answered
          tag 0x22#8 [byte l.val] .done []))
    ∧ ((s.leg l).state = .absent →
      ∃ t, exec (.legDisable tag [byte l.val]) s = .next t
        ∧ t.port = (s.answered tag 0x22#8 [byte l.val] .done []).port ∧ s.othersKept t l
        ∧ t.leg l = { s.leg l with
            enabled := false, state := .off, holdRequest := false, attemptCount := 0, excluded := 0#4 }
        ∧ t.wiresOf l = { s.wiresOf l with alertLatch := false } ∧ t.engine = s.engine ∧ t.faces = s.faces
        ∧ t.paths = s.paths ∧ t.monitors = s.monitors ∧ t.test l = s.test l ∧ t.sent = s.sent ∧ t.resultOwed = s.resultOwed
        ∧ t.notices = s.notices.take (.legState s.clock.stamp l .absent .off .disable (s.leg l).currentWidth))
    ∧ ((s.leg l).state ≠ .off → (s.leg l).state ≠ .absent →
      ∃ t, exec (.legDisable tag [byte l.val]) s = .next t
        ∧ t.port = (s.answered tag 0x22#8 [byte l.val] .done []).port ∧ s.othersKept t l
        ∧ t.leg l = { s.leg l with
            enabled := false, state := .off, holdRequest := false, attemptCount := 0, excluded := 0#4, group := 0#4
            currentWidth := 0, agreedRate := none, failureCause := none, holdTimer := none, limitTimer := none
            trimTimer := none, record := none }
        ∧ (t.wiresOf l).alertLatch = false
        ∧ s.legParked t l ∧ s.cancelled t (s.onLeg l) ∧ s.testDiscarded t l
        ∧ s.abandonedWith t l .giveUp (s.onLeg l)
        ∧ t.notices = ((s.cancelNotices (s.onLeg l)).foldl NoticeQueue.take s.notices).take
            (.legState s.clock.stamp l (s.leg l).state .off .disable 0))

/-- LEG RETRAIN starts a series with cause HOST in ACTIVE and DEGRADED, sends a FAILED leg to HELD with cause HOST and is
refused elsewhere (R37); LEG RESTORE WIDTH empties the excluded set in every state, and a DEGRADED leg starts a series with
cause RESTORE (R38). -/
def Obligations.RetrainAndRestoreTakeEffect : Prop :=
  ∀ (s : State) (tag : Byte) (l : LegId), s.takesRequests → s.tableAtRest →
    ((s.leg l).state ∈ [LegState.off, .absent, .held, .training, .test] →
      exec (.legRetrain tag [byte l.val]) s = .next (s.answered tag 0x25#8 [byte l.val] .wrongState []))
    ∧ (isLinked (s.leg l).state = true → ∀ (w : Nat) (g : PosSet),
        selectWidth (s.leg l).configuredWidth (s.leg l).minimumWidth (s.leg l).excluded = some (w, g) →
        ∃ t, exec (.legRetrain tag [byte l.val]) s = .next t ∧ s.seriesBegun t l .host w g
          ∧ (t.leg l).excluded = (s.leg l).excluded ∧ s.othersKept t l
          ∧ t.port = (s.answered tag 0x25#8 [byte l.val] .done []).port
          ∧ t.notices = s.notices.take (.legState s.clock.stamp l (s.leg l).state .training (.train .host) w))
    ∧ ((s.leg l).state = .failed →
        ∃ t, exec (.legRetrain tag [byte l.val]) s = .next t ∧ t.leg l = (s.leg l).heldWith .host ∧ s.othersKept t l
          ∧ s.legParked t l ∧ t.sent = s.sent ∧ t.resultOwed = s.resultOwed
          ∧ t.port = (s.answered tag 0x25#8 [byte l.val] .done []).port
          ∧ t.notices = s.notices.take (.legState s.clock.stamp l .failed .held (.train .host) 0))
    ∧ ((s.leg l).state ≠ .degraded →
        exec (.legRestoreWidth tag [byte l.val]) s =
          .next ((s.modLeg l (fun x => { x with excluded := 0#4 })).answered tag 0x26#8 [byte l.val] .done []))
    ∧ ((s.leg l).state = .degraded → ∀ (w : Nat) (g : PosSet),
        selectWidth (s.leg l).configuredWidth (s.leg l).minimumWidth 0#4 = some (w, g) →
        ∃ t, exec (.legRestoreWidth tag [byte l.val]) s = .next t ∧ s.seriesBegun t l .restore w g
          ∧ (t.leg l).excluded = 0#4 ∧ s.othersKept t l
          ∧ t.port = (s.answered tag 0x26#8 [byte l.val] .done []).port
          ∧ t.notices = s.notices.take (.legState s.clock.stamp l .degraded .training (.train .restore) w))

/-- LEG RESET (R42) gives the leg its load-image values, lowers the minimum width to a smaller configured width, clears the
hold request, the capture record, the tally, the test record and the alert latch, reloads the faces of its mapped paths from
their presets, and takes the state from enabled, configured width and presence; from HELD on the jobs of its
faces are cancelled (R41, R96), the generators of a running test stop, the counts, the excluded set, the group, the width, the
rate, the failure cause and the exchange are cleared (R21, R18), its paths are PARKED with their monitors idle (R105), and an
attempt is abandoned with its ABORTs of reason RESET and its owed results (R67, R47; log entry 14). One LEG STATE notice with cause RESET
is raised where the state has changed (R19), after every other notice of the taking (log entry 13). The map, the slots, the
logs and the other legs are kept. -/
def Obligations.LegResetReturnsTheLeg : Prop :=
  ∀ (s : State) (tag : Byte) (l : LegId), s.takesRequests → s.tableAtRest →
    ∃ t, exec (.legReset tag [byte l.val]) s = .next t ∧ t.port = (s.answered tag 0x27#8 [byte l.val] .done []).port
      ∧ (let d := s.image.legs[l]
         let x := t.leg l
         x.enabled = d.enabled ∧ x.targetRate = d.targetRate ∧ x.retryBudget = d.retryBudget
         ∧ x.trainingLimit = d.trainingLimit ∧ x.holdMinimum = d.holdMinimum ∧ x.trimInterval = d.trimInterval
         ∧ x.marginFloor = d.marginFloor ∧ x.slipLimit = d.slipLimit ∧ x.configuredWidth = (s.leg l).configuredWidth
         ∧ x.minimumWidth = clampWidth (s.leg l).configuredWidth d.minimumWidth ∧ x.capture = none
         ∧ x.holdRequest = false
         ∧ x.state = (if d.enabled = false ∨ x.configuredWidth = 0 then .off
             else if (s.wiresOf l).present.asserted then .held else .absent)
         ∧ (x.state = .held → x.trainingCause = .first ∧ x.holdTimer = some d.holdMinimum ∧ x.attemptCount = 0
             ∧ x.currentWidth = 0 ∧ x.agreedRate = none ∧ x.failureCause = none ∧ x.group = 0#4)
         ∧ ((s.leg l).state ≠ .off → (s.leg l).state ≠ .absent →
             x.attemptCount = 0 ∧ x.excluded = 0#4 ∧ x.group = 0#4 ∧ x.currentWidth = 0 ∧ x.agreedRate = none
             ∧ x.failureCause = none ∧ x.record = none ∧ x.limitTimer = none ∧ x.trimTimer = none
             ∧ (x.state ≠ .held → x.holdTimer = none))
         ∧ (∀ p : PathId, s.pathLeg p = some l →
             let stays := ((s.leg l).state = .off ∨ (s.leg l).state = .absent) ∧ x.state ≠ .held
             t.path p = (if stays then s.path p else .parked)
             ∧ ∀ f : FaceId, facePath f = p →
                 if stays ∨ s.path p = .parked then t.monitor f = s.monitor f
                 else (t.monitor f).signal = .notWatched ∧ (t.monitor f).lock = .notWatched ∧ (t.monitor f).slips = 0)
         ∧ (let others :=
             if (s.leg l).state = .off ∨ (s.leg l).state = .absent then s.notices
             else (s.cancelNotices (s.onLeg l)).foldl NoticeQueue.take s.notices
            t.notices = if x.state = (s.leg l).state then others
              else others.take (.legState s.clock.stamp l (s.leg l).state x.state .reset x.currentWidth)))
      ∧ t.test l = none ∧ (t.wiresOf l).alertLatch = false
      ∧ ((s.leg l).state ≠ .off → (s.leg l).state ≠ .absent →
          s.cancelled t (s.onLeg l) ∧ s.abandonedWith t l .reset (s.onLeg l)
          ∧ ∀ r : TestRecord, s.test l = some r → r.status = .running → ∀ c ∈ r.checkers, t.generators[c.face] = none)
      ∧ ((s.leg l).state = .off ∨ (s.leg l).state = .absent →
          t.engine = s.engine ∧ t.sent = s.sent ∧ t.resultOwed = s.resultOwed)
      ∧ (t.tally l).value = 0 ∧ (t.tally l).overflow = false ∧ (t.tally l).kinds = (s.tally l).kinds
      ∧ (t.tally l).threshold = (s.tally l).threshold
      ∧ (∀ p : PathId, s.pathLeg p = some l →
          t.face (sFace p) = freshFace s.image.presets[sFace p] ∧ t.face (cFace p) = freshFace s.image.presets[cFace p])
      ∧ (∀ k : LegId, k ≠ l → t.leg k = s.leg k ∧ t.tally k = s.tally k ∧ t.test k = s.test k)
      ∧ (∀ p : PathId, s.pathLeg p ≠ some l → t.path p = s.path p ∧ t.face (sFace p) = s.face (sFace p)
          ∧ t.face (cFace p) = s.face (cFace p))
      ∧ t.errors = { s.errors with tallies := t.errors.tallies }
      ∧ t.map = s.map ∧ t.plan = s.plan ∧ t.slots = s.slots ∧ t.store = s.store ∧ t.image = s.image

/-- SET LEG PARAMS (R43): a value out of range or reserved, or a minimum width above a configured width of 1 or more, is
INVALID; in OFF, ABSENT and HELD the eight fields are written together; in the other states it is refused. -/
def Obligations.SetLegParamsWritesEightFields : Prop :=
  ∀ (s : State) (tag : Byte), s.takesRequests →
    (∀ body : List Byte, body.length = 9 →
      ¬(byteAt body 0 ≤ 3 ∧ byteAt body 1 ≤ 2 ∧ byteAt body 2 ∈ [1, 2, 4] ∧ (1 ≤ byteAt body 3 ∧ byteAt body 3 ≤ 7)
        ∧ 1 ≤ byteAt body 4 ∧ 1 ≤ byteAt body 5 ∧ byteAt body 6 ≤ 60 ∧ byteAt body 7 ≤ 63 ∧ 1 ≤ byteAt body 8) →
      exec (.setLegParams tag body) s = .next (s.answered tag 0x28#8 body .invalid []))
    ∧ ∀ (l : LegId) (r : Rate) (m b tl hm ti mf sl : Nat),
        let body := [byte l.val, byte (rateIndex r), byte m, byte b, byte tl, byte hm, byte ti, byte mf, byte sl]
        m ∈ [1, 2, 4] → 1 ≤ b → b ≤ 7 → 1 ≤ tl → tl ≤ 255 → 1 ≤ hm → hm ≤ 255 → ti ≤ 60 → mf ≤ 63 → 1 ≤ sl → sl ≤ 255 →
        exec (.setLegParams tag body) s =
          .next (
            if (s.leg l).configuredWidth ≥ 1 ∧ m > (s.leg l).configuredWidth then s.answered tag 0x28#8 body .invalid []
            else if (s.leg l).state ∈ [LegState.off, .absent, .held] then
              (s.modLeg l (fun x => { x with
                targetRate := r, minimumWidth := m, retryBudget := b, trainingLimit := tl, holdMinimum := hm
                trimInterval := ti, marginFloor := mf, slipLimit := sl })).answered tag 0x28#8 body .done []
            else s.answered tag 0x28#8 body .wrongState [])

/-! ### Face Settings -/

/-- STAGE FACE writes the carried set into the staged set of the face, RX and TX half together, and changes nothing else; a
swap at a settle point makes active the staged set as it stands then, so the last one staged (R74). -/
def Obligations.StageFaceWritesTheStagedSet : Prop :=
  (∀ (s : State) (tag : Byte) (f : FaceId) (e : EqSet), s.takesRequests → e.valid = true →
    exec (.stageFace tag (byte f.val :: e.bytes)) s =
      .next ((s.modFace f (fun x => { x with staged := e })).answered tag 0x31#8 (byte f.val :: e.bytes) .done []))
  ∧ (∀ (s : State) (f : FaceId), (s.face f).pending = true →
      ((s.settleFace f).face f).active = (s.face f).staged ∧ ((s.settleFace f).face f).staged = (s.face f).staged)

/-- PIN FACE and UNPIN FACE set and clear the pinned flag and change nothing else (R79). -/
def Obligations.PinAndUnpinFace : Prop :=
  ∀ (s : State) (tag : Byte) (f : FaceId), s.takesRequests →
    exec (.pinFace tag [byte f.val]) s =
      .next ((s.modFace f (fun x => { x with pinned := true })).answered tag 0x33#8 [byte f.val] .done [])
    ∧ exec (.unpinFace tag [byte f.val]) s =
      .next ((s.modFace f (fun x => { x with pinned := false })).answered tag 0x34#8 [byte f.val] .done [])

/-- COMMIT FACES that names no face of a PASSING path (R75): a named face of an UNMAPPED, PARKED or BENCHED path swaps at
once, one of a TRAINING or TESTING path becomes pending, and the other faces, the legs, paths, monitors, errors, notices and
the jobs of the engine are as they were, but for a suspended MARGIN of a face that swaps, which starts its count over (R95). -/
def Obligations.CommitFacesOffTheTraffic : Prop :=
  ∀ (s : State) (tag : Byte) (fs : FaceSet), s.takesRequests →
    (∀ f : FaceId, setHas fs f.val = true → s.path (facePath f) ≠ .passing) →
    let body := le16 fs.toNat
    ∃ t, exec (.commitFaces tag body) s = .next t ∧ t.port = (s.answered tag 0x32#8 body .done []).port
      ∧ (∀ f : FaceId, t.face f =
          if setHas fs f.val = true then
            (if s.path (facePath f) = .training ∨ s.path (facePath f) = .testing
             then { s.face f with pending := true } else (s.face f).swapped)
          else s.face f)
      ∧ t.legs = s.legs ∧ t.paths = s.paths ∧ t.monitors = s.monitors ∧ t.errors = s.errors ∧ t.notices = s.notices
      ∧ t.engine = { s.engine with suspended := s.engine.suspended.map (fun x =>
          if setHas fs x.job.face.val = true
              ∧ s.path (facePath x.job.face) ∈ [PathState.unmapped, .parked, .benched]
          then ⟨x.job, 0, false⟩ else x) }
      ∧ t.map = s.map ∧ t.store = s.store
      ∧ t.slots = s.slots ∧ t.tests = s.tests ∧ t.sent = s.sent ∧ t.frame = s.frame

/-- COMMIT FACES of one face of a PASSING path (R75): the face becomes pending with swap on completion and a TRIM of requester
SETTINGS is asked for. While the engine runs a job, or is IDLE with the face masked, the TRIM is absorbed by a pending SWEEP
or a running SWEEP that is not ending, merged with a pending TRIM, put in place of a pending MARGIN, which ends DISPLACED, or
queued (R88). An engine that is IDLE takes the TRIM of an unmasked face at once (R91, R92); on a pinned face it completes there
and then with PINNED, and the commit's swap is made (R78, R85). -/
def Obligations.CommitOnAPassingPathAsksForATrim : Prop :=
  ∀ (s : State) (tag : Byte) (f : FaceId), s.takesRequests → s.path (facePath f) = .passing →
    let body := le16 (2 ^ f.val)
    let marked := s.modFace f (fun x => { x with pending := true, swapOnCompletion := true })
    let trim : Job := ⟨f, .trim, .settings, 0#8⟩
    (s.engine.running.isSome = true ∨ (s.engineIdle ∧ setHas s.engine.mask f.val = true) →
      exec (.commitFaces tag body) s =
        .next ((if s.engine.running.any (fun r => r.job.face == f && r.job.kind == .sweep && !r.cancelling) = true then marked
          else match s.queued f with
            | none => marked.setQueued f (some trim)
            | some j =>
              if j.kind = .margin then
                (if j.requester = .switch
                 then marked.raiseNotice (.jobDone s.clock.stamp j.tag j.face .displaced none) else marked).setQueued f
                  (some trim)
              else marked).answered tag 0x32#8 body .done []))
    ∧ (s.engineIdle → setHas s.engine.mask f.val = false →
      exec (.commitFaces tag body) s =
        .next (
          let took := marked.modEngine (fun e => { e with routinePointer := f + 1 })
          (if (s.face f).pinned = true then took.modFace f Face.swapped
           else took.modEngine (fun e => { e with running := some ⟨trim, 0, 0, false⟩ })).answered
            tag 0x32#8 body .done []))

/-! ### Tuning engine -/

/-- TUNE MARGIN is checked in order: a face index above 15 is INVALID, a path neither PASSING nor TESTING is WRONG STATE, a
face with a job anywhere in the engine is FACE BUSY; otherwise the MARGIN is queued with the request's TAG and answered
ACCEPTED; an engine that is IDLE takes the MARGIN of an unmasked face at once and moves the PROBE pointer past it (R89, R91,
R92), and one of a masked face waits (R93). -/
def Obligations.TuneMarginIsCheckedAndQueued : Prop :=
  ∀ (s : State) (tag : Byte), s.takesRequests →
    (∀ b : Byte, 16 ≤ b.toNat → exec (.tuneMargin tag [b]) s = .next (s.answered tag 0x40#8 [b] .invalid []))
    ∧ ∀ f : FaceId,
      (s.path (facePath f) ≠ .passing → s.path (facePath f) ≠ .testing →
        exec (.tuneMargin tag [byte f.val]) s = .next (s.answered tag 0x40#8 [byte f.val] .wrongState []))
      ∧ (s.path (facePath f) = .passing ∨ s.path (facePath f) = .testing → s.engineFree f = false →
        exec (.tuneMargin tag [byte f.val]) s = .next (s.answered tag 0x40#8 [byte f.val] .faceBusy []))
      ∧ (s.path (facePath f) = .passing ∨ s.path (facePath f) = .testing → s.engineFree f = true →
        s.engine.running.isSome = true ∨ (s.engineIdle ∧ setHas s.engine.mask f.val = true) →
        exec (.tuneMargin tag [byte f.val]) s =
          .next ((s.setQueued f (some ⟨f, .margin, .switch, tag⟩)).answered tag 0x40#8 [byte f.val] .accepted []))
      ∧ (s.path (facePath f) = .passing ∨ s.path (facePath f) = .testing → s.engineIdle →
        setHas s.engine.mask f.val = false →
        exec (.tuneMargin tag [byte f.val]) s =
          .next ((s.modEngine (fun e => { e with
            running := some ⟨⟨f, .margin, .switch, tag⟩, 0, 0, false⟩, probePointer := f + 1 })).answered
              tag 0x40#8 [byte f.val] .accepted []))

/-- SET TUNE MASK replaces the mask and touches nothing else while the engine runs a job or has none that it can take (R93).
An IDLE engine chooses (R91): a SWEEP of an unmasked face goes before a suspended MARGIN, which goes before a TRIM, and a TRIM
before a MARGIN; within a class it takes the first unmasked face at or after the class's pointer. A suspended MARGIN resumes
with its steps and its grace anew (R95). A job that is taken leaves the queue, the class's pointer moves past its face (R92) and
the job starts, unless it is a SWEEP or a TRIM on a pinned face. That one completes at once with PINNED and leaves the engine
IDLE (R85): the swap that awaits it on a PASSING path is made (R78); of a SWEEP's result, an owed one is discarded (R47) and one
that the attempt waits for has the part send READY (R57), at which a face whose partner has sent READY becomes READY itself
(R59, R60). That a WIDTH REDUCED which this leads to waits behind reports in flight is the model's choice (log entry 38), and that
the LEG STATE notice comes last is its reading of R19 (log entry 13). -/
def Obligations.SetTuneMaskReplacesTheMask : Prop :=
  ∀ (s : State) (tag : Byte) (fs : FaceSet), s.takesRequests → s.tableAtRest →
    let body := le16 fs.toNat
    let masked := s.modEngine (fun e => { e with mask := fs })
    let answered (x : State) : State := x.answered tag 0x42#8 body .done []
    (s.engine.running.isSome = true ∨ masked.engineIdle → exec (.setTuneMask tag body) s = .next (answered masked))
    ∧ (s.engine.running = none →
      (∀ j : Job, masked.engine.takes j → j.kind = .margin ∨ (s.face j.face).pinned = false →
        exec (.setTuneMask tag body) s =
          .next (answered (masked.modEngine (fun e => { e.after j with running := some ⟨j, 0, 0, false⟩ }))))
      ∧ ∀ x : SuspendedJob, s.engine.suspended = some x → masked.engine.noneUrgent →
        exec (.setTuneMask tag body) s =
          .next (answered (masked.modEngine (fun e => { e with
            running := some ⟨x.job, x.stepsDone, 0, false⟩, suspended := none }))))
    ∧ ∀ (f : FaceId) (j : Job), s.engine.running = none → s.engine.suspended = none → s.queued f = some j → j.face = f →
        (∀ g : FaceId, g ≠ f → (s.queued g).isSome = true → setHas fs g.val = true) → setHas fs f.val = false →
        (s.face f).pinned = true →
        let taken := masked.modEngine (fun e => e.after j)
        let swaps := (s.face f).pending = true ∧ (s.face f).swapOnCompletion = true ∧ s.path (facePath f) = .passing
        let done := if swaps then taken.modFace f Face.swapped else taken
        (j.kind = .trim → exec (.setTuneMask tag body) s = .next (answered done))
        ∧ (j.kind = .sweep → j.requester = .leg →
          (setHas s.resultOwed f.val = true →
            exec (.setTuneMask tag body) s = .next (answered { done with resultOwed := setDrop s.resultOwed f.val }))
          ∧ ∀ (l : LegId) (rec : TrainRecord), setHas s.resultOwed f.val = false → s.faceLeg f = some l →
              (s.leg l).record = some rec → setHas rec.sweepOutstanding f.val = true →
              let sent : TrainRecord := { rec with
                sweepOutstanding := setDrop rec.sweepOutstanding f.val, readySent := setAdd rec.readySent f.val }
              (setHas rec.readyReceived f.val = false →
                exec (.setTuneMask tag body) s =
                  .next (answered ((done.modLeg l (fun x => { x with record := some sent })).send f .ready)))
              ∧ ∀ q : Place, s.mapSound → s.inExchange f q rec → q.leg = l → setHas rec.readyReceived f.val = true →
                  isCFace f = decide (rec.phase = .c) →
                  done.becomesReady l f sent answered (exec (.setTuneMask tag body) s))

/-- At a step boundary steps done and steps since start both increase by one (R85); a MARGIN past its grace of 4 steps
is suspended there for a SWEEP pending on an unmasked face, which the engine takes, the first from the URGENT pointer
(R94, R91, R92); an ending job stops there, ends CANCELLED and writes nothing (R96), the results that waited for its stop
follow its own in the order of the requests (R97), and a suspended MARGIN resumes with the steps it has done (R95). Every
boundary but the one that ends the last step is this command, and JOB_COMPLETION stops an ending job at the first one (log
entry 24). -/
def Obligations.StepBoundaries : Prop :=
  ∀ (s : State) (r : RunningJob), s.engine.running = some r →
    (r.cancelling = false → r.stepsDone + 1 < jobSteps r.job.kind →
      (r.job.kind ≠ .margin ∨ s.engine.urgentPending = false ∨ r.sinceStart + 1 < 4) →
      exec .tuneStepBoundary s =
        .next (s.modEngine (fun e => { e with running := some ⟨r.job, r.stepsDone + 1, r.sinceStart + 1, false⟩ })))
    ∧ (r.cancelling = false → r.job.kind = .margin → r.stepsDone + 1 < 32 → 4 ≤ r.sinceStart + 1 →
      ∀ (f : FaceId) (j : Job), (facesFrom s.engine.urgentPointer).find? (pendingKind s.engine .sweep) = some f →
        s.queued f = some j → j.face = f → (s.face f).pinned = false →
        exec .tuneStepBoundary s =
          .next ((s.modEngine (fun e => { e with
            running := some ⟨j, 0, 0, false⟩, suspended := some ⟨r.job, r.stepsDone + 1, true⟩
            urgentPointer := f + 1 })).setQueued f none))
    ∧ (r.cancelling = true → { s with engine := { s.engine with held := [] } }.lastJob →
      let js := r.job :: s.engine.held
      let stopped : State := { s with
        engine := s.engine.freed none
        resultOwed := js.foldl (fun o j =>
          if j.kind = .sweep ∧ j.requester = .leg then setDrop o j.face.val else o) s.resultOwed
        notices := js.foldl (fun n j =>
          if j.requester = .switch then n.take (.jobDone s.clock.stamp j.tag j.face .cancelled none) else n) s.notices }
      exec .tuneStepBoundary s = .next stopped ∧ ∀ found : Finding, exec (.jobCompletion found) s = .next stopped)

/-- Completions after which a suspended MARGIN resumes or the engine has no job (R98 to R100, R95): a MARGIN writes its margin
and raises JOB DONE for the switch; a TRIM on a face that no swap awaits and no pin closes writes the RX half and its margin;
a TRIM on a pending face of a PASSING path with swap on completion swaps instead and records no margin; a TRIM on a pinned
face without a due swap writes nothing. A recorded margin below the floor of the face's leg is reported as MARGIN LOW with the
margin as detail, ahead of JOB DONE (R98); one equal to the floor passes. A TRIM that does not converge writes nothing, makes a
swap that is due, and reports TUNE NO CONVERGE on a PASSING or TESTING path alone. Reports that are in flight are delivered
before the completion's own is taken (R126, log entry 38). A suspended MARGIN of a face whose RX half was written or swapped
starts its count over. With several jobs pending on unmasked faces the engine takes, after a completion, a SWEEP before it
resumes a suspended MARGIN, and then a TRIM before a MARGIN, and within a class the first face at or after the class's pointer
(R91, R92). The command goes through the remaining boundaries (log entry 24), at which a pending SWEEP would suspend a MARGIN
(R94): where one is pending, the MARGIN is at its last step. No slot that one of the reports could fire is set. -/
def Obligations.MarginAndTrimCompletions : Prop :=
  ∀ (s : State) (r : RunningJob) (rx : RxHalf) (m : Fin 64), s.engine.running = some r → r.cancelling = false →
    s.tableAtRest → rx.valid = true →
    (∀ l : LegId, s.faceLeg r.job.face = some l → s.noSlotOn l .tallyThreshold ∧ s.noSlotOn l .marginLow) →
    let f := r.job.face
    let freed (rewritten : Bool) : State := s.modEngine (fun e => e.freed (if rewritten then some f else none))
    let low (l : LegId) : Report := s.errorAtFace l .marginLow f (some m.val)
    let passes : Prop := ∀ l : LegId, s.faceLeg f = some l → (s.leg l).marginFloor ≤ m.val
    let judged (x : State) : State :=
      match s.faceLeg f with
      | some l => if m.val < (s.leg l).marginFloor then (x.takeReport (low l)).1 else x
      | none => x
    let done (x : State) : State :=
      if r.job.requester = .switch
      then x.raiseNotice (.jobDone s.clock.stamp r.job.tag f .completed (some m)) else x
    let measured (x : State) : State := x.modFace f (fun x => { x with lastMargin := some m })
    (s.lastJob →
      (r.job.kind = .margin → s.inFlight = [] ∨ passes →
        exec (.jobCompletion ⟨some rx, m⟩) s = .next (done (judged (measured (freed false)))))
      ∧ (r.job.kind = .trim → s.settlesOnCompletion f = false → (s.face f).pinned = false → s.inFlight = [] ∨ passes →
        exec (.jobCompletion ⟨some rx, m⟩) s =
          .next (judged ((freed true).modFace f (fun x => { x with active := ⟨x.active.tx, rx⟩, lastMargin := some m }))))
      ∧ (r.job.kind = .trim → (s.face f).pending = true → (s.face f).swapOnCompletion = true →
        s.path (facePath f) = .passing →
        exec (.jobCompletion ⟨some rx, m⟩) s = .next ((freed true).modFace f Face.swapped))
      ∧ (r.job.kind = .trim → s.settlesOnCompletion f = false → (s.face f).pinned = true →
        exec (.jobCompletion ⟨some rx, m⟩) s = .next (freed false))
      ∧ (r.job.kind = .trim → s.path (facePath f) ≠ .passing → s.path (facePath f) ≠ .testing →
        exec (.jobCompletion ⟨none, m⟩) s = .next (freed false))
      ∧ ∀ l : LegId, r.job.kind = .trim → s.path (facePath f) = .passing ∨ s.path (facePath f) = .testing →
        s.faceLeg f = some l → s.inFlight = [] →
        exec (.jobCompletion ⟨none, m⟩) s =
          .next (
            let swapped := if s.settlesOnCompletion f = true then (freed true).modFace f Face.swapped else freed false
            (swapped.takeReport (s.errorAtFace l .tuneNoConverge f none)).1))
    ∧ (s.engine.held = [] → r.job.kind = .margin → passes →
      (∀ j : Job, s.engine.takes j → j.kind = .margin ∨ (s.face j.face).pinned = false →
        (j.kind = .sweep → r.stepsDone = 31) →
        exec (.jobCompletion ⟨some rx, m⟩) s =
          .next (done (measured (s.modEngine (fun e => { e.after j with running := some ⟨j, 0, 0, false⟩ })))))
      ∧ ∀ x : SuspendedJob, s.engine.suspended = some x → s.engine.noneUrgent →
        exec (.jobCompletion ⟨some rx, m⟩) s =
          .next (done (measured (s.modEngine (fun e => { e with
            running := some ⟨x.job, x.stepsDone, 0, false⟩, suspended := none })))))
    ∧ ∀ l : LegId, s.faceLeg f = some l → r.job.kind = .margin → s.engine.urgentPending = false →
      m.val < (s.leg l).marginFloor →
      let flown := (measured s).handFlight
      flown.noSlotOn l .tallyThreshold → flown.noSlotOn l .marginLow → (∀ g : FaceId, flown.queued g = none) →
      ∃ t, exec (.jobCompletion ⟨some rx, m⟩) s = .next t
        ∧ t.errors = (flown.takeReport (low l)).1.errors
        ∧ ∃ later : List Notice,
            t.notices = later.foldl NoticeQueue.take (done (flown.takeReport (low l)).1).notices

/-- A SWEEP of a leg controller that runs to its end, after which a suspended MARGIN resumes or the engine has no job (R98, R99).
A swap that is due on a PASSING path is made, whatever the result, and discards the RX half that was found (R78); otherwise
CONVERGED writes the RX half unless the face is pinned by then (R80), and NO CONVERGE writes nothing. A suspended MARGIN of a face
whose RX half was written or swapped starts its count over (R95). If the result is owed, its flag clears and the result is
discarded (R47), whether or not the face's leg has an attempt in progress; a result that no attempt waits for is discarded; and
if the face's attempt waits for a CONVERGED one, the part sends READY (R57). Where the partner's READY has come before, the face
becomes READY at that sending: the S phase starts with the last C-face, and the last S-face makes the attempt a success (R59,
R60), where that WIDTH REDUCED waits behind reports in flight is the model's choice (log entry 38) and that the LEG STATE notice
comes last its reading (log entry 13). NO CONVERGE while the attempt waits is a lane fault, which AttemptFailuresEndTheAttempt
states. The command goes through the remaining boundaries (log entry 24). -/
def Obligations.SweepCompletions : Prop :=
  ∀ (s : State) (r : RunningJob) (rx : RxHalf) (m : Fin 64),
    s.engine.running = some r → r.cancelling = false → s.lastJob → rx.valid = true → s.tableAtRest →
    r.job.kind = .sweep → r.job.requester = .leg →
    let f := r.job.face
    let swaps := (s.face f).pending = true ∧ (s.face f).swapOnCompletion = true ∧ s.path (facePath f) = .passing
    let swapped := (s.modEngine (fun e => e.freed (some f))).modFace f Face.swapped
    let written := (s.modEngine (fun e => e.freed (some f))).modFace f (fun x => { x with active := ⟨x.active.tx, rx⟩ })
    let kept := s.modEngine (fun e => e.freed none)
    let converged := if swaps then swapped else if (s.face f).pinned = true then kept else written
    let missed := if swaps then swapped else kept
    (setHas s.resultOwed f.val = true →
      exec (.jobCompletion ⟨some rx, m⟩) s = .next { converged with resultOwed := setDrop s.resultOwed f.val }
      ∧ exec (.jobCompletion ⟨none, m⟩) s = .next { missed with resultOwed := setDrop s.resultOwed f.val })
    ∧ (setHas s.resultOwed f.val = false →
      (∀ (l : LegId) (rec : TrainRecord), s.faceLeg f = some l → (s.leg l).record = some rec →
        setHas rec.sweepOutstanding f.val = false) →
      exec (.jobCompletion ⟨some rx, m⟩) s = .next converged ∧ exec (.jobCompletion ⟨none, m⟩) s = .next missed)
    ∧ ∀ (l : LegId) (rec : TrainRecord), s.faceLeg f = some l → (s.leg l).record = some rec →
      setHas s.resultOwed f.val = false → setHas rec.sweepOutstanding f.val = true →
      let sent : TrainRecord := { rec with
        sweepOutstanding := setDrop rec.sweepOutstanding f.val, readySent := setAdd rec.readySent f.val }
      (setHas rec.readyReceived f.val = false →
        exec (.jobCompletion ⟨some rx, m⟩) s =
          .next ((converged.modLeg l (fun x => { x with record := some sent })).send f .ready))
      ∧ ∀ q : Place, s.mapSound → s.inExchange f q rec → q.leg = l → setHas rec.readyReceived f.val = true →
          isCFace f = decide (rec.phase = .c) →
          converged.becomesReady l f sent id (exec (.jobCompletion ⟨some rx, m⟩) s)

/-! ### Reaction table -/

/-- SET REACTION writes the slot record as carried with a fire count of 0 where its fields agree with its source, and
refuses a record whose fields do not with INVALID (R119). -/
def Obligations.SetReactionWritesASlot : Prop :=
  ∀ (s : State) (tag : Byte) (l : LegId) (j : SlotId) (src : Source) (e : Option EdgeMode) (a : Option Action),
    s.takesRequests →
    let body := [byte l.val, byte j.val, byte (sourceCode src), orAbsent (e.map edgeModeCode), orAbsent (a.map actionCode)]
    let agrees := (src = .none ∧ e = none ∧ a = none)
      ∨ (src ∈ [Source.present, .alert, .wake] ∧ e.isSome = true ∧ a.isSome = true)
      ∨ (src ∈ [Source.tallyThreshold, .slipBurst, .marginLow, .signalLost] ∧ e = none ∧ a.isSome = true)
    (agrees → exec (.setReaction tag body) s =
      .next ((s.modSlot l j (fun _ => ⟨src, e, a, 0⟩)).answered tag 0x48#8 body .done []))
    ∧ (¬agrees → exec (.setReaction tag body) s = .next (s.answered tag 0x48#8 body .invalid []))

/-- A table event fires each slot of its leg that is on its source and matches its edge exactly once, whatever the slot's
action does, and no slot that is on another source but TALLY THRESHOLD; no slot of another leg fires (R113, R114). The events
are a rise and a fall of filtered PRESENT, a rise, a fall and a change of filtered ALERT and WAKE (R136), a SLIP BURST (R109),
a MARGIN LOW (R100) and a SIGNAL LOST (R107) that is delivered at once, and the TALLY THRESHOLD of a report that takes the
tally to its threshold (R128), here a SLIP BURST of a leg with no slot on that source. The reports are delivered at once,
nothing being in flight (log entry 38), and the MARGIN completes at whatever step it is (log entry 24). One slot on WAKE alone
then does its work (R116 to R118): RETRAIN starts a series with cause REACTION in ACTIVE and DEGRADED and does nothing
elsewhere, HOLD acts as LEG HOLD does with cause REACTION, RELEASE acts as LEG RELEASE does, and the series it starts has the
cause recorded at the entry to HELD (log entry 34), CAPTURE writes the capture record and NOTIFY raises the REACTION notice. -/
def Obligations.SidebandChangesFireMatchingSlots : Prop :=
  (∀ (s : State) (l : LegId), s.tableAtRest →
    ((s.wiresOf l).present.asserted = false → ∃ t, exec (.presenceRise l) s = .next t ∧ s.firedOnce t l .present (some .rise))
    ∧ ((s.wiresOf l).present.asserted = true → ∃ t, exec (.presenceFall l) s = .next t ∧ s.firedOnce t l .present (some .fall))
    ∧ ((s.wiresOf l).alert.asserted = false → ∃ t, exec (.alertRise l) s = .next t ∧ s.firedOnce t l .alert (some .rise))
    ∧ ((s.wiresOf l).alert.asserted = true → ∃ t, exec (.alertFall l) s = .next t ∧ s.firedOnce t l .alert (some .fall))
    ∧ (∃ t, exec (.wakeChange l) s = .next t
        ∧ s.firedOnce t l .wake (some (if (s.wiresOf l).wake.asserted = true then .fall else .rise)))
    ∧ ∀ f : FaceId, s.faceLeg f = some l →
      let m := s.monitor f
      (s.inFlight = [] → m.signal = .present →
        ∃ t, exec (.signalLost ⟨f, .now⟩) s = .next t ∧ s.firedOnce t l .signalLost none)
      ∧ (s.inFlight = [] → m.lock = .locked → m.slips = m.windowLimit → m.burstRaised = false →
        (∃ t, exec (.slip ⟨f, .now⟩) s = .next t ∧ s.firedOnce t l .slipBurst none)
        ∧ (s.noSlotOn l .slipBurst → (s.errors.settings[(2 : Fin 14)]).enable = true → setHas (s.tally l).kinds 2 = true →
          (s.tally l).value < 255 → (s.tally l).value + 1 = (s.tally l).threshold →
          ∃ t, exec (.slip ⟨f, .now⟩) s = .next t ∧ s.firedOnce t l .tallyThreshold none))
      ∧ ∀ (r : RunningJob) (found : Finding), s.engine.running = some r → r.job.kind = .margin → r.job.face = f →
          r.cancelling = false → s.inFlight = [] → s.lastJob → found.valid = true → found.margin.val < (s.leg l).marginFloor →
          ∃ t, exec (.jobCompletion found) s = .next t ∧ s.firedOnce t l .marginLow none)
  ∧ ∀ (s : State) (l : LegId) (j : SlotId) (m : EdgeMode) (a : Action), s.tableAtRest → s.noSlotOn l .tallyThreshold →
      (∀ i : SlotId, i ≠ j → (s.slot l i).source ≠ .wake) → (s.slot l j).source = .wake → (s.slot l j).edge = some m →
      (s.slot l j).action = some a →
      let edge : Edge := if (s.wiresOf l).wake.asserted = true then .fall else .rise
      edgeMatches m edge = true →
      let x := s.leg l
      let begun (t : State) (c : TrainCause) : Prop := ∀ (w : Nat) (g : PosSet),
        selectWidth x.configuredWidth x.minimumWidth x.excluded = some (w, g) → s.seriesBegun t l c w g
      ∃ t, exec (.wakeChange l) s = .next t ∧ (∀ k : LegId, k ≠ l → t.leg k = s.leg k)
        ∧ (t.wiresOf l).wake.asserted = !(s.wiresOf l).wake.asserted
        ∧ (match a with
          | .retrain => if isLinked x.state = true then begun t .reaction else t.leg l = x
          | .hold => t.leg l = { (match x.state with
              | .off | .absent => x
              | .held => { x with holdTimer := some x.holdMinimum }
              | .training | .active | .degraded | .test | .failed => x.heldWith .reaction) with holdRequest := true }
          | .release =>
            if x.state = .held ∧ x.holdTimer = none then begun t x.trainingCause ∧ (t.leg l).holdRequest = false
            else t.leg l = { x with holdRequest := false }
          | .capture =>
            t.leg l = { x with capture := some ⟨s.clock.stamp, j, .wake, some edge, x.state, (s.tally l).value,
              (s.tally l).overflow, (allFaces.filter (s.onLeg l)).map (fun f =>
                ⟨f, (s.face f).lastMargin, (s.monitor f).signal, (s.monitor f).lock, (s.monitor f).slips⟩)⟩ }
            ∧ t.notices = s.notices
          | .notify =>
            t.leg l = x ∧ t.notices = s.notices.take (.reaction s.clock.stamp l j .wake (some edge) x.state))

/-! ### Error unit -/

/-- CLEAR LOG empties the first and the next record of the severity it carries and zeroes its further count, leaves the
other severities, the kind settings, the tallies and the queued notices as they are, and a severity outside the three is
INVALID; the next report of that severity then fills the first record and, for CRITICAL and MAJOR, raises an ERROR notice
(R130). -/
def Obligations.ClearLogEmptiesOneSeverity : Prop :=
  (∀ (s : State) (tag : Byte), s.takesRequests →
    exec (.clearLog tag [0#8]) s =
      .next ({ s with errors := { s.errors with critical := ⟨none, none, 0⟩ } }.answered tag 0x51#8 [0#8] .done [])
    ∧ exec (.clearLog tag [1#8]) s =
      .next ({ s with errors := { s.errors with major := ⟨none, none, 0⟩ } }.answered tag 0x51#8 [1#8] .done [])
    ∧ exec (.clearLog tag [2#8]) s =
      .next ({ s with errors := { s.errors with minor := ⟨none, none, 0⟩ } }.answered tag 0x51#8 [2#8] .done [])
    ∧ ∀ b : Byte, 3 ≤ b.toNat → exec (.clearLog tag [b]) s = .next (s.answered tag 0x51#8 [b] .invalid []))
  ∧ ∀ (s : State) (r : Report), (s.errors.settings[kindIndex r.kind]).enable = true →
      let sev := (s.errors.settings[kindIndex r.kind]).severity
      (s.errors.log sev) = ⟨none, none, 0⟩ →
      ((s.takeReport r).1.errors.log sev) = ⟨some (r.toRecord sev s.clock.epoch), none, 0⟩
      ∧ (s.takeReport r).1.notices =
          (if sev = .minor then s.notices
           else s.notices.take (.error s.clock.stamp sev (r.toRecord sev s.clock.epoch)))

/-- The error unit takes a report whole (R126): a kind that is off changes nothing; otherwise the log of the kind's severity
takes the record (R124): as its first record, or once that is filled as its next record, over the one before, with the further
count one higher up to 255; a record that fills a first record of CRITICAL or MAJOR raises one ERROR notice with a copy of it,
and one that goes to a next record, or is MINOR, raises none (R125); and the tally of the report's leg grows by one if its mask names the kind, up to 255, where it sets
overflow instead (R127); the threshold event is given exactly when the value goes from one below the threshold to it
(R128). -/
def Obligations.ReportsAreLoggedAndTallied : Prop :=
  ∀ (s : State) (r : Report),
    let setting := s.errors.settings[kindIndex r.kind]
    let took := s.takeReport r
    (setting.enable = false → took = (s, none))
    ∧ (setting.enable = true →
      (∀ sev : Severity, took.1.errors.log sev =
        let g := s.errors.log sev
        let record : ErrorRecord :=
          ⟨r.kind, sev, r.leg, r.path, r.face, r.legState, r.attempts, r.stamp, s.clock.epoch, r.detail⟩
        if sev = setting.severity then
          (if g.first = none then ⟨some record, g.next, g.further⟩ else ⟨g.first, some record, min 255 (g.further + 1)⟩)
        else g)
      ∧ took.1.notices = (
          let record : ErrorRecord :=
            ⟨r.kind, setting.severity, r.leg, r.path, r.face, r.legState, r.attempts, r.stamp, s.clock.epoch, r.detail⟩
          if (s.errors.log setting.severity).first = none ∧ setting.severity ≠ .minor
          then s.notices.take (.error s.clock.stamp setting.severity record) else s.notices)
      ∧ took.1.errors.settings = s.errors.settings
      ∧ (∀ l : LegId, took.1.tally l =
          if r.leg = some l ∧ setHas (s.tally l).kinds (kindIndex r.kind).val = true then
            (if (s.tally l).value < 255 then { s.tally l with value := (s.tally l).value + 1 }
             else { s.tally l with overflow := true })
          else s.tally l)
      ∧ (∀ l : LegId, took.2 = some l ↔
          r.leg = some l ∧ setHas (s.tally l).kinds (kindIndex r.kind).val = true
            ∧ (s.tally l).value < 255 ∧ (s.tally l).value + 1 = (s.tally l).threshold)
      ∧ took.1.legs = s.legs ∧ took.1.paths = s.paths ∧ took.1.faces = s.faces ∧ took.1.slots = s.slots
      ∧ took.1.engine = s.engine)

/-- SET ERROR KIND writes the setting of one kind 1 to 14 and refuses any other value with INVALID (R131). -/
def Obligations.SetErrorKindWritesASetting : Prop :=
  ∀ (s : State) (tag : Byte), s.takesRequests →
    (∀ (k : Fin 14) (on : Bool) (sev : Severity),
      let body := [byte (k.val + 1), boolByte on, byte (severityCode sev)]
      exec (.setErrorKind tag body) s =
        .next ({ s with errors := { s.errors with settings := s.errors.settings.set k ⟨on, sev⟩ } }.answered
          tag 0x52#8 body .done []))
    ∧ ∀ a b c : Byte, (a.toNat = 0 ∨ 14 < a.toNat ∨ 1 < b.toNat ∨ 2 < c.toNat) →
        exec (.setErrorKind tag [a, b, c]) s = .next (s.answered tag 0x52#8 [a, b, c] .invalid [])

/-- SET TALLY writes the kind mask and threshold of one leg together, leaves value and overflow, and gives no event; a leg
above 3 or a mask that names a kind above 12 is INVALID (R132). CLEAR TALLY sets one leg's value to 0 and clears its
overflow flag, keeps its mask and threshold and everything else, and refuses a leg above 3 with INVALID (R133). -/
def Obligations.TallyRequests : Prop :=
  ∀ (s : State) (tag : Byte), s.takesRequests →
    (∀ (l : LegId) (m : KindMask) (n : Nat), n ≤ 255 →
      let body := byte l.val :: le16 m.toNat ++ [byte n]
      exec (.setTally tag body) s =
        .next ((s.modTally l (fun t => ⟨t.value, t.overflow, m, n⟩)).answered tag 0x53#8 body .done []))
    ∧ (∀ a b c d : Byte, 4 ≤ a.toNat ∨ 16 ≤ c.toNat →
      exec (.setTally tag [a, b, c, d]) s = .next (s.answered tag 0x53#8 [a, b, c, d] .invalid []))
    ∧ (∀ l : LegId,
      exec (.clearTally tag [byte l.val]) s =
        .next ((s.modTally l (fun t => ⟨0, false, t.kinds, t.threshold⟩)).answered tag 0x54#8 [byte l.val] .done []))
    ∧ ∀ a : Byte, 4 ≤ a.toNat → exec (.clearTally tag [a]) s = .next (s.answered tag 0x54#8 [a] .invalid [])

/-! ### Sideband concentrator -/

/-- FRAME CONTROL writes the three requests in every engine state and acts by the state it finds (R145): an engine in IDLE
with its gap over starts a frame at once where the mode that it takes calls for one (R143). A reserved encoding of a field is
INVALID. That gap remaining, which R142 gives a meaning in IDLE alone, is 0 in a frame that starts and otherwise stays as it
stood is the model's choice (log entry 40). -/
def Obligations.FrameControlActsByEngineState : Prop :=
  ∀ (s : State) (tag : Byte), s.takesRequests →
    (∀ (on halt : Bool) (mode : FrameMode),
      let body := [boolByte on, byte (modeCode mode), boolByte halt]
      let asked : FrameEngine := { s.frame with enableRequest := on, modeRequest := mode, haltRequest := halt }
      let stopped (st : FrameState) : FrameEngine := { asked with state := st, startWanted := false, snapshot := none }
      let called : Prop :=
        s.frame.gap = 0 ∧ (mode = .continuous ∨ s.frame.changePending = true ∨ s.frame.startWanted = true)
      exec (.frameControl tag body) s =
        .next ({ s with frame :=
          match s.frame.state, on, halt with
          | .sending, _, _ => asked
          | .idle, false, _ => stopped .disabled
          | .idle, true, true => stopped .halted
          | .idle, true, false => if called then s.startedFrom { asked with mode := mode } else { asked with mode := mode }
          | .halted, false, _ => stopped .disabled
          | .halted, true, true => { asked with mode := mode }
          | .halted, true, false => s.startedFrom { asked with mode := mode }
          | .disabled, false, _ => asked
          | .disabled, true, true => { stopped .halted with mode := mode }
          | .disabled, true, false => s.startedFrom { asked with mode := mode } }.answered tag 0x59#8 body .done []))
    ∧ ∀ a b c : Byte, 1 < a.toNat ∨ 1 < b.toNat ∨ 1 < c.toNat →
        exec (.frameControl tag [a, b, c]) s = .next (s.answered tag 0x59#8 [a, b, c] .invalid [])

/-- SET FRAME PLAN (R146): INVALID for a value outside its field's, WRONG STATE in IDLE and SENDING; in DISABLED and
HALTED the plan in force is replaced and nothing else of the engine but the pending flags changes. Change-pending is
set where a value of the new plan differs from its last-sent value. Without such a difference a flag that was clear stays clear,
one that was set stays set under a LONG plan, and under a SHORT plan it stays set or not by the SHORT items alone: one that only
WAKE or DEGRADED items had set becomes clear. By which items a flag was set the model tells by the bit shortPending, which an
item of the SHORT plan sets where it differs at a judging (log entry 16). -/
def Obligations.SetFramePlanReplacesThePlan : Prop :=
  ∀ (s : State) (tag : Byte), s.takesRequests →
    (∀ p : FramePlan,
      let body := [byte (slotPlanCode p.slots), byte (bitTimeCode p.bit), byte (startWidthCode p.start)]
      (s.frame.state = .idle ∨ s.frame.state = .sending →
        exec (.setFramePlan tag body) s = .next (s.answered tag 0x58#8 body .wrongState []))
      ∧ (s.frame.state = .disabled ∨ s.frame.state = .halted →
        let kept := s.frame.changePending && (decide (p.slots = .long) || s.frame.shortPending)
        exec (.setFramePlan tag body) s =
          .next ({ s with frame := { s.frame with
            plan := p, changePending := s.differs p.slots || kept
            shortPending := s.frame.shortPending || s.differs .short } }.answered tag 0x58#8 body .done [])))
    ∧ ∀ a b c : Byte, 1 < a.toNat ∨ 2 < b.toNat ∨ 2 < c.toNat →
        exec (.setFramePlan tag [a, b, c]) s = .next (s.answered tag 0x58#8 [a, b, c] .invalid [])

/-- READ SIDEBAND answers DONE with the record, and SBL reads low while the part pulls it; while the part releases SBL the
level is what the switch makes it, the free value of log entry 7, and the look advances its counter (R147). CLEAR ALERT
clears the alert latches it names and no other, leaves every filter, hands no event over, and has the frame engine judged over
the slot values that follow, together (R141, log entry 36); an empty set has no effect, and a set with a leg above 3 is INVALID
(R148). -/
def Obligations.ReadSidebandAndClearAlert : Prop :=
  ∀ (s : State) (tag : Byte), s.takesRequests →
    (s.pullsSbl = true →
      exec (.readSideband tag []) s = .next (s.answered tag 0x5A#8 [] .done (s.sidebandBytes false)))
    ∧ (s.pullsSbl = false →
      exec (.readSideband tag []) s =
        .next ({ s with freeCount := s.freeCount + 1 }.answered tag 0x5A#8 [] .done
          (s.sidebandBytes (!Config.switchPullsSbl s.freeCount))))
    ∧ (∀ ls : BitVec 4, ∃ t : State,
        exec (.clearAlert tag [ls.setWidth 8]) s = .next (t.answered tag 0x5B#8 [ls.setWidth 8] .done [])
        ∧ t = { s with wires := t.wires, frame := t.frame }
        ∧ (∀ l : LegId, t.wiresOf l =
            { s.wiresOf l with alertLatch := (s.wiresOf l).alertLatch && !setHas ls l.val })
        ∧ (if ls = 0#4 then t = s else s.frameJudged t))
    ∧ ∀ b : Byte, 16 ≤ b.toNat → exec (.clearAlert tag [b]) s = .next (s.answered tag 0x5B#8 [b] .invalid [])

/-- A wire that changes its level restarts its filter's stability timer and moves no filtered level (R135). A rise or
fall of filtered ALERT and a change of filtered WAKE, with no slot of the leg on that source, move the filtered level;
a rise sets the alert latch in every leg state but OFF and ABSENT, and a fall leaves it (R136, R137); a frame that the values
call for starts at once (R143), and the latch and the level of one rise are judged together (log entry 36). The event stands
for the wire level it needs (log entry 11). -/
def Obligations.FilteredInputsAndTheAlertLatch : Prop :=
  ∀ (s : State) (l : LegId), s.tableAtRest →
    let w := s.wiresOf l
    let moved (x : Filter) (low : Bool) : Filter := if x.wireLow = low then x else ⟨low, x.asserted, 0⟩
    (∀ low : Bool,
      exec (.sidebandWireChange l .present low) s =
        .next { s with wires := s.wires.set l { w with present := moved w.present low } }
      ∧ exec (.sidebandWireChange l .alert low) s =
        .next { s with wires := s.wires.set l { w with alert := moved w.alert low } }
      ∧ exec (.sidebandWireChange l .wake low) s =
        .next { s with wires := s.wires.set l { w with wake := moved w.wake low } })
    ∧ (s.noSlotOn l .alert → w.alert.asserted = false →
      ∃ t, exec (.alertRise l) s = .next t
        ∧ s.wiresBecame t l { w with
            alert := ⟨true, true, w.alert.stable⟩
            alertLatch := if (s.leg l).state = .off ∨ (s.leg l).state = .absent then w.alertLatch else true })
    ∧ (s.noSlotOn l .alert → w.alert.asserted = true →
      ∃ t, exec (.alertFall l) s = .next t
        ∧ s.wiresBecame t l { w with alert := ⟨false, false, w.alert.stable⟩ })
    ∧ (s.noSlotOn l .wake →
      ∃ t, exec (.wakeChange l) s = .next t
        ∧ s.wiresBecame t l { w with wake := ⟨!w.wake.asserted, !w.wake.asserted, w.wake.stable⟩ })

/-- A change of debounced presence, with no slot of the leg on PRESENT (R136): a rise takes an ABSENT leg to HELD with
cause FIRST (R24) and changes no leg in another state; a fall takes a leg that is neither OFF nor ABSENT to ABSENT by
shutdown (R25, R21), with its alert latch clear, its paths PARKED, their monitors idle and their faces settled (R105, R9, R76),
the jobs of its faces cancelled (R41, R96), a running test discarded (R156) and an attempt abandoned with its ABORTs of reason
GIVE UP and its owed results (R67, R47; log entry 14), and changes no leg in OFF or ABSENT. The event stands for the wire level
it needs (log entry 11), and the LEG STATE notice comes last (log entry 13). -/
def Obligations.PresenceMovesTheLeg : Prop :=
  ∀ (s : State) (l : LegId), s.tableAtRest → s.noSlotOn l .present →
    let w := s.wiresOf l
    ((s.wiresOf l).present.asserted = false →
      ((s.leg l).state ≠ .absent →
        ∃ t, exec (.presenceRise l) s = .next t ∧ s.wiresBecame t l { w with present := ⟨true, true, w.present.stable⟩ })
      ∧ ((s.leg l).state = .absent →
        ∃ t, exec (.presenceRise l) s = .next t ∧ t.leg l = (s.leg l).heldWith .first
          ∧ t.wiresOf l = { w with present := ⟨true, true, w.present.stable⟩ }
          ∧ s.legParked t l ∧ t.sent = s.sent ∧ t.resultOwed = s.resultOwed
          ∧ t.notices = s.notices.take (.legState s.clock.stamp l .absent .held .presence 0)
          ∧ s.othersKept t l ∧ t.port = s.port))
    ∧ ((s.wiresOf l).present.asserted = true →
      ((s.leg l).state = .off ∨ (s.leg l).state = .absent →
        ∃ t, exec (.presenceFall l) s = .next t
          ∧ s.wiresBecame t l { w with present := ⟨false, false, w.present.stable⟩ })
      ∧ ((s.leg l).state ≠ .off → (s.leg l).state ≠ .absent →
        ∃ t, exec (.presenceFall l) s = .next t
          ∧ t.leg l = { s.leg l with
              state := .absent, holdRequest := false, attemptCount := 0, excluded := 0#4, group := 0#4
              currentWidth := 0, agreedRate := none, failureCause := none, holdTimer := none, limitTimer := none
              trimTimer := none, record := none }
          ∧ t.wiresOf l = { w with present := ⟨false, false, w.present.stable⟩, alertLatch := false }
          ∧ s.legParked t l ∧ s.cancelled t (s.onLeg l) ∧ s.testDiscarded t l
          ∧ s.abandonedWith t l .giveUp (s.onLeg l)
          ∧ t.notices = ((s.cancelNotices (s.onLeg l)).foldl NoticeQueue.take s.notices).take
              (.legState s.clock.stamp l (s.leg l).state .absent .presence 0)
          ∧ s.othersKept t l ∧ t.port = s.port))

/-- The engine at an end of a frame (R142): the requests are sampled, and an engine that goes on is IDLE. -/
def Sys2Proof.Machine.FrameEngine.ended (x : FrameEngine) : FrameEngine :=
  let rest := { x with gap := 8, bitPhase := 0, elapsed := 0, snapshot := none }
  if x.enableRequest = false then { rest with state := .disabled, startWanted := false }
  else if x.haltRequest = true then { rest with state := .halted, startWanted := false }
  else { rest with state := .idle, mode := x.modeRequest }

/-- A start request counts in QUIET and IDLE only; a frame starts from IDLE, at the first moment at which the gap is over, in
CONTINUOUS, or with change-pending set, or with start wanted (R143): at the start request itself where the gap is over by
then, and otherwise at FRAME_START, which stands for that moment (log entry 2) and does nothing before it; a good end makes
last-sent the values that the frame carried of its plan's items, and change-pending tells whether a difference remains
(R141); a collision in a slot that is not asserted abandons the frame, updates no last-sent value, keeps change-pending and
reports SIDEBAND COLLISION at part scope (R144), after the reports that are in flight have been delivered (R126, log entry 38).
That gap remaining is set to 8 also at an end that leads to DISABLED or HALTED, where R142 gives it no meaning, is the model's
choice (log entry 40). The error unit is at rest between steps. -/
def Obligations.FramesStartEndAndCollide : Prop :=
  ∀ s : State,
    (s.frame.state = .idle → s.frame.mode = .quiet →
      let wanted : FrameEngine := { s.frame with startWanted := true }
      exec .startRequest s = .next { s with frame := if s.frame.gap = 0 then s.startedFrom wanted else wanted })
    ∧ (s.frame.state ≠ .idle ∨ s.frame.mode = .continuous → exec .startRequest s = .next s)
    ∧ (s.frame.state = .idle → s.frame.gap = 0 →
      s.frame.mode = .continuous ∨ s.frame.changePending = true ∨ s.frame.startWanted = true →
      exec .frameStart s = .next { s with frame := s.startedFrom s.frame })
    ∧ (s.frame.state ≠ .idle ∨ 0 < s.frame.gap
        ∨ (s.frame.mode = .quiet ∧ s.frame.changePending = false ∧ s.frame.startWanted = false) →
      exec .frameStart s = .next s)
    ∧ (∀ x : Snapshot, s.frame.state = .sending → s.frame.snapshot = some x →
      ∃ (last : Vector (BitVec 5) 4) (cp sp : Bool),
        exec .frameGoodEnd s =
          .next { s with frame := { s.frame with lastSent := last, changePending := cp, shortPending := sp }.ended }
        ∧ (∀ (l : LegId) (n : Nat), n < 5 → (last[l]).getLsbD n =
            if n < (if x.plan.slots = .short then 3 else 5) then (x.values[l]).getLsbD n
            else (s.frame.lastSent[l]).getLsbD n)
        ∧ cp = { s with frame := { s.frame with lastSent := last } }.differs s.frame.plan.slots
        ∧ sp = { s with frame := { s.frame with lastSent := last } }.differs .short)
    ∧ (∀ (x : Snapshot) (n : Nat), s.frame.state = .sending → s.frame.snapshot = some x → n < slotCount x.plan.slots →
      x.slot n = false →
      s.tableAtRest →
      let took := (s.handFlight.takeReport ⟨.sidebandCollision, none, none, none, none, none, s.clock.stamp, none⟩).1
      exec (.sidebandCollision n) s = .next { took with frame := took.frame.ended }
      ∧ (s.inFlight = [] → took.frame = s.frame))

/-! ### Pattern test -/

/-- The body of TEST START (R177). -/
def Sys2Proof.Machine.startBody (l : LegId) (choice : FacesChoice) (taps seed : Stages) (limit : Nat) : List Byte :=
  [byte l.val, byte (facesChoiceCode choice)] ++ stageBytes taps ++ stageBytes seed ++ le16 limit

/-- TEST START (R151): a tap set without stage 31, a zero seed or a limit above 3600 is INVALID, and a leg that is neither
ACTIVE nor DEGRADED gives WRONG STATE. A request that passes replaces the leg's test record by a RUNNING one with a checker
at its start for each chosen face, moves the leg to TEST with its trim timer stopped, its group paths TESTING and one LEG
STATE notice, and loads the chosen faces' generators with the seed, from which each of them sends the pattern (R150), here the
symbols of one microsecond (log entry 8); the rest of the leg context is kept. Each bit of a pattern is the exclusive-or of the
stages that the tap set names: it goes into stage 1, the other stages move on by one toward stage 31, and it is the bit sent;
at 25G a symbol carries one bit, and at 50G and 100G two consecutive ones, the earlier the more significant (R150). -/
def Obligations.TestStartBeginsATest : Prop :=
  (∀ taps v : Stages,
    (feedback taps v = true ↔ ((List.range 31).filter (fun k => taps.getLsbD k && v.getLsbD k)).length % 2 = 1)
    ∧ (patternStep taps v).getLsbD 0 = feedback taps v
    ∧ (∀ k : Nat, k < 30 → (patternStep taps v).getLsbD (k + 1) = v.getLsbD k)
    ∧ patternSteps taps 0 v = v
    ∧ (∀ n : Nat, patternSteps taps (n + 1) v = patternStep taps (patternSteps taps n v))
    ∧ (∀ n : Nat, (patternBits taps n v).length = n)
    ∧ ∀ n k : Nat, k < n → (patternBits taps n v)[k]? = some (feedback taps (patternSteps taps k v)))
  ∧ (∀ bits : List Bool,
    symbolsOf .r25 bits = bits.map Symbol.two
    ∧ ∀ rate : Rate, rate ≠ .r25 →
        (symbolsOf rate bits).length = bits.length / 2
        ∧ ∀ (k : Nat) (earlier later : Bool), bits[2 * k]? = some earlier → bits[2 * k + 1]? = some later →
            (symbolsOf rate bits)[k]? = some (.four earlier later))
  ∧ ∀ (s : State) (tag : Byte) (l : LegId) (choice : FacesChoice) (taps seed : Stages) (limit : Nat), s.takesRequests →
    limit < 65536 →
    let body := startBody l choice taps seed limit
    let good := setHas taps 30 = true ∧ seed ≠ 0#31 ∧ limit ≤ 3600
    (¬good → exec (.testStart tag body) s = .next (s.answered tag 0x60#8 body .invalid []))
    ∧ (good → isLinked (s.leg l).state = false →
      exec (.testStart tag body) s = .next (s.answered tag 0x60#8 body .wrongState []))
    ∧ (good → isLinked (s.leg l).state = true → s.tableAtRest →
      ∃ t, exec (.testStart tag body) s = .next t ∧ t.port = (s.answered tag 0x60#8 body .done []).port
        ∧ t.leg l = { s.leg l with state := .test, trimTimer := none }
        ∧ t.test l = some ⟨.running, choice, taps, seed, limit, 0, none,
            if limit ≥ 1 then some (1000 * limit) else none,
            (allFaces.filter (s.chosen l choice)).map (fun f =>
              ⟨f, if (s.monitor f).lock = .locked then .seeking else .lost, 0, 0, 0, 0#31, 0, 0, 0, 0⟩)⟩
        ∧ (∀ f : FaceId, t.generators[f] = if s.chosen l choice f = true then some seed else s.generators[f])
        ∧ (∀ (p : PathId) (q : Place), s.place p = some q → q.leg = l →
            t.path p = if setHas (s.leg l).group q.pos.val = true then .testing else s.path p)
        ∧ (∀ (f : FaceId) (rate : Rate), s.chosen l choice f = true → (s.leg l).agreedRate = some rate →
            t.transmits f = .pattern (some rate) (symbolsOf rate (patternBits taps (bitsPerMicrosecond rate) seed)))
        ∧ t.notices = s.notices.take (.legState s.clock.stamp l (s.leg l).state .test .test (s.leg l).currentWidth)
        ∧ s.othersKept t l)

/-- A RUNNING test of a leg in TEST ends at TEST STOP and at the expiry of its limit (R155): the record becomes ENDED with its
cause, its counts kept and, at a LIMIT, the whole limit elapsed, which R154 is read to say (log entry 28); its generators
stop, TEST DONE is raised before the LEG STATE notice, and a series with cause TEST END starts. TEST STOP in another state is
WRONG STATE. The expiry says that its time has come, whatever remains in the timer (log entry 2). That the history, the run and
the present unit's bits and mismatches of the stopped checkers stay as they stood is the model's choice (log entry 45). -/
def Obligations.TestsEndByStopAndLimit : Prop :=
  ∀ (s : State) (tag : Byte) (l : LegId), s.tableAtRest →
    (s.takesRequests → (s.leg l).state ≠ .test →
      exec (.testStop tag [byte l.val]) s = .next (s.answered tag 0x61#8 [byte l.val] .wrongState []))
    ∧ ∀ (r : TestRecord) (w : Nat) (g : PosSet), (s.leg l).state = .test → s.test l = some r → r.status = .running →
      selectWidth (s.leg l).configuredWidth (s.leg l).minimumWidth (s.leg l).excluded = some (w, g) →
      let done (t : State) (cause : TestEnd) (elapsed : Nat) : Prop :=
        t.test l = some { r with status := .ended, endCause := some cause, elapsed := elapsed, limitTimer := none }
        ∧ (∀ c ∈ r.checkers, t.generators[c.face] = none)
        ∧ s.seriesBegun t l .testEnd w g ∧ (t.leg l).excluded = (s.leg l).excluded ∧ s.othersKept t l
        ∧ t.notices = (s.notices.take (.testDone s.clock.stamp l cause elapsed r.checkers)).take
            (.legState s.clock.stamp l .test .training (.train .testEnd) w)
      (s.takesRequests →
        ∃ t, exec (.testStop tag [byte l.val]) s = .next t ∧ done t .stop r.elapsed
          ∧ t.port = (s.answered tag 0x61#8 [byte l.val] .done []).port)
      ∧ (r.limitTimer.isSome = true →
        ∃ t, exec (.testLimitExpiry l) s = .next t ∧ done t .limit (1000 * r.limit) ∧ t.port = s.port)

/-- The checker of a face of a RUNNING test (R152, R153). SEEKING takes each received bit: the first 31 fill the history, a
later one is compared with the prediction, joins the history and adds to the run where it is right, and starts the seed over
where it is wrong; the 64th right one in a row locks the checker with unit bits and mismatches at 0. Received bits come one
after another, and those after the lock are no longer CHECKER_LOCK's. A checker that is LOST under a locked receiver seeks at
the next received bit. In LOCKED the checker's own predictions enter its history. A unit of 1 048 576 compared bits adds one
to compared units; a wrong bit adds one to mismatched bits; and the 256th mismatch of a unit is counted, makes the checker
LOST with one loss more and the partial unit dropped, and is reported as TEST MISMATCH. TEST_MISMATCH is a run of wrong bits
up to that mismatch, and a unit that ends before it counts and starts the mismatches over. Counts saturate. No other face's
checker and no leg changes. What each command stands for on the lane is log entry 23, a unit that its 256th mismatch fills is
log entry 21, and that a command without its condition does nothing is log entry 3. The counts are within their bounds, which
every step keeps. Reports that are in flight are delivered before the TEST MISMATCH is taken (R126, log entry 38). -/
def Obligations.CheckersCountAndLose : Prop :=
  ∀ (s : State) (f : FaceId) (l : LegId) (r : TestRecord) (k : Checker), s.tableAtRest → s.faceLeg f = some l →
    s.test l = some r → s.checkerOf f = some k → k.bounded →
    let top := 4294967295
    let size := 1048576
    let became (t : State) (k' : Checker) : Prop :=
      t.checkerOf f = some k' ∧ (∀ g : FaceId, g ≠ f → t.checkerOf g = s.checkerOf g)
      ∧ t.legs = s.legs ∧ t.paths = s.paths ∧ t.faces = s.faces ∧ t.monitors = s.monitors
    let lost (units more : Nat) : Checker :=
      ⟨.lost, min top (k.units + units), min top (k.mismatched + more), min 255 (k.losses + 1), 0#31, 0, 0, 0, 0⟩
    let report := s.errorAtFace l .testMismatch f none
    let mismatched (i : Instr) (k' : Checker) : Prop :=
      (s.inFlight = [] → s.noSlotOn l .tallyThreshold →
        ∃ t, exec i s = .next t ∧ t.reportsOf (s.takeReport report).1 ∧ became t k')
      ∧ ∃ u : State, u = { s with tests := u.tests } ∧ became u k'
        ∧ (u.handFlight.noSlotOn l .tallyThreshold → exec i s = .next (u.handFlight.takeReport report).1)
    let empty (state : CheckerState) : Checker := { k with state := state, history := 0#31, gathered := 0, run := 0 }
    (∀ b : Bool, k.state = .seeking →
      ∃ t, exec (.checkerLock f [b]) s = .next t ∧ t.errors = s.errors
        ∧ became t (
          let history := (k.history <<< 1) ||| (if b = true then 1#31 else 0#31)
          if k.gathered < 31 then { k with history := history, gathered := k.gathered + 1 }
          else if b ≠ feedback r.taps k.history then empty .seeking
          else if k.run + 1 < 64 then { k with history := history, run := k.run + 1 }
          else { k with state := .locked, history := history, run := k.run + 1, unitBits := 0, unitMismatches := 0 }))
    ∧ (∀ b : Bool, k.state = .lost → (s.monitor f).lock = .locked →
      ∃ t, exec (.checkerLock f [b]) s = .next t ∧ t.errors = s.errors
        ∧ became t { empty .seeking with history := if b = true then 1#31 else 0#31, gathered := 1 })
    ∧ (∀ bits more : List Bool,
      ∃ t, exec (.checkerLock f bits) s = .next t ∧ exec (.checkerLock f (bits ++ more)) s = exec (.checkerLock f more) t)
    ∧ (k.state = .locked ∨ (k.state = .lost ∧ (s.monitor f).lock ≠ .locked) →
      ∀ bits : List Bool, exec (.checkerLock f bits) s = .next s)
    ∧ (k.state ≠ .locked → exec (.comparedUnit f) s = .next s ∧ exec (.testMismatch f) s = .next s
      ∧ ∀ n : Nat, exec (.bitMismatch f n) s = .next s)
    ∧ (k.state = .locked →
      (∃ t, exec (.comparedUnit f) s = .next t ∧ t.reportsOf s
        ∧ became t { k with
            units := min top (k.units + 1), unitBits := 0, unitMismatches := 0
            history := patternSteps r.taps (size - k.unitBits) k.history })
      ∧ (∀ n : Nat,
        let bits := (k.unitBits + n) % size
        let units := (k.unitBits + n) / size
        let mismatches := if k.unitBits + n < size then k.unitMismatches else 0
        (mismatches < 255 →
          let h := patternSteps r.taps (n + 1) k.history
          ∃ t, exec (.bitMismatch f n) s = .next t ∧ t.reportsOf s
            ∧ became t (
              if bits + 1 < size then
                { k with
                  units := min top (k.units + units), mismatched := min top (k.mismatched + 1), unitBits := bits + 1
                  unitMismatches := mismatches + 1, history := h }
              else
                { k with
                  units := min top (k.units + units + 1), mismatched := min top (k.mismatched + 1), unitBits := 0
                  unitMismatches := 0, history := h }))
        ∧ (mismatches = 255 → mismatched (.bitMismatch f n) (lost (if bits + 1 < size then units else units + 1) 1)))
      ∧ mismatched (.testMismatch f) (
          if k.unitBits + (256 - k.unitMismatches) < size then lost 0 (256 - k.unitMismatches)
          else if k.unitBits + (256 - k.unitMismatches) = size then lost 1 (256 - k.unitMismatches)
          else lost 1 (size - k.unitBits + 256)))

/-! ### Build store -/

/-- STORE ERASE, STORE WRITE and STORE LOCK (R161, R163): BUSY while an operation runs, LOCKED for a locked page, NOT
BLANK for a write to a page that is not, INVALID for a record that is out of range; otherwise an erase or a write
starts and is ACCEPTED with no page changed yet, and a lock is set at once. A record of the page's length whose every field is
in its range, as `recordFits` spells them page by page, is taken, and is kept as it came but for the position bytes of UNUSED
plan entries of a CABLE record, which become 0 (log entry 20). -/
def Obligations.StoreRequestsAreChecked : Prop :=
  ∀ (s : State) (tag : Byte) (p : PageId), s.takesRequests →
    let idle := s.store.operation = .idle
    let begun (o : StoreOperation) : State := { s with store := { s.store with operation := o } }
    (¬idle →
      exec (.storeErase tag [byte p.val]) s = .next (s.answered tag 0x69#8 [byte p.val] .busy [])
      ∧ exec (.storeLock tag [byte p.val]) s = .next (s.answered tag 0x6B#8 [byte p.val] .busy []))
    ∧ (idle →
      exec (.storeErase tag [byte p.val]) s =
        .next (if (s.page p).locked = true then s.answered tag 0x69#8 [byte p.val] .locked []
          else (begun (.erasing p)).answered tag 0x69#8 [byte p.val] .accepted [])
      ∧ exec (.storeLock tag [byte p.val]) s =
        .next ((s.modPage p (fun x => ⟨x.content, true⟩)).answered tag 0x6B#8 [byte p.val] .done []))
    ∧ ∀ record : List Byte, record.length ≤ 127 →
      let body := byte p.val :: record
      let good : Prop := lengthFits 0x6A#8 body = true ∧ recordFits body
      (¬good → exec (.storeWrite tag body) s = .next (s.answered tag 0x6A#8 body .invalid []))
      ∧ (good → ∃ kept : List Byte,
        kept.length = record.length
        ∧ (∀ k : Nat, k < record.length → kept.getD k 0#8 =
            if p = 0 ∧ 20 ≤ k ∧ k < 35 ∧ k % 2 = 0 ∧ byteAt record (k - 1) = 0xFF then 0#8 else record.getD k 0#8)
        ∧ exec (.storeWrite tag body) s =
          .next (
            if s.store.operation ≠ .idle then s.answered tag 0x6A#8 body .busy []
            else if (s.page p).locked = true then s.answered tag 0x6A#8 body .locked []
            else if (s.page p).content ≠ .blank then s.answered tag 0x6A#8 body .notBlank []
            else (begun (.writing p kept)).answered tag 0x6A#8 body .accepted []))

/-- The end of an operation (R162): a page that verifies is BLANK after an erase and WRITTEN with its record after a write;
one that does not is TORN, and STORE FAULT is reported at part scope with the page as detail; STORE DONE is raised last and
the operation is IDLE. Reports that are in flight are delivered before the STORE FAULT is taken (R126, log entry 38). The error
unit is at rest between steps. No other page and no lock changes. Whether the page verifies is the command's
operand (log entry 26), and that with the operation IDLE nothing happens is log entry 3. -/
def Obligations.StoreOperationsComplete : Prop :=
  ∀ (s : State) (p : PageId) (record : List Byte) (ok : Bool), s.tableAtRest →
    let fault : Report := ⟨.storeFault, none, none, none, none, none, s.clock.stamp, some p.val⟩
    let finished (content : PageContent) (act : StoreAct) : State :=
      let paged (x : PageContent) : State := { s with
        store := { s.store with pages := s.store.pages.set p ⟨x, (s.page p).locked⟩ } }
      let told := if ok = true then paged content else ((paged .torn).handFlight.takeReport fault).1
      { told with
        notices := told.notices.take (.storeDone s.clock.stamp p act ok)
        store := ⟨s.store.pages.set p ⟨if ok = true then content else .torn, (s.page p).locked⟩, .idle⟩ }
    (s.store.operation = .erasing p → exec (.storeOperationComplete ok) s = .next (finished .blank .erase))
    ∧ (s.store.operation = .writing p record →
      exec (.storeOperationComplete ok) s = .next (finished (.written record) .write))
    ∧ (s.store.operation = .idle → exec (.storeOperationComplete ok) s = .next s)

/-! ### The training exchange -/

/-- The expiry of a trim timer asks for a TRIM of requester LEG on every face of the leg's PASSING paths that no pin closes,
each queued, merged, absorbed or put in place of a MARGIN (R88), and the timer starts again (R35). An engine that is IDLE takes
the first of them in face-index order whose face is unmasked, at its request (log entry 12), and the ROUTINE pointer moves past
it (R91, R92).
An ANNOUNCED face whose partner has not announced sends its ANNOUNCE again (R50). The commands say that their time has come
(log entry 2); that without their conditions nothing happens is log entry 3. -/
def Obligations.TrimTimersAndRepeatedAnnounces : Prop :=
  (∀ (s : State) (l : LegId),
    (isLinked (s.leg l).state = false ∨ (s.leg l).trimTimer = none → exec (.trimTimerExpiry l) s = .next s)
    ∧ (isLinked (s.leg l).state = true → (s.leg l).trimTimer.isSome = true →
      s.engine.running.isSome = true ∨ s.engineIdle →
      let asked (f : FaceId) : Bool :=
        s.onLeg l f && s.path (facePath f) == .passing && !(s.face f).pinned
          && !(s.engine.running.any (fun r => r.job.face == f && r.job.kind == .sweep && !r.cancelling))
          && (s.queued f).all (fun j => j.kind == .margin)
      let first : Option FaceId :=
        if s.engine.running.isSome = true then none
        else allFaces.find? (fun f => asked f && !setHas s.engine.mask f.val)
      ∃ t, exec (.trimTimerExpiry l) s = .next t
        ∧ t.leg l = { s.leg l with
            trimTimer := if (s.leg l).trimInterval ≥ 1 then some (1000 * (s.leg l).trimInterval) else none }
        ∧ (∀ f : FaceId, t.queued f = if asked f = true ∧ first ≠ some f then some ⟨f, .trim, .leg, 0#8⟩ else s.queued f)
        ∧ (match first with
          | none => t.engine.running = s.engine.running ∧ t.engine.routinePointer = s.engine.routinePointer
          | some f => t.engine.running = some ⟨⟨f, .trim, .leg, 0#8⟩, 0, 0, false⟩ ∧ t.engine.routinePointer = f + 1)
        ∧ t.engine.suspended = s.engine.suspended
        ∧ t.faces = s.faces ∧ t.paths = s.paths ∧ t.errors = s.errors
        ∧ ∀ k : LegId, k ≠ l → t.leg k = s.leg k))
  ∧ ∀ (s : State) (f : FaceId) (q : Place) (r : TrainRecord), s.inExchange f q r →
      ((s.face f).status = .announced → setHas r.partnerAnnounced f.val = false →
        exec (.announceRepeat f) s = .next { s with sent := s.sent ++ [⟨f, .announce q.pos (s.leg q.leg).currentWidth
          (if isCFace f = true then r.offered else (((s.leg q.leg).agreedRate).map rateAlone).getD 0#3) r.attempt⟩] })
      ∧ ((s.face f).status ≠ .announced ∨ setHas r.partnerAnnounced f.val = true →
        exec (.announceRepeat f) s = .next s)

/-- R48: a word with a bad check, a word with a reserved encoding or a reserved field that is not 0 (R178, R179), a word on a
path that is not TRAINING, and an ANNOUNCE, ADJUST or READY on an IDLE face change nothing. What the part's own transmitters
send follows from the state: nothing on an UNMAPPED, PARKED or BENCHED path, whose circuits are powered down, the training
signal on a TRAINING one (R49), the traffic of the other face on a PASSING one and on a TESTING face without a generator, and
the pattern on one with a generator (R150), whose symbols of one microsecond are given (log entry 8); the C-face circuit of a
cable lane does what its path's C-face does, and one whose lane no path names is powered down and quiet (R1, R2). -/
def Obligations.WordsOutsideAnExchangeAreDiscarded : Prop :=
  (∀ (s : State) (f : FaceId) (x : RawWord),
    let b1 := x.b1.toNat
    let b2 := x.b2.toNat
    (x.check ≠ crc8 [1#8, x.b1, x.b2] ∨ 128 ≤ b1 ∨ b1 / 4 % 4 = 3 ∨ 8 ≤ b2 → exec (.partnerAnnounce f x) s = .next s)
    ∧ (x.check ≠ crc8 [2#8, x.b1, x.b2] ∨ 2 ≤ b1 ∨ 2 ≤ b2 → exec (.partnerAdjust f x) s = .next s)
    ∧ (x.check ≠ crc8 [4#8, x.b1, x.b2] ∨ b1 ≠ 0 ∨ b2 ≠ 0 → exec (.partnerReady f x) s = .next s)
    ∧ (x.check ≠ crc8 [5#8, x.b1, x.b2] ∨ 2 ≤ b1 ∨ b2 ≠ 0 → exec (.partnerAbort f x) s = .next s)
    ∧ (s.path (facePath f) ≠ .training →
      exec (.partnerAnnounce f x) s = .next s ∧ exec (.partnerAdjust f x) s = .next s
      ∧ exec (.partnerReady f x) s = .next s ∧ exec (.partnerAbort f x) s = .next s)
    ∧ ((s.face f).status = .idle →
      exec (.partnerAnnounce f x) s = .next s ∧ exec (.partnerAdjust f x) s = .next s
      ∧ exec (.partnerReady f x) s = .next s))
  ∧ (∀ (s : State) (f : FaceId),
    let rate := (s.faceLeg f).bind (fun l => (s.leg l).agreedRate)
    let other := if isCFace f = true then sFace (facePath f) else cFace (facePath f)
    (s.path (facePath f) ∈ [PathState.unmapped, .parked, .benched] →
      s.transmits f = .quiet ∧ s.powered f = false ∧ s.circuitSet f = none)
    ∧ (s.path (facePath f) ∈ [PathState.training, .passing, .testing] →
      s.powered f = true ∧ s.circuitSet f = some (s.face f).active)
    ∧ (s.path (facePath f) = .training →
      ((s.face f).status = .idle → s.transmits f = .training (some .r25) false)
      ∧ ((s.face f).status = .announced → s.transmits f = .training (some .r25) true)
      ∧ ((s.face f).status = .tuning ∨ (s.face f).status = .ready → s.transmits f = .training rate true))
    ∧ (s.path (facePath f) = .passing ∨ (s.path (facePath f) = .testing ∧ s.generators[f] = none) →
      s.transmits f = .traffic other rate)
    ∧ ∀ (l : LegId) (r : TestRecord) (k : Rate) (v : Stages), s.path (facePath f) = .testing → s.generators[f] = some v →
        s.faceLeg f = some l → s.test l = some r → rate = some k →
        s.transmits f = .pattern rate (symbolsOf k (patternBits r.taps (bitsPerMicrosecond k) v)))
  ∧ ∀ (s : State) (c : Lane),
      ((∀ p : PathId, s.map[p] ≠ some c) →
        s.laneTransmits c = .quiet ∧ s.lanePowered c = false ∧ s.laneSet c = none)
      ∧ ∀ p : PathId, s.mapSound → s.map[p] = some c →
          s.laneTransmits c = s.transmits (cFace p) ∧ s.lanePowered c = s.powered (cFace p)
          ∧ s.laneSet c = s.circuitSet (cFace p)

/-- A good partner ANNOUNCE word (R178). -/
def Sys2Proof.Machine.announceWordOf (pos : Pos) (width : Fin 3) (rates : RateSet) (attempt : Fin 8) : RawWord :=
  let b1 := byte (pos.val + 4 * width.val + 16 * rates.toNat)
  ⟨b1, byte attempt.val, crc8 [1#8, b1, byte attempt.val]⟩

/-- A partner ANNOUNCE taken in an exchange (R51, R52, R54, R55): with another attempt number it
is stale; as a repeat it is answered by the part's ANNOUNCE; the first of a C-face before the last of the group is recorded
and answered; the last one whose rate sets have a class in common with the offer fixes the highest such class and sends every
group C-face to TUNING, unlocked and with a SWEEP asked for; and on an S-face whose partner offers the agreed rate the face goes
to TUNING alone. The SWEEPs wait while the engine runs a job. An engine that is IDLE takes the first one in face-index order
on an unmasked face at its request (R91, log entry 12), and the URGENT pointer moves past it (R92); no face of the leg is
pinned in that case. -/
def Obligations.AnnouncesAreTaken : Prop :=
  ∀ (s : State) (f : FaceId) (q : Place) (r : TrainRecord) (pos : Pos) (width : Fin 3)
    (rates : RateSet) (attempt : Fin 8),
    s.inExchange f q r → (s.face f).status ≠ .idle →
    s.engine.running.isSome = true
      ∨ (s.engineIdle ∧ ∀ g : FaceId, s.onLeg q.leg g = true → (s.face g).pinned = false) →
    let i := Instr.partnerAnnounce f (announceWordOf pos width rates attempt)
    let l := q.leg
    let own : SentWord := ⟨f, .announce q.pos (s.leg l).currentWidth
      (if isCFace f = true then r.offered else (((s.leg l).agreedRate).map rateAlone).getD 0#3) r.attempt⟩
    let current := attempt.val = 0 ∨ attempt.val = r.attempt
    let heard : TrainRecord := { r with
      partnerAnnounced := setAdd r.partnerAnnounced f.val
      partnerRates := if isCFace f = true then r.partnerRates.set (facePath f) (some rates) else r.partnerRates }
    let tuned (t : State) (fs : FaceId → Bool) : Prop :=
      let first : Option FaceId :=
        if s.engine.running.isSome = true then none else allFaces.find? (fun g => fs g && !setHas s.engine.mask g.val)
      (∀ g : FaceId, fs g = true → (t.face g).status = .tuning ∧ (t.monitor g).lock = .unlocked
        ∧ (if first = some g then t.queued g = none else ∃ j : Job, t.queued g = some j ∧ j.kind = .sweep))
      ∧ (∀ g : FaceId, fs g = false → t.face g = s.face g ∧ t.monitor g = s.monitor g ∧ t.queued g = s.queued g)
      ∧ (match first with
        | none => t.engine.running = s.engine.running ∧ t.engine.urgentPointer = s.engine.urgentPointer
        | some g => t.engine.running = some ⟨⟨g, .sweep, .leg, 0#8⟩, 0, 0, false⟩ ∧ t.engine.urgentPointer = g + 1)
      ∧ (∃ rec : TrainRecord, (t.leg l).record = some rec
          ∧ rec.partnerAnnounced = heard.partnerAnnounced ∧ rec.partnerRates = heard.partnerRates
          ∧ rec.phase = r.phase ∧ rec.readySent = r.readySent ∧ rec.readyReceived = r.readyReceived
          ∧ ∀ g : FaceId, setHas rec.sweepOutstanding g.val = (fs g || setHas r.sweepOutstanding g.val))
      ∧ t.paths = s.paths ∧ t.errors = s.errors ∧ (t.leg l).state = .training ∧ t.sent = s.sent ++ [own]
      ∧ ∀ k : LegId, k ≠ l → t.leg k = s.leg k
    (¬current → exec i s = .next s)
    ∧ (current → setHas r.partnerAnnounced f.val = true → exec i s = .next { s with sent := s.sent ++ [own] })
    ∧ (current → setHas r.partnerAnnounced f.val = false → pos = q.pos → isCFace f = true →
      (∃ (p : PathId) (x : Place), s.inGroup p x ∧ x.leg = l ∧ p ≠ facePath f
        ∧ setHas r.partnerAnnounced (cFace p).val = false) →
      exec i s = .next { s.modLeg l (fun x => { x with record := some heard }) with sent := s.sent ++ [own] })
    ∧ (current → setHas r.partnerAnnounced f.val = false → pos = q.pos → isCFace f = true →
      (∀ (p : PathId) (x : Place), s.inGroup p x → x.leg = l → p ≠ facePath f →
        setHas r.partnerAnnounced (cFace p).val = true) →
      ∀ rate : Rate, s.commonRate l r (facePath f) rates (rateIndex rate) →
        (∀ k : Nat, rateIndex rate < k → k < 3 → ¬s.commonRate l r (facePath f) rates k) →
        ∃ t, exec i s = .next t ∧ (t.leg l).agreedRate = some rate
          ∧ tuned t (s.chosen l .c))
    ∧ (current → setHas r.partnerAnnounced f.val = false → pos = q.pos → isCFace f = false →
      ∀ rate : Rate, (s.leg l).agreedRate = some rate → setHas rates (rateIndex rate) = true →
        ∃ t, exec i s = .next t ∧ (t.leg l).agreedRate = some rate ∧ tuned t (fun g => g == f))

/-- R56: a partner ADJUST moves one TX tap of the active set by one step, unless the face is pinned or the step is out of
range; the part answers with the outcome and with PRE and POST as they then stand; nothing else changes. -/
def Obligations.AdjustMovesATapAndIsAnswered : Prop :=
  ∀ (s : State) (f : FaceId) (q : Place) (r : TrainRecord) (post up : Bool),
    s.inExchange f q r → (s.face f).status ≠ .idle →
    let b1 : Byte := boolByte post
    let b2 : Byte := boolByte (!up)
    let tx := (s.face f).active.tx
    let moved : TxHalf :=
      if post = true then ⟨tx.pre, if up = true then tx.post + 1 else tx.post - 1⟩
      else ⟨if up = true then tx.pre + 1 else tx.pre - 1, tx.post⟩
    let out : Bool :=
      if up = true then
        (if post = true then decide (14 < tx.post + 1) else decide (10 < tx.pre + 1))
          || decide (24 < tx.pre + tx.post + 1)
      else decide ((if post = true then tx.post else tx.pre) = 0)
    let outcome : AnswerOutcome := if (s.face f).pinned = true then .pinned else if out = true then .atLimit else .applied
    let after : TxHalf := if outcome = .applied then moved else tx
    exec (.partnerAdjust f ⟨b1, b2, crc8 [2#8, b1, b2]⟩) s =
      .next { s.modFace f (fun x => { x with active := ⟨after, x.active.rx⟩ }) with
        sent := s.sent ++ [⟨f, .answer outcome after.pre after.post⟩] }
    ∧ after.main = 48 - after.pre - after.post

/-- A partner READY taken in an exchange (R59, R60): as a repeat it is answered and changes nothing; before the part's
own it is kept; after it the part answers and the face becomes READY. The last C-face that becomes READY starts the S
phase, in which every group S-face is ANNOUNCED with the agreed rate alone; the last S-face makes the attempt a
success: the group PASSING, the leg ACTIVE at its configured width and DEGRADED, with WIDTH REDUCED reported, below
it, or waiting behind reports that are in flight (R126, log entry 38). That the LEG STATE notice follows the one WIDTH
REDUCED may cause is log entry 13. -/
def Obligations.ReadyWordsMoveTheAttempt : Prop :=
  ∀ (s : State) (f : FaceId) (q : Place) (r : TrainRecord), s.tableAtRest → s.mapSound →
    s.inExchange f q r → (s.face f).status ≠ .idle →
    let l := q.leg
    let i := Instr.partnerReady f ⟨0#8, 0#8, crc8 [4#8, 0#8, 0#8]⟩
    let heard : TrainRecord := { r with readyReceived := setAdd r.readyReceived f.val }
    ((s.face f).status = .ready ∨ setHas r.readyReceived f.val = true →
      exec i s = .next { s with sent := s.sent ++ [⟨f, .ready⟩] })
    ∧ ((s.face f).status ≠ .ready → setHas r.readyReceived f.val = false → setHas r.readySent f.val = false →
      exec i s = .next (s.modLeg l (fun x => { x with record := some heard })))
    ∧ ((s.face f).status ≠ .ready → setHas r.readyReceived f.val = false → setHas r.readySent f.val = true →
      isCFace f = decide (r.phase = .c) → s.becomesReady l f heard id (exec i s))

/-- What ends an attempt (R61 to R64, R33): the training limit, with the positions of the late faces of the phase excluded
where some face of the phase is READY; a partner ABORT on a face of any status, with nothing excluded; a partner's position
that is not the path's, a SWEEP that does not converge, and a loss of signal or lock, with the face's position excluded. The
error is reported with the leg as TRAINING and its count not yet grown; where the series ends, LEG FAILED is reported after it
(R126; for a monitor's loss log entry 37). One ABORT with reason GIVE UP is sent on each group face that is not IDLE, a SWEEP
outstanding comes to owe its result (R47), the group's faces settle as their paths enter PARKED, and they are IDLE (R61); then
the next attempt sends its first ANNOUNCEs (R50), or every path of the leg is PARKED with its monitors idle (R34, R105). The jobs
of the group's faces are cancelled (R33, R96). A rate failure reports RATE
MISMATCH and ends the series in FAILED with cause RATE whatever the count (R53), after the part's own ANNOUNCE (R51). A loss that was raised before an attempt
ended and is delivered in the next one ends that one too (R65, R111, log entry 38); what waits behind it up to the next
monitor's report is not said here. An expiry ends the attempt whatever time remains (log entry 2). The SWEEP that does not
converge completes at whatever step it stands (log entry 24): the jobs of the group's faces are gone, a suspended MARGIN of
another face resumes, and without one the engine takes from what is pending on other faces, of which each job that it has
taken was unmasked and is running, or has completed at its taking because its face is pinned (R85, R91, R95). -/
def Obligations.AttemptFailuresEndTheAttempt : Prop :=
  ∀ (s : State) (l : LegId) (r : TrainRecord), s.tableAtRest → s.noSlotOn l .tallyThreshold →
    (s.leg l).state = .training → (s.leg l).record = some r →
    let ex := (s.leg l).excluded
    let error (k : ErrorKind) (f : FaceId) (detail : Option Nat) : Report := s.errorAtFace l k f detail
    let ended (t : State) : Prop :=
      s.cancelled t (s.onGroup l) ∧ ∀ g : FaceId, setHas t.resultOwed g.val = s.owesAfter l (s.onGroup l) g
    let inPhase (g : FaceId) (p : Pos) : Prop :=
      isCFace g = decide (r.phase = .c) ∧ ∃ x : Place, s.inGroup (facePath g) x ∧ x.leg = l ∧ x.pos = p
    ((s.leg l).limitTimer.isSome = true →
      ∀ late : PosSet,
        (∀ p : Pos, setHas late p.val = true ↔
          (∃ g : FaceId, inPhase g p ∧ (s.face g).status ≠ .ready)
          ∧ ∃ (g : FaceId) (p' : Pos), inPhase g p' ∧ (s.face g).status = .ready) →
        s.failsAttempt (.trainingLimitExpiry l) l (ex ||| late)
          (s.told [s.errorAtLeg l .trainTimeout .training (s.leg l).attemptCount none]) ended)
    ∧ ∀ (f : FaceId) (q : Place), s.inExchange f q r → q.leg = l →
      let faulty := ex ||| setAdd 0#4 q.pos.val
      (∀ again : Bool,
        s.failsAttempt (.partnerAbort f ⟨boolByte again, 0#8, crc8 [5#8, boolByte again, 0#8]⟩) l ex
          (s.told [error .partnerAbort f (some again.toNat)]) ended)
      ∧ (∀ (pos : Pos) (width : Fin 3) (rates : RateSet) (attempt : Fin 8),
        (s.face f).status ≠ .idle → setHas r.partnerAnnounced f.val = false →
        attempt.val = 0 ∨ attempt.val = r.attempt →
        let i := Instr.partnerAnnounce f (announceWordOf pos width rates attempt)
        let own : SentWord := ⟨f, .announce q.pos (s.leg l).currentWidth
          (if isCFace f = true then r.offered else (((s.leg l).agreedRate).map rateAlone).getD 0#3) r.attempt⟩
        let noRate : Prop := ∃ t, exec i s = .next t
          ∧ s.gaveUp t l ex .rate (s.told [s.errorAtLeg l .rateMismatch .training (s.leg l).attemptCount none])
              (s.sent ++ [own]) ∧ ended t
        (pos ≠ q.pos → s.failsAttempt i l faulty (s.told [error .positionMismatch f none]) ended)
        ∧ (pos = q.pos → isCFace f = true →
          (∀ (p : PathId) (x : Place), s.inGroup p x → x.leg = l → p ≠ facePath f →
            setHas r.partnerAnnounced (cFace p).val = true) →
          (∀ k : Nat, k < 3 → ¬s.commonRate l r (facePath f) rates k) → noRate)
        ∧ (pos = q.pos → isCFace f = false →
          ∀ rate : Rate, (s.leg l).agreedRate = some rate → setHas rates (rateIndex rate) = false → noRate))
      ∧ (∀ (run : RunningJob) (m : Fin 64), s.engine.running = some run → run.job.kind = .sweep → run.job.face = f →
        run.cancelling = false → s.lastJob → s.jobsFiled → setHas s.resultOwed f.val = false →
        setHas r.sweepOutstanding f.val = true →
        let left (g : FaceId) : Option Job := if s.onGroup l g = true then none else s.queued g
        let resumes (x : SuspendedJob) : Prop := s.engine.suspended = some x ∧ s.onGroup l x.job.face = false
        s.failsAttempt (.jobCompletion ⟨none, m⟩) l faulty (s.told [error .tuneNoConverge f none])
          (fun t =>
            t.engine.suspended = none ∧ t.engine.held = []
            ∧ (∀ g : FaceId, setHas t.resultOwed g.val = (s.owesAfter l (s.onGroup l) g && g != f))
            ∧ (∀ x : SuspendedJob, resumes x →
              (∀ g : FaceId, t.queued g = left g)
              ∧ ∃ n : Nat, t.engine.running = some ⟨x.job, n, 0, false⟩ ∧ (s.onLeg l x.job.face = false → n = x.stepsDone))
            ∧ ((∀ x : SuspendedJob, ¬resumes x) → ∀ g : FaceId,
              t.queued g = left g
              ∨ (t.queued g = none ∧ ∃ j : Job, left g = some j ∧ setHas s.engine.mask g.val = false
                ∧ (t.engine.running = some ⟨j, 0, 0, false⟩ ∨ (j.kind ≠ .margin ∧ (s.face g).pinned = true))))))
      ∧ (s.inFlight = [] → (s.monitor f).signal = .present → s.noSlotOn l .signalLost →
        s.failsAttempt (.signalLost ⟨f, .now⟩) l faulty (s.told [error .signalLost f none]) ended)
      ∧ (s.inFlight = [] → (s.monitor f).signal = .present → (s.monitor f).lock = .locked →
        s.failsAttempt (.lockLost ⟨f, .now⟩) l faulty (s.told [error .lockLost f none]) ended)
      ∧ ∀ (raised : Report) (rest : List Report), s.inFlight = raised :: rest → monitorNext rest →
          raised.face = some f → raised.leg = some l →
          let taken : State := ({ s with inFlight := rest }.takeReport raised).1
          (raised.kind = .signalLost → s.noSlotOn l .signalLost →
            s.failsAttempt (.signalLost ⟨f, .delivered⟩) l faulty taken ended)
          ∧ (raised.kind = .lockLost →
            s.failsAttempt (.lockLost ⟨f, .delivered⟩) l faulty taken ended)

/-! ### Lane monitors -/

/-- The monitor's own events (R107 to R109): a lost signal that returns is PRESENT without a report; lock is acquired with the
signal PRESENT, and a LOST checker of the face seeks again (R153); a slip is counted while LOCKED, up to 65535, and the one
that passes the window limit is reported once a window as SLIP BURST with the count as detail, at once or, on its own way to
the receivers, behind the reports raised before it (R110, log entry 38); when it is delivered, the leg controllers' reports that
wait behind it, up to the next monitor's, are taken after it in the order they were raised (R126), here where no slot could fire
on them; a report of another block, which first has all that is in flight delivered (handFlight), does with one monitor's report
what its own command does, and with a burst and the leg controllers' reports behind it takes them in order; a window's end
starts a new one with the leg's slip limit, whatever time remains of it (log entry 2). That an event without its condition does nothing is log entry 3. No event
changes a leg or a path. -/
def Obligations.MonitorsFollowTheReceiver : Prop :=
  ∀ (s : State) (f : FaceId),
    let m := s.monitor f
    ((m.signal = .lost →
      exec (.signalPresent f) s = .next (s.modMonitor f (fun x => { x with signal := .present })))
    ∧ (m.signal ≠ .lost → exec (.signalPresent f) s = .next s))
    ∧ ((m.signal = .present → m.lock = .unlocked →
      ∃ t, exec (.lockAcquired f) s = .next t ∧ t.monitor f = { m with lock := .locked }
        ∧ (∀ g : FaceId, g ≠ f → t.monitor g = s.monitor g)
        ∧ t.checkerOf f = (s.checkerOf f).map (fun k =>
            if k.state = .lost then { k with state := .seeking, history := 0#31, gathered := 0, run := 0 } else k)
        ∧ t.legs = s.legs ∧ t.paths = s.paths ∧ t.errors = s.errors ∧ t.notices = s.notices)
    ∧ (m.signal ≠ .present ∨ m.lock ≠ .unlocked → exec (.lockAcquired f) s = .next s))
    ∧ (∀ d : Delivery, d ≠ .delivered →
      (m.lock ≠ .locked → exec (.slip ⟨f, d⟩) s = .next s)
      ∧ (m.lock = .locked → m.slips ≠ m.windowLimit ∨ m.burstRaised = true →
        exec (.slip ⟨f, d⟩) s = .next (s.modMonitor f (fun x => { x with slips := min 65535 (x.slips + 1) }))))
    ∧ (∀ l : LegId, m.lock = .locked → m.slips = m.windowLimit → m.burstRaised = false → s.faceLeg f = some l →
      let count := min 65535 (m.slips + 1)
      let report := s.errorAtFace l .slipBurst f (some count)
      let counted := s.modMonitor f (fun x => { x with slips := count, burstRaised := true })
      (s.inFlight = [] → s.tableAtRest → s.noSlotOn l .tallyThreshold → s.noSlotOn l .slipBurst →
        exec (.slip ⟨f, .now⟩) s =
          .next ((s.takeReport report).1.modMonitor f (fun x => { x with slips := count, burstRaised := true })))
      ∧ (s.inFlight ≠ [] → exec (.slip ⟨f, .now⟩) s = .next { counted with inFlight := s.inFlight ++ [report] })
      ∧ exec (.slip ⟨f, .raised⟩) s = .next { counted with inFlight := s.inFlight ++ [report] })
    ∧ (∀ (raised : Report) (xs ys : List Report) (l : LegId), s.inFlight = raised :: xs ++ ys →
      raised.kind = .slipBurst → raised.face = some f → raised.leg = some l → s.tableAtRest →
      s.noSlotOn l .tallyThreshold → s.noSlotOn l .slipBurst → monitorNext ys →
      (xs = [] → exec (.slip ⟨f, .delivered⟩) s = .next { (s.takeReport raised).1 with inFlight := ys })
      ∧ ((∀ x ∈ xs, x.kind ≠ .signalLost ∧ x.kind ≠ .lockLost ∧ x.kind ≠ .slipBurst) →
        (∀ k : LegId, s.noSlotOn k .tallyThreshold) →
        let taken : State := { s.afterReports (raised :: xs) with inFlight := ys }
        exec (.slip ⟨f, .delivered⟩) s = .next taken ∧ (ys = [] → s.handFlight = taken)))
    ∧ (∀ raised : Report, s.inFlight = [raised] → raised.face = some f →
      (raised.kind = .signalLost → exec (.signalLost ⟨f, .delivered⟩) s = .next s.handFlight)
      ∧ (raised.kind = .lockLost → exec (.lockLost ⟨f, .delivered⟩) s = .next s.handFlight)
      ∧ (raised.kind = .slipBurst → exec (.slip ⟨f, .delivered⟩) s = .next s.handFlight))
    ∧ (s.inFlight = [] → s.handFlight = s)
    ∧ ((∀ (raised : Report) (rest : List Report), s.inFlight = raised :: rest →
        raised.kind ≠ .slipBurst ∨ raised.face ≠ some f) →
      exec (.slip ⟨f, .delivered⟩) s = .next s)
    ∧ (m.signal = .notWatched → exec (.slipWindowEnd f) s = .next s)
    ∧ (∀ l : LegId, m.signal ≠ .notWatched → s.faceLeg f = some l →
      exec (.slipWindowEnd f) s = .next (s.modMonitor f (fun x => { x with
        slips := 0, burstRaised := false, windowRemaining := 100, windowLimit := (s.leg l).slipLimit })))

/-- A loss of signal or lock on a PASSING path ends the link: a series with cause LOSS starts with the excluded set as it was
(R36, R111), the LEG STATE notice comes before what the error unit raises, and the error shows the leg as it stood at the
raising (R110). Where no width qualifies, the leg goes to FAILED on the one event, and the error unit takes the loss before the
LEG FAILED (R126, log entry 37). On a TESTING path a loss of signal ends the test with cause LOSS and starts the series, TEST
DONE first, and a loss of lock leaves the leg in TEST (R40) and the face's checker LOST, with an empty history (log entry 23).
A loss that is only raised changes the monitor and waits for its delivery (R110, log entry 38); that a checker of the face goes
on as it was until a SIGNAL LOST is taken, although the receiver is UNLOCKED, is the model's choice (log entry 43), and so is that the checkers of an ended test hold their history, run and unit counts as they
stood (log entry 45). That with no signal, and no lock, nothing happens is log entry 3. -/
def Obligations.LossesEndTheLink : Prop :=
  ∀ (s : State) (f : FaceId) (q : Place), s.place (facePath f) = some q → s.tableAtRest →
    let l := q.leg
    let m := s.monitor f
    let old := (s.leg l).state
    let error (k : ErrorKind) : Report := s.errorAtFace l k f none
    let unlocked (x : Checker) : Checker :=
      if x.state = .lost then x else ⟨.lost, x.units, x.mismatched, min 255 (x.losses + 1), 0#31, 0, 0, 0, 0⟩
    (∀ d : Delivery, d ≠ .delivered →
      (m.signal ≠ .present → exec (.signalLost ⟨f, d⟩) s = .next s)
      ∧ (m.signal ≠ .present ∨ m.lock ≠ .locked → exec (.lockLost ⟨f, d⟩) s = .next s))
    ∧ (m.signal = .present →
      exec (.signalLost ⟨f, .raised⟩) s =
        .next { s.modMonitor f (fun x => { x with signal := .lost, lock := .unlocked }) with
          inFlight := s.inFlight ++ [error .signalLost] }
      ∧ (m.lock = .locked →
        ∃ t, exec (.lockLost ⟨f, .raised⟩) s = .next t ∧ t.monitor f = { m with lock := .unlocked }
          ∧ t.inFlight = s.inFlight ++ [error .lockLost] ∧ t.checkerOf f = (s.checkerOf f).map unlocked
          ∧ t.legs = s.legs ∧ t.paths = s.paths ∧ t.errors = s.errors ∧ t.notices = s.notices))
    ∧ (s.inFlight = [] → s.noSlotOn l .tallyThreshold →
      let queued (first : List Notice) (c : Cause) (new : LegState) (w : Nat) : State :=
        { s with notices := (first ++ [Notice.legState s.clock.stamp l old new c w]).foldl NoticeQueue.take s.notices }
      (∀ (w : Nat) (g : PosSet),
        selectWidth (s.leg l).configuredWidth (s.leg l).minimumWidth (s.leg l).excluded = some (w, g) →
        let down (t : State) (k : ErrorKind) (first : List Notice) : Prop :=
          s.seriesBegun t l .loss w g ∧ (t.leg l).excluded = (s.leg l).excluded
          ∧ (let took := ((queued first (.train .loss) .training w).takeReport (error k)).1
             t.errors = took.errors ∧ t.notices = took.notices)
          ∧ ∀ j : LegId, j ≠ l → t.leg j = s.leg j
        (s.path (facePath f) = .passing → isLinked old = true → m.signal = .present →
          (s.noSlotOn l .signalLost → ∃ t, exec (.signalLost ⟨f, .now⟩) s = .next t ∧ down t .signalLost [])
          ∧ (m.lock = .locked → ∃ t, exec (.lockLost ⟨f, .now⟩) s = .next t ∧ down t .lockLost []))
        ∧ (∀ r : TestRecord, s.path (facePath f) = .testing → old = .test → s.test l = some r →
          r.status = .running → m.signal = .present → s.noSlotOn l .signalLost →
          ∃ t, exec (.signalLost ⟨f, .now⟩) s = .next t
            ∧ down t .signalLost [.testDone s.clock.stamp l .loss r.elapsed r.checkers]
            ∧ t.test l = some { r with status := .ended, endCause := some .loss, limitTimer := none }))
      ∧ (selectWidth (s.leg l).configuredWidth (s.leg l).minimumWidth (s.leg l).excluded = none →
        s.path (facePath f) = .passing → isLinked old = true → m.signal = .present → s.noSlotOn l .signalLost →
        ∃ t, exec (.signalLost ⟨f, .now⟩) s = .next t ∧ (t.leg l).state = .failed
          ∧ (t.leg l).failureCause = some .width ∧ (t.leg l).attemptCount = 0
          ∧ s.legParked t l ∧ t.sent = s.sent ∧ t.resultOwed = s.resultOwed
          ∧ (let took := (queued [] (.fail .width) .failed 0).afterReports
               [error .signalLost, s.errorAtLeg l .legFailed .failed 0 (some 12)]
             t.errors = took.errors ∧ t.notices = took.notices)
          ∧ ∀ j : LegId, j ≠ l → t.leg j = s.leg j)
      ∧ (s.path (facePath f) = .testing → m.signal = .present → m.lock = .locked →
        ∃ t, exec (.lockLost ⟨f, .now⟩) s = .next t ∧ t.legs = s.legs ∧ t.paths = s.paths
          ∧ t.monitor f = { m with lock := .unlocked } ∧ t.errors = (s.takeReport (error .lockLost)).1.errors
          ∧ t.checkerOf f = (s.checkerOf f).map unlocked))

/-! ### What every step keeps -/

/-- Every step keeps the notice queue within its bounds (R168), each log's next record behind a filled first one (R129), the
reaction table at rest, and the counts of every checker within their bounds (R153). -/
def Obligations.EveryStepKeepsNoticesLogsAndTable : Prop :=
  ∀ s t : State, step s = .next t →
    (s.noticesBounded → t.noticesBounded) ∧ (s.logsSound → t.logsSound) ∧ (s.tableAtRest → t.tableAtRest)
    ∧ (s.checkersBounded → t.checkersBounded)

/-- Every step keeps the map valid with the plan (R5), the UNMAPPED paths exactly those without a place (R7), the TRAINING,
PASSING and TESTING paths within the groups of legs in the states that go with them, and no group or such path on an excluded
position (R8, R12). -/
def Obligations.EveryStepKeepsMapAndPaths : Prop :=
  ∀ s t : State, step s = .next t → s.mapSound → s.pathsSound → s.excludedSound →
    t.mapSound ∧ t.pathsSound ∧ t.excludedSound

/-- Every step keeps every active and staged set valid (R69), a snapshot held exactly while the engine is SENDING (R142), a
difference of the plan in force known to change-pending (R147), the suspended job a MARGIN (R84), and each pending job filed
under its own face (R86). -/
def Obligations.EveryStepKeepsFacesFramesAndEngine : Prop :=
  ∀ s t : State, step s = .next t →
    (s.facesSound → t.facesSound) ∧ (s.frameSound → t.frameSound) ∧ (s.changesKnown → t.changesKnown)
    ∧ (s.suspendedIsMargin → t.suspendedIsMargin) ∧ (s.jobsFiled → t.jobsFiled)
end

