-- ==== Sys2Proof/Laws/State.lean ====
section
/-! SUPPORT. One lemma for each field of the state under each update, true by rfl, and the entries of tables. -/

namespace Sys2Proof.Machine

/-! ### modLeg -/

@[simp] theorem State.map_modLeg (s : State) (l : LegId) (g : Leg → Leg) : (s.modLeg l g).map = s.map := rfl
@[simp] theorem State.plan_modLeg (s : State) (l : LegId) (g : Leg → Leg) : (s.modLeg l g).plan = s.plan := rfl
@[simp] theorem State.paths_modLeg (s : State) (l : LegId) (g : Leg → Leg) : (s.modLeg l g).paths = s.paths := rfl
@[simp] theorem State.legs_modLeg (s : State) (l : LegId) (g : Leg → Leg) : (s.modLeg l g).legs = modAt s.legs l g := rfl
@[simp] theorem State.resultOwed_modLeg (s : State) (l : LegId) (g : Leg → Leg) : (s.modLeg l g).resultOwed = s.resultOwed := rfl
@[simp] theorem State.faces_modLeg (s : State) (l : LegId) (g : Leg → Leg) : (s.modLeg l g).faces = s.faces := rfl
@[simp] theorem State.monitors_modLeg (s : State) (l : LegId) (g : Leg → Leg) : (s.modLeg l g).monitors = s.monitors := rfl
@[simp] theorem State.engine_modLeg (s : State) (l : LegId) (g : Leg → Leg) : (s.modLeg l g).engine = s.engine := rfl
@[simp] theorem State.slots_modLeg (s : State) (l : LegId) (g : Leg → Leg) : (s.modLeg l g).slots = s.slots := rfl
@[simp] theorem State.table_modLeg (s : State) (l : LegId) (g : Leg → Leg) : (s.modLeg l g).table = s.table := rfl
@[simp] theorem State.inFlight_modLeg (s : State) (l : LegId) (g : Leg → Leg) : (s.modLeg l g).inFlight = s.inFlight := rfl
@[simp] theorem State.errors_modLeg (s : State) (l : LegId) (g : Leg → Leg) : (s.modLeg l g).errors = s.errors := rfl
@[simp] theorem State.wires_modLeg (s : State) (l : LegId) (g : Leg → Leg) : (s.modLeg l g).wires = s.wires := rfl
@[simp] theorem State.frame_modLeg (s : State) (l : LegId) (g : Leg → Leg) : (s.modLeg l g).frame = s.frame := rfl
@[simp] theorem State.tests_modLeg (s : State) (l : LegId) (g : Leg → Leg) : (s.modLeg l g).tests = s.tests := rfl
@[simp] theorem State.generators_modLeg (s : State) (l : LegId) (g : Leg → Leg) : (s.modLeg l g).generators = s.generators := rfl
@[simp] theorem State.store_modLeg (s : State) (l : LegId) (g : Leg → Leg) : (s.modLeg l g).store = s.store := rfl
@[simp] theorem State.image_modLeg (s : State) (l : LegId) (g : Leg → Leg) : (s.modLeg l g).image = s.image := rfl
@[simp] theorem State.port_modLeg (s : State) (l : LegId) (g : Leg → Leg) : (s.modLeg l g).port = s.port := rfl
@[simp] theorem State.bus_modLeg (s : State) (l : LegId) (g : Leg → Leg) : (s.modLeg l g).bus = s.bus := rfl
@[simp] theorem State.notices_modLeg (s : State) (l : LegId) (g : Leg → Leg) : (s.modLeg l g).notices = s.notices := rfl
@[simp] theorem State.clock_modLeg (s : State) (l : LegId) (g : Leg → Leg) : (s.modLeg l g).clock = s.clock := rfl
@[simp] theorem State.addrPins_modLeg (s : State) (l : LegId) (g : Leg → Leg) : (s.modLeg l g).addrPins = s.addrPins := rfl
@[simp] theorem State.sent_modLeg (s : State) (l : LegId) (g : Leg → Leg) : (s.modLeg l g).sent = s.sent := rfl
@[simp] theorem State.readData_modLeg (s : State) (l : LegId) (g : Leg → Leg) : (s.modLeg l g).readData = s.readData := rfl
@[simp] theorem State.freeCount_modLeg (s : State) (l : LegId) (g : Leg → Leg) : (s.modLeg l g).freeCount = s.freeCount := rfl
@[simp] theorem State.pending_modLeg (s : State) (l : LegId) (g : Leg → Leg) : (s.modLeg l g).pending = s.pending := rfl

/-! ### modFace -/

@[simp] theorem State.map_modFace (s : State) (f : FaceId) (g : Face → Face) : (s.modFace f g).map = s.map := rfl
@[simp] theorem State.plan_modFace (s : State) (f : FaceId) (g : Face → Face) : (s.modFace f g).plan = s.plan := rfl
@[simp] theorem State.paths_modFace (s : State) (f : FaceId) (g : Face → Face) : (s.modFace f g).paths = s.paths := rfl
@[simp] theorem State.legs_modFace (s : State) (f : FaceId) (g : Face → Face) : (s.modFace f g).legs = s.legs := rfl
@[simp] theorem State.resultOwed_modFace (s : State) (f : FaceId) (g : Face → Face) : (s.modFace f g).resultOwed = s.resultOwed := rfl
@[simp] theorem State.faces_modFace (s : State) (f : FaceId) (g : Face → Face) : (s.modFace f g).faces = modAt s.faces f g := rfl
@[simp] theorem State.monitors_modFace (s : State) (f : FaceId) (g : Face → Face) : (s.modFace f g).monitors = s.monitors := rfl
@[simp] theorem State.engine_modFace (s : State) (f : FaceId) (g : Face → Face) : (s.modFace f g).engine = s.engine := rfl
@[simp] theorem State.slots_modFace (s : State) (f : FaceId) (g : Face → Face) : (s.modFace f g).slots = s.slots := rfl
@[simp] theorem State.table_modFace (s : State) (f : FaceId) (g : Face → Face) : (s.modFace f g).table = s.table := rfl
@[simp] theorem State.inFlight_modFace (s : State) (f : FaceId) (g : Face → Face) : (s.modFace f g).inFlight = s.inFlight := rfl
@[simp] theorem State.errors_modFace (s : State) (f : FaceId) (g : Face → Face) : (s.modFace f g).errors = s.errors := rfl
@[simp] theorem State.wires_modFace (s : State) (f : FaceId) (g : Face → Face) : (s.modFace f g).wires = s.wires := rfl
@[simp] theorem State.frame_modFace (s : State) (f : FaceId) (g : Face → Face) : (s.modFace f g).frame = s.frame := rfl
@[simp] theorem State.tests_modFace (s : State) (f : FaceId) (g : Face → Face) : (s.modFace f g).tests = s.tests := rfl
@[simp] theorem State.generators_modFace (s : State) (f : FaceId) (g : Face → Face) : (s.modFace f g).generators = s.generators := rfl
@[simp] theorem State.store_modFace (s : State) (f : FaceId) (g : Face → Face) : (s.modFace f g).store = s.store := rfl
@[simp] theorem State.image_modFace (s : State) (f : FaceId) (g : Face → Face) : (s.modFace f g).image = s.image := rfl
@[simp] theorem State.port_modFace (s : State) (f : FaceId) (g : Face → Face) : (s.modFace f g).port = s.port := rfl
@[simp] theorem State.bus_modFace (s : State) (f : FaceId) (g : Face → Face) : (s.modFace f g).bus = s.bus := rfl
@[simp] theorem State.notices_modFace (s : State) (f : FaceId) (g : Face → Face) : (s.modFace f g).notices = s.notices := rfl
@[simp] theorem State.clock_modFace (s : State) (f : FaceId) (g : Face → Face) : (s.modFace f g).clock = s.clock := rfl
@[simp] theorem State.addrPins_modFace (s : State) (f : FaceId) (g : Face → Face) : (s.modFace f g).addrPins = s.addrPins := rfl
@[simp] theorem State.sent_modFace (s : State) (f : FaceId) (g : Face → Face) : (s.modFace f g).sent = s.sent := rfl
@[simp] theorem State.readData_modFace (s : State) (f : FaceId) (g : Face → Face) : (s.modFace f g).readData = s.readData := rfl
@[simp] theorem State.freeCount_modFace (s : State) (f : FaceId) (g : Face → Face) : (s.modFace f g).freeCount = s.freeCount := rfl
@[simp] theorem State.pending_modFace (s : State) (f : FaceId) (g : Face → Face) : (s.modFace f g).pending = s.pending := rfl

/-! ### modMonitor -/

@[simp] theorem State.map_modMonitor (s : State) (f : FaceId) (g : Monitor → Monitor) : (s.modMonitor f g).map = s.map := rfl
@[simp] theorem State.plan_modMonitor (s : State) (f : FaceId) (g : Monitor → Monitor) : (s.modMonitor f g).plan = s.plan := rfl
@[simp] theorem State.paths_modMonitor (s : State) (f : FaceId) (g : Monitor → Monitor) : (s.modMonitor f g).paths = s.paths := rfl
@[simp] theorem State.legs_modMonitor (s : State) (f : FaceId) (g : Monitor → Monitor) : (s.modMonitor f g).legs = s.legs := rfl
@[simp] theorem State.resultOwed_modMonitor (s : State) (f : FaceId) (g : Monitor → Monitor) : (s.modMonitor f g).resultOwed = s.resultOwed := rfl
@[simp] theorem State.faces_modMonitor (s : State) (f : FaceId) (g : Monitor → Monitor) : (s.modMonitor f g).faces = s.faces := rfl
@[simp] theorem State.monitors_modMonitor (s : State) (f : FaceId) (g : Monitor → Monitor) : (s.modMonitor f g).monitors = modAt s.monitors f g := rfl
@[simp] theorem State.engine_modMonitor (s : State) (f : FaceId) (g : Monitor → Monitor) : (s.modMonitor f g).engine = s.engine := rfl
@[simp] theorem State.slots_modMonitor (s : State) (f : FaceId) (g : Monitor → Monitor) : (s.modMonitor f g).slots = s.slots := rfl
@[simp] theorem State.table_modMonitor (s : State) (f : FaceId) (g : Monitor → Monitor) : (s.modMonitor f g).table = s.table := rfl
@[simp] theorem State.inFlight_modMonitor (s : State) (f : FaceId) (g : Monitor → Monitor) : (s.modMonitor f g).inFlight = s.inFlight := rfl
@[simp] theorem State.errors_modMonitor (s : State) (f : FaceId) (g : Monitor → Monitor) : (s.modMonitor f g).errors = s.errors := rfl
@[simp] theorem State.wires_modMonitor (s : State) (f : FaceId) (g : Monitor → Monitor) : (s.modMonitor f g).wires = s.wires := rfl
@[simp] theorem State.frame_modMonitor (s : State) (f : FaceId) (g : Monitor → Monitor) : (s.modMonitor f g).frame = s.frame := rfl
@[simp] theorem State.tests_modMonitor (s : State) (f : FaceId) (g : Monitor → Monitor) : (s.modMonitor f g).tests = s.tests := rfl
@[simp] theorem State.generators_modMonitor (s : State) (f : FaceId) (g : Monitor → Monitor) : (s.modMonitor f g).generators = s.generators := rfl
@[simp] theorem State.store_modMonitor (s : State) (f : FaceId) (g : Monitor → Monitor) : (s.modMonitor f g).store = s.store := rfl
@[simp] theorem State.image_modMonitor (s : State) (f : FaceId) (g : Monitor → Monitor) : (s.modMonitor f g).image = s.image := rfl
@[simp] theorem State.port_modMonitor (s : State) (f : FaceId) (g : Monitor → Monitor) : (s.modMonitor f g).port = s.port := rfl
@[simp] theorem State.bus_modMonitor (s : State) (f : FaceId) (g : Monitor → Monitor) : (s.modMonitor f g).bus = s.bus := rfl
@[simp] theorem State.notices_modMonitor (s : State) (f : FaceId) (g : Monitor → Monitor) : (s.modMonitor f g).notices = s.notices := rfl
@[simp] theorem State.clock_modMonitor (s : State) (f : FaceId) (g : Monitor → Monitor) : (s.modMonitor f g).clock = s.clock := rfl
@[simp] theorem State.addrPins_modMonitor (s : State) (f : FaceId) (g : Monitor → Monitor) : (s.modMonitor f g).addrPins = s.addrPins := rfl
@[simp] theorem State.sent_modMonitor (s : State) (f : FaceId) (g : Monitor → Monitor) : (s.modMonitor f g).sent = s.sent := rfl
@[simp] theorem State.readData_modMonitor (s : State) (f : FaceId) (g : Monitor → Monitor) : (s.modMonitor f g).readData = s.readData := rfl
@[simp] theorem State.freeCount_modMonitor (s : State) (f : FaceId) (g : Monitor → Monitor) : (s.modMonitor f g).freeCount = s.freeCount := rfl
@[simp] theorem State.pending_modMonitor (s : State) (f : FaceId) (g : Monitor → Monitor) : (s.modMonitor f g).pending = s.pending := rfl

/-! ### setPathState -/

@[simp] theorem State.map_setPathState (s : State) (p : PathId) (st : PathState) : (s.setPathState p st).map = s.map := rfl
@[simp] theorem State.plan_setPathState (s : State) (p : PathId) (st : PathState) : (s.setPathState p st).plan = s.plan := rfl
@[simp] theorem State.paths_setPathState (s : State) (p : PathId) (st : PathState) : (s.setPathState p st).paths = modAt s.paths p (fun _ => st) := rfl
@[simp] theorem State.legs_setPathState (s : State) (p : PathId) (st : PathState) : (s.setPathState p st).legs = s.legs := rfl
@[simp] theorem State.resultOwed_setPathState (s : State) (p : PathId) (st : PathState) : (s.setPathState p st).resultOwed = s.resultOwed := rfl
@[simp] theorem State.faces_setPathState (s : State) (p : PathId) (st : PathState) : (s.setPathState p st).faces = s.faces := rfl
@[simp] theorem State.monitors_setPathState (s : State) (p : PathId) (st : PathState) : (s.setPathState p st).monitors = s.monitors := rfl
@[simp] theorem State.engine_setPathState (s : State) (p : PathId) (st : PathState) : (s.setPathState p st).engine = s.engine := rfl
@[simp] theorem State.slots_setPathState (s : State) (p : PathId) (st : PathState) : (s.setPathState p st).slots = s.slots := rfl
@[simp] theorem State.table_setPathState (s : State) (p : PathId) (st : PathState) : (s.setPathState p st).table = s.table := rfl
@[simp] theorem State.inFlight_setPathState (s : State) (p : PathId) (st : PathState) : (s.setPathState p st).inFlight = s.inFlight := rfl
@[simp] theorem State.errors_setPathState (s : State) (p : PathId) (st : PathState) : (s.setPathState p st).errors = s.errors := rfl
@[simp] theorem State.wires_setPathState (s : State) (p : PathId) (st : PathState) : (s.setPathState p st).wires = s.wires := rfl
@[simp] theorem State.frame_setPathState (s : State) (p : PathId) (st : PathState) : (s.setPathState p st).frame = s.frame := rfl
@[simp] theorem State.tests_setPathState (s : State) (p : PathId) (st : PathState) : (s.setPathState p st).tests = s.tests := rfl
@[simp] theorem State.generators_setPathState (s : State) (p : PathId) (st : PathState) : (s.setPathState p st).generators = s.generators := rfl
@[simp] theorem State.store_setPathState (s : State) (p : PathId) (st : PathState) : (s.setPathState p st).store = s.store := rfl
@[simp] theorem State.image_setPathState (s : State) (p : PathId) (st : PathState) : (s.setPathState p st).image = s.image := rfl
@[simp] theorem State.port_setPathState (s : State) (p : PathId) (st : PathState) : (s.setPathState p st).port = s.port := rfl
@[simp] theorem State.bus_setPathState (s : State) (p : PathId) (st : PathState) : (s.setPathState p st).bus = s.bus := rfl
@[simp] theorem State.notices_setPathState (s : State) (p : PathId) (st : PathState) : (s.setPathState p st).notices = s.notices := rfl
@[simp] theorem State.clock_setPathState (s : State) (p : PathId) (st : PathState) : (s.setPathState p st).clock = s.clock := rfl
@[simp] theorem State.addrPins_setPathState (s : State) (p : PathId) (st : PathState) : (s.setPathState p st).addrPins = s.addrPins := rfl
@[simp] theorem State.sent_setPathState (s : State) (p : PathId) (st : PathState) : (s.setPathState p st).sent = s.sent := rfl
@[simp] theorem State.readData_setPathState (s : State) (p : PathId) (st : PathState) : (s.setPathState p st).readData = s.readData := rfl
@[simp] theorem State.freeCount_setPathState (s : State) (p : PathId) (st : PathState) : (s.setPathState p st).freeCount = s.freeCount := rfl
@[simp] theorem State.pending_setPathState (s : State) (p : PathId) (st : PathState) : (s.setPathState p st).pending = s.pending := rfl

/-! ### modWires -/

@[simp] theorem State.map_modWires (s : State) (l : LegId) (g : LegWires → LegWires) : (s.modWires l g).map = s.map := rfl
@[simp] theorem State.plan_modWires (s : State) (l : LegId) (g : LegWires → LegWires) : (s.modWires l g).plan = s.plan := rfl
@[simp] theorem State.paths_modWires (s : State) (l : LegId) (g : LegWires → LegWires) : (s.modWires l g).paths = s.paths := rfl
@[simp] theorem State.legs_modWires (s : State) (l : LegId) (g : LegWires → LegWires) : (s.modWires l g).legs = s.legs := rfl
@[simp] theorem State.resultOwed_modWires (s : State) (l : LegId) (g : LegWires → LegWires) : (s.modWires l g).resultOwed = s.resultOwed := rfl
@[simp] theorem State.faces_modWires (s : State) (l : LegId) (g : LegWires → LegWires) : (s.modWires l g).faces = s.faces := rfl
@[simp] theorem State.monitors_modWires (s : State) (l : LegId) (g : LegWires → LegWires) : (s.modWires l g).monitors = s.monitors := rfl
@[simp] theorem State.engine_modWires (s : State) (l : LegId) (g : LegWires → LegWires) : (s.modWires l g).engine = s.engine := rfl
@[simp] theorem State.slots_modWires (s : State) (l : LegId) (g : LegWires → LegWires) : (s.modWires l g).slots = s.slots := rfl
@[simp] theorem State.table_modWires (s : State) (l : LegId) (g : LegWires → LegWires) : (s.modWires l g).table = s.table := rfl
@[simp] theorem State.inFlight_modWires (s : State) (l : LegId) (g : LegWires → LegWires) : (s.modWires l g).inFlight = s.inFlight := rfl
@[simp] theorem State.errors_modWires (s : State) (l : LegId) (g : LegWires → LegWires) : (s.modWires l g).errors = s.errors := rfl
@[simp] theorem State.wires_modWires (s : State) (l : LegId) (g : LegWires → LegWires) : (s.modWires l g).wires = modAt s.wires l g := rfl
@[simp] theorem State.frame_modWires (s : State) (l : LegId) (g : LegWires → LegWires) : (s.modWires l g).frame = s.frame := rfl
@[simp] theorem State.tests_modWires (s : State) (l : LegId) (g : LegWires → LegWires) : (s.modWires l g).tests = s.tests := rfl
@[simp] theorem State.generators_modWires (s : State) (l : LegId) (g : LegWires → LegWires) : (s.modWires l g).generators = s.generators := rfl
@[simp] theorem State.store_modWires (s : State) (l : LegId) (g : LegWires → LegWires) : (s.modWires l g).store = s.store := rfl
@[simp] theorem State.image_modWires (s : State) (l : LegId) (g : LegWires → LegWires) : (s.modWires l g).image = s.image := rfl
@[simp] theorem State.port_modWires (s : State) (l : LegId) (g : LegWires → LegWires) : (s.modWires l g).port = s.port := rfl
@[simp] theorem State.bus_modWires (s : State) (l : LegId) (g : LegWires → LegWires) : (s.modWires l g).bus = s.bus := rfl
@[simp] theorem State.notices_modWires (s : State) (l : LegId) (g : LegWires → LegWires) : (s.modWires l g).notices = s.notices := rfl
@[simp] theorem State.clock_modWires (s : State) (l : LegId) (g : LegWires → LegWires) : (s.modWires l g).clock = s.clock := rfl
@[simp] theorem State.addrPins_modWires (s : State) (l : LegId) (g : LegWires → LegWires) : (s.modWires l g).addrPins = s.addrPins := rfl
@[simp] theorem State.sent_modWires (s : State) (l : LegId) (g : LegWires → LegWires) : (s.modWires l g).sent = s.sent := rfl
@[simp] theorem State.readData_modWires (s : State) (l : LegId) (g : LegWires → LegWires) : (s.modWires l g).readData = s.readData := rfl
@[simp] theorem State.freeCount_modWires (s : State) (l : LegId) (g : LegWires → LegWires) : (s.modWires l g).freeCount = s.freeCount := rfl
@[simp] theorem State.pending_modWires (s : State) (l : LegId) (g : LegWires → LegWires) : (s.modWires l g).pending = s.pending := rfl

/-! ### setTest -/

@[simp] theorem State.map_setTest (s : State) (l : LegId) (t : Option TestRecord) : (s.setTest l t).map = s.map := rfl
@[simp] theorem State.plan_setTest (s : State) (l : LegId) (t : Option TestRecord) : (s.setTest l t).plan = s.plan := rfl
@[simp] theorem State.paths_setTest (s : State) (l : LegId) (t : Option TestRecord) : (s.setTest l t).paths = s.paths := rfl
@[simp] theorem State.legs_setTest (s : State) (l : LegId) (t : Option TestRecord) : (s.setTest l t).legs = s.legs := rfl
@[simp] theorem State.resultOwed_setTest (s : State) (l : LegId) (t : Option TestRecord) : (s.setTest l t).resultOwed = s.resultOwed := rfl
@[simp] theorem State.faces_setTest (s : State) (l : LegId) (t : Option TestRecord) : (s.setTest l t).faces = s.faces := rfl
@[simp] theorem State.monitors_setTest (s : State) (l : LegId) (t : Option TestRecord) : (s.setTest l t).monitors = s.monitors := rfl
@[simp] theorem State.engine_setTest (s : State) (l : LegId) (t : Option TestRecord) : (s.setTest l t).engine = s.engine := rfl
@[simp] theorem State.slots_setTest (s : State) (l : LegId) (t : Option TestRecord) : (s.setTest l t).slots = s.slots := rfl
@[simp] theorem State.table_setTest (s : State) (l : LegId) (t : Option TestRecord) : (s.setTest l t).table = s.table := rfl
@[simp] theorem State.inFlight_setTest (s : State) (l : LegId) (t : Option TestRecord) : (s.setTest l t).inFlight = s.inFlight := rfl
@[simp] theorem State.errors_setTest (s : State) (l : LegId) (t : Option TestRecord) : (s.setTest l t).errors = s.errors := rfl
@[simp] theorem State.wires_setTest (s : State) (l : LegId) (t : Option TestRecord) : (s.setTest l t).wires = s.wires := rfl
@[simp] theorem State.frame_setTest (s : State) (l : LegId) (t : Option TestRecord) : (s.setTest l t).frame = s.frame := rfl
@[simp] theorem State.tests_setTest (s : State) (l : LegId) (t : Option TestRecord) : (s.setTest l t).tests = modAt s.tests l (fun _ => t) := rfl
@[simp] theorem State.generators_setTest (s : State) (l : LegId) (t : Option TestRecord) : (s.setTest l t).generators = s.generators := rfl
@[simp] theorem State.store_setTest (s : State) (l : LegId) (t : Option TestRecord) : (s.setTest l t).store = s.store := rfl
@[simp] theorem State.image_setTest (s : State) (l : LegId) (t : Option TestRecord) : (s.setTest l t).image = s.image := rfl
@[simp] theorem State.port_setTest (s : State) (l : LegId) (t : Option TestRecord) : (s.setTest l t).port = s.port := rfl
@[simp] theorem State.bus_setTest (s : State) (l : LegId) (t : Option TestRecord) : (s.setTest l t).bus = s.bus := rfl
@[simp] theorem State.notices_setTest (s : State) (l : LegId) (t : Option TestRecord) : (s.setTest l t).notices = s.notices := rfl
@[simp] theorem State.clock_setTest (s : State) (l : LegId) (t : Option TestRecord) : (s.setTest l t).clock = s.clock := rfl
@[simp] theorem State.addrPins_setTest (s : State) (l : LegId) (t : Option TestRecord) : (s.setTest l t).addrPins = s.addrPins := rfl
@[simp] theorem State.sent_setTest (s : State) (l : LegId) (t : Option TestRecord) : (s.setTest l t).sent = s.sent := rfl
@[simp] theorem State.readData_setTest (s : State) (l : LegId) (t : Option TestRecord) : (s.setTest l t).readData = s.readData := rfl
@[simp] theorem State.freeCount_setTest (s : State) (l : LegId) (t : Option TestRecord) : (s.setTest l t).freeCount = s.freeCount := rfl
@[simp] theorem State.pending_setTest (s : State) (l : LegId) (t : Option TestRecord) : (s.setTest l t).pending = s.pending := rfl

/-! ### setGenerator -/

@[simp] theorem State.map_setGenerator (s : State) (f : FaceId) (v : Option Stages) : (s.setGenerator f v).map = s.map := rfl
@[simp] theorem State.plan_setGenerator (s : State) (f : FaceId) (v : Option Stages) : (s.setGenerator f v).plan = s.plan := rfl
@[simp] theorem State.paths_setGenerator (s : State) (f : FaceId) (v : Option Stages) : (s.setGenerator f v).paths = s.paths := rfl
@[simp] theorem State.legs_setGenerator (s : State) (f : FaceId) (v : Option Stages) : (s.setGenerator f v).legs = s.legs := rfl
@[simp] theorem State.resultOwed_setGenerator (s : State) (f : FaceId) (v : Option Stages) : (s.setGenerator f v).resultOwed = s.resultOwed := rfl
@[simp] theorem State.faces_setGenerator (s : State) (f : FaceId) (v : Option Stages) : (s.setGenerator f v).faces = s.faces := rfl
@[simp] theorem State.monitors_setGenerator (s : State) (f : FaceId) (v : Option Stages) : (s.setGenerator f v).monitors = s.monitors := rfl
@[simp] theorem State.engine_setGenerator (s : State) (f : FaceId) (v : Option Stages) : (s.setGenerator f v).engine = s.engine := rfl
@[simp] theorem State.slots_setGenerator (s : State) (f : FaceId) (v : Option Stages) : (s.setGenerator f v).slots = s.slots := rfl
@[simp] theorem State.table_setGenerator (s : State) (f : FaceId) (v : Option Stages) : (s.setGenerator f v).table = s.table := rfl
@[simp] theorem State.inFlight_setGenerator (s : State) (f : FaceId) (v : Option Stages) : (s.setGenerator f v).inFlight = s.inFlight := rfl
@[simp] theorem State.errors_setGenerator (s : State) (f : FaceId) (v : Option Stages) : (s.setGenerator f v).errors = s.errors := rfl
@[simp] theorem State.wires_setGenerator (s : State) (f : FaceId) (v : Option Stages) : (s.setGenerator f v).wires = s.wires := rfl
@[simp] theorem State.frame_setGenerator (s : State) (f : FaceId) (v : Option Stages) : (s.setGenerator f v).frame = s.frame := rfl
@[simp] theorem State.tests_setGenerator (s : State) (f : FaceId) (v : Option Stages) : (s.setGenerator f v).tests = s.tests := rfl
@[simp] theorem State.generators_setGenerator (s : State) (f : FaceId) (v : Option Stages) : (s.setGenerator f v).generators = modAt s.generators f (fun _ => v) := rfl
@[simp] theorem State.store_setGenerator (s : State) (f : FaceId) (v : Option Stages) : (s.setGenerator f v).store = s.store := rfl
@[simp] theorem State.image_setGenerator (s : State) (f : FaceId) (v : Option Stages) : (s.setGenerator f v).image = s.image := rfl
@[simp] theorem State.port_setGenerator (s : State) (f : FaceId) (v : Option Stages) : (s.setGenerator f v).port = s.port := rfl
@[simp] theorem State.bus_setGenerator (s : State) (f : FaceId) (v : Option Stages) : (s.setGenerator f v).bus = s.bus := rfl
@[simp] theorem State.notices_setGenerator (s : State) (f : FaceId) (v : Option Stages) : (s.setGenerator f v).notices = s.notices := rfl
@[simp] theorem State.clock_setGenerator (s : State) (f : FaceId) (v : Option Stages) : (s.setGenerator f v).clock = s.clock := rfl
@[simp] theorem State.addrPins_setGenerator (s : State) (f : FaceId) (v : Option Stages) : (s.setGenerator f v).addrPins = s.addrPins := rfl
@[simp] theorem State.sent_setGenerator (s : State) (f : FaceId) (v : Option Stages) : (s.setGenerator f v).sent = s.sent := rfl
@[simp] theorem State.readData_setGenerator (s : State) (f : FaceId) (v : Option Stages) : (s.setGenerator f v).readData = s.readData := rfl
@[simp] theorem State.freeCount_setGenerator (s : State) (f : FaceId) (v : Option Stages) : (s.setGenerator f v).freeCount = s.freeCount := rfl
@[simp] theorem State.pending_setGenerator (s : State) (f : FaceId) (v : Option Stages) : (s.setGenerator f v).pending = s.pending := rfl

/-! ### modSlot -/

@[simp] theorem State.map_modSlot (s : State) (l : LegId) (j : SlotId) (g : Slot → Slot) : (s.modSlot l j g).map = s.map := rfl
@[simp] theorem State.plan_modSlot (s : State) (l : LegId) (j : SlotId) (g : Slot → Slot) : (s.modSlot l j g).plan = s.plan := rfl
@[simp] theorem State.paths_modSlot (s : State) (l : LegId) (j : SlotId) (g : Slot → Slot) : (s.modSlot l j g).paths = s.paths := rfl
@[simp] theorem State.legs_modSlot (s : State) (l : LegId) (j : SlotId) (g : Slot → Slot) : (s.modSlot l j g).legs = s.legs := rfl
@[simp] theorem State.resultOwed_modSlot (s : State) (l : LegId) (j : SlotId) (g : Slot → Slot) : (s.modSlot l j g).resultOwed = s.resultOwed := rfl
@[simp] theorem State.faces_modSlot (s : State) (l : LegId) (j : SlotId) (g : Slot → Slot) : (s.modSlot l j g).faces = s.faces := rfl
@[simp] theorem State.monitors_modSlot (s : State) (l : LegId) (j : SlotId) (g : Slot → Slot) : (s.modSlot l j g).monitors = s.monitors := rfl
@[simp] theorem State.engine_modSlot (s : State) (l : LegId) (j : SlotId) (g : Slot → Slot) : (s.modSlot l j g).engine = s.engine := rfl
@[simp] theorem State.slots_modSlot (s : State) (l : LegId) (j : SlotId) (g : Slot → Slot) : (s.modSlot l j g).slots = modAt s.slots l (fun v => modAt v j g) := rfl
@[simp] theorem State.table_modSlot (s : State) (l : LegId) (j : SlotId) (g : Slot → Slot) : (s.modSlot l j g).table = s.table := rfl
@[simp] theorem State.inFlight_modSlot (s : State) (l : LegId) (j : SlotId) (g : Slot → Slot) : (s.modSlot l j g).inFlight = s.inFlight := rfl
@[simp] theorem State.errors_modSlot (s : State) (l : LegId) (j : SlotId) (g : Slot → Slot) : (s.modSlot l j g).errors = s.errors := rfl
@[simp] theorem State.wires_modSlot (s : State) (l : LegId) (j : SlotId) (g : Slot → Slot) : (s.modSlot l j g).wires = s.wires := rfl
@[simp] theorem State.frame_modSlot (s : State) (l : LegId) (j : SlotId) (g : Slot → Slot) : (s.modSlot l j g).frame = s.frame := rfl
@[simp] theorem State.tests_modSlot (s : State) (l : LegId) (j : SlotId) (g : Slot → Slot) : (s.modSlot l j g).tests = s.tests := rfl
@[simp] theorem State.generators_modSlot (s : State) (l : LegId) (j : SlotId) (g : Slot → Slot) : (s.modSlot l j g).generators = s.generators := rfl
@[simp] theorem State.store_modSlot (s : State) (l : LegId) (j : SlotId) (g : Slot → Slot) : (s.modSlot l j g).store = s.store := rfl
@[simp] theorem State.image_modSlot (s : State) (l : LegId) (j : SlotId) (g : Slot → Slot) : (s.modSlot l j g).image = s.image := rfl
@[simp] theorem State.port_modSlot (s : State) (l : LegId) (j : SlotId) (g : Slot → Slot) : (s.modSlot l j g).port = s.port := rfl
@[simp] theorem State.bus_modSlot (s : State) (l : LegId) (j : SlotId) (g : Slot → Slot) : (s.modSlot l j g).bus = s.bus := rfl
@[simp] theorem State.notices_modSlot (s : State) (l : LegId) (j : SlotId) (g : Slot → Slot) : (s.modSlot l j g).notices = s.notices := rfl
@[simp] theorem State.clock_modSlot (s : State) (l : LegId) (j : SlotId) (g : Slot → Slot) : (s.modSlot l j g).clock = s.clock := rfl
@[simp] theorem State.addrPins_modSlot (s : State) (l : LegId) (j : SlotId) (g : Slot → Slot) : (s.modSlot l j g).addrPins = s.addrPins := rfl
@[simp] theorem State.sent_modSlot (s : State) (l : LegId) (j : SlotId) (g : Slot → Slot) : (s.modSlot l j g).sent = s.sent := rfl
@[simp] theorem State.readData_modSlot (s : State) (l : LegId) (j : SlotId) (g : Slot → Slot) : (s.modSlot l j g).readData = s.readData := rfl
@[simp] theorem State.freeCount_modSlot (s : State) (l : LegId) (j : SlotId) (g : Slot → Slot) : (s.modSlot l j g).freeCount = s.freeCount := rfl
@[simp] theorem State.pending_modSlot (s : State) (l : LegId) (j : SlotId) (g : Slot → Slot) : (s.modSlot l j g).pending = s.pending := rfl

/-! ### modTally -/

@[simp] theorem State.map_modTally (s : State) (l : LegId) (g : Tally → Tally) : (s.modTally l g).map = s.map := rfl
@[simp] theorem State.plan_modTally (s : State) (l : LegId) (g : Tally → Tally) : (s.modTally l g).plan = s.plan := rfl
@[simp] theorem State.paths_modTally (s : State) (l : LegId) (g : Tally → Tally) : (s.modTally l g).paths = s.paths := rfl
@[simp] theorem State.legs_modTally (s : State) (l : LegId) (g : Tally → Tally) : (s.modTally l g).legs = s.legs := rfl
@[simp] theorem State.resultOwed_modTally (s : State) (l : LegId) (g : Tally → Tally) : (s.modTally l g).resultOwed = s.resultOwed := rfl
@[simp] theorem State.faces_modTally (s : State) (l : LegId) (g : Tally → Tally) : (s.modTally l g).faces = s.faces := rfl
@[simp] theorem State.monitors_modTally (s : State) (l : LegId) (g : Tally → Tally) : (s.modTally l g).monitors = s.monitors := rfl
@[simp] theorem State.engine_modTally (s : State) (l : LegId) (g : Tally → Tally) : (s.modTally l g).engine = s.engine := rfl
@[simp] theorem State.slots_modTally (s : State) (l : LegId) (g : Tally → Tally) : (s.modTally l g).slots = s.slots := rfl
@[simp] theorem State.table_modTally (s : State) (l : LegId) (g : Tally → Tally) : (s.modTally l g).table = s.table := rfl
@[simp] theorem State.inFlight_modTally (s : State) (l : LegId) (g : Tally → Tally) : (s.modTally l g).inFlight = s.inFlight := rfl
@[simp] theorem State.errors_modTally (s : State) (l : LegId) (g : Tally → Tally) : (s.modTally l g).errors = { s.errors with tallies := modAt s.errors.tallies l g } := rfl
@[simp] theorem State.wires_modTally (s : State) (l : LegId) (g : Tally → Tally) : (s.modTally l g).wires = s.wires := rfl
@[simp] theorem State.frame_modTally (s : State) (l : LegId) (g : Tally → Tally) : (s.modTally l g).frame = s.frame := rfl
@[simp] theorem State.tests_modTally (s : State) (l : LegId) (g : Tally → Tally) : (s.modTally l g).tests = s.tests := rfl
@[simp] theorem State.generators_modTally (s : State) (l : LegId) (g : Tally → Tally) : (s.modTally l g).generators = s.generators := rfl
@[simp] theorem State.store_modTally (s : State) (l : LegId) (g : Tally → Tally) : (s.modTally l g).store = s.store := rfl
@[simp] theorem State.image_modTally (s : State) (l : LegId) (g : Tally → Tally) : (s.modTally l g).image = s.image := rfl
@[simp] theorem State.port_modTally (s : State) (l : LegId) (g : Tally → Tally) : (s.modTally l g).port = s.port := rfl
@[simp] theorem State.bus_modTally (s : State) (l : LegId) (g : Tally → Tally) : (s.modTally l g).bus = s.bus := rfl
@[simp] theorem State.notices_modTally (s : State) (l : LegId) (g : Tally → Tally) : (s.modTally l g).notices = s.notices := rfl
@[simp] theorem State.clock_modTally (s : State) (l : LegId) (g : Tally → Tally) : (s.modTally l g).clock = s.clock := rfl
@[simp] theorem State.addrPins_modTally (s : State) (l : LegId) (g : Tally → Tally) : (s.modTally l g).addrPins = s.addrPins := rfl
@[simp] theorem State.sent_modTally (s : State) (l : LegId) (g : Tally → Tally) : (s.modTally l g).sent = s.sent := rfl
@[simp] theorem State.readData_modTally (s : State) (l : LegId) (g : Tally → Tally) : (s.modTally l g).readData = s.readData := rfl
@[simp] theorem State.freeCount_modTally (s : State) (l : LegId) (g : Tally → Tally) : (s.modTally l g).freeCount = s.freeCount := rfl
@[simp] theorem State.pending_modTally (s : State) (l : LegId) (g : Tally → Tally) : (s.modTally l g).pending = s.pending := rfl

/-! ### modPage -/

@[simp] theorem State.map_modPage (s : State) (p : PageId) (g : Page → Page) : (s.modPage p g).map = s.map := rfl
@[simp] theorem State.plan_modPage (s : State) (p : PageId) (g : Page → Page) : (s.modPage p g).plan = s.plan := rfl
@[simp] theorem State.paths_modPage (s : State) (p : PageId) (g : Page → Page) : (s.modPage p g).paths = s.paths := rfl
@[simp] theorem State.legs_modPage (s : State) (p : PageId) (g : Page → Page) : (s.modPage p g).legs = s.legs := rfl
@[simp] theorem State.resultOwed_modPage (s : State) (p : PageId) (g : Page → Page) : (s.modPage p g).resultOwed = s.resultOwed := rfl
@[simp] theorem State.faces_modPage (s : State) (p : PageId) (g : Page → Page) : (s.modPage p g).faces = s.faces := rfl
@[simp] theorem State.monitors_modPage (s : State) (p : PageId) (g : Page → Page) : (s.modPage p g).monitors = s.monitors := rfl
@[simp] theorem State.engine_modPage (s : State) (p : PageId) (g : Page → Page) : (s.modPage p g).engine = s.engine := rfl
@[simp] theorem State.slots_modPage (s : State) (p : PageId) (g : Page → Page) : (s.modPage p g).slots = s.slots := rfl
@[simp] theorem State.table_modPage (s : State) (p : PageId) (g : Page → Page) : (s.modPage p g).table = s.table := rfl
@[simp] theorem State.inFlight_modPage (s : State) (p : PageId) (g : Page → Page) : (s.modPage p g).inFlight = s.inFlight := rfl
@[simp] theorem State.errors_modPage (s : State) (p : PageId) (g : Page → Page) : (s.modPage p g).errors = s.errors := rfl
@[simp] theorem State.wires_modPage (s : State) (p : PageId) (g : Page → Page) : (s.modPage p g).wires = s.wires := rfl
@[simp] theorem State.frame_modPage (s : State) (p : PageId) (g : Page → Page) : (s.modPage p g).frame = s.frame := rfl
@[simp] theorem State.tests_modPage (s : State) (p : PageId) (g : Page → Page) : (s.modPage p g).tests = s.tests := rfl
@[simp] theorem State.generators_modPage (s : State) (p : PageId) (g : Page → Page) : (s.modPage p g).generators = s.generators := rfl
@[simp] theorem State.store_modPage (s : State) (p : PageId) (g : Page → Page) : (s.modPage p g).store = { s.store with pages := modAt s.store.pages p g } := rfl
@[simp] theorem State.image_modPage (s : State) (p : PageId) (g : Page → Page) : (s.modPage p g).image = s.image := rfl
@[simp] theorem State.port_modPage (s : State) (p : PageId) (g : Page → Page) : (s.modPage p g).port = s.port := rfl
@[simp] theorem State.bus_modPage (s : State) (p : PageId) (g : Page → Page) : (s.modPage p g).bus = s.bus := rfl
@[simp] theorem State.notices_modPage (s : State) (p : PageId) (g : Page → Page) : (s.modPage p g).notices = s.notices := rfl
@[simp] theorem State.clock_modPage (s : State) (p : PageId) (g : Page → Page) : (s.modPage p g).clock = s.clock := rfl
@[simp] theorem State.addrPins_modPage (s : State) (p : PageId) (g : Page → Page) : (s.modPage p g).addrPins = s.addrPins := rfl
@[simp] theorem State.sent_modPage (s : State) (p : PageId) (g : Page → Page) : (s.modPage p g).sent = s.sent := rfl
@[simp] theorem State.readData_modPage (s : State) (p : PageId) (g : Page → Page) : (s.modPage p g).readData = s.readData := rfl
@[simp] theorem State.freeCount_modPage (s : State) (p : PageId) (g : Page → Page) : (s.modPage p g).freeCount = s.freeCount := rfl
@[simp] theorem State.pending_modPage (s : State) (p : PageId) (g : Page → Page) : (s.modPage p g).pending = s.pending := rfl

/-! ### setQueued -/

@[simp] theorem State.map_setQueued (s : State) (f : FaceId) (j : Option Job) : (s.setQueued f j).map = s.map := rfl
@[simp] theorem State.plan_setQueued (s : State) (f : FaceId) (j : Option Job) : (s.setQueued f j).plan = s.plan := rfl
@[simp] theorem State.paths_setQueued (s : State) (f : FaceId) (j : Option Job) : (s.setQueued f j).paths = s.paths := rfl
@[simp] theorem State.legs_setQueued (s : State) (f : FaceId) (j : Option Job) : (s.setQueued f j).legs = s.legs := rfl
@[simp] theorem State.resultOwed_setQueued (s : State) (f : FaceId) (j : Option Job) : (s.setQueued f j).resultOwed = s.resultOwed := rfl
@[simp] theorem State.faces_setQueued (s : State) (f : FaceId) (j : Option Job) : (s.setQueued f j).faces = s.faces := rfl
@[simp] theorem State.monitors_setQueued (s : State) (f : FaceId) (j : Option Job) : (s.setQueued f j).monitors = s.monitors := rfl
@[simp] theorem State.engine_setQueued (s : State) (f : FaceId) (j : Option Job) : (s.setQueued f j).engine = { s.engine with queue := modAt s.engine.queue f (fun _ => j) } := rfl
@[simp] theorem State.slots_setQueued (s : State) (f : FaceId) (j : Option Job) : (s.setQueued f j).slots = s.slots := rfl
@[simp] theorem State.table_setQueued (s : State) (f : FaceId) (j : Option Job) : (s.setQueued f j).table = s.table := rfl
@[simp] theorem State.inFlight_setQueued (s : State) (f : FaceId) (j : Option Job) : (s.setQueued f j).inFlight = s.inFlight := rfl
@[simp] theorem State.errors_setQueued (s : State) (f : FaceId) (j : Option Job) : (s.setQueued f j).errors = s.errors := rfl
@[simp] theorem State.wires_setQueued (s : State) (f : FaceId) (j : Option Job) : (s.setQueued f j).wires = s.wires := rfl
@[simp] theorem State.frame_setQueued (s : State) (f : FaceId) (j : Option Job) : (s.setQueued f j).frame = s.frame := rfl
@[simp] theorem State.tests_setQueued (s : State) (f : FaceId) (j : Option Job) : (s.setQueued f j).tests = s.tests := rfl
@[simp] theorem State.generators_setQueued (s : State) (f : FaceId) (j : Option Job) : (s.setQueued f j).generators = s.generators := rfl
@[simp] theorem State.store_setQueued (s : State) (f : FaceId) (j : Option Job) : (s.setQueued f j).store = s.store := rfl
@[simp] theorem State.image_setQueued (s : State) (f : FaceId) (j : Option Job) : (s.setQueued f j).image = s.image := rfl
@[simp] theorem State.port_setQueued (s : State) (f : FaceId) (j : Option Job) : (s.setQueued f j).port = s.port := rfl
@[simp] theorem State.bus_setQueued (s : State) (f : FaceId) (j : Option Job) : (s.setQueued f j).bus = s.bus := rfl
@[simp] theorem State.notices_setQueued (s : State) (f : FaceId) (j : Option Job) : (s.setQueued f j).notices = s.notices := rfl
@[simp] theorem State.clock_setQueued (s : State) (f : FaceId) (j : Option Job) : (s.setQueued f j).clock = s.clock := rfl
@[simp] theorem State.addrPins_setQueued (s : State) (f : FaceId) (j : Option Job) : (s.setQueued f j).addrPins = s.addrPins := rfl
@[simp] theorem State.sent_setQueued (s : State) (f : FaceId) (j : Option Job) : (s.setQueued f j).sent = s.sent := rfl
@[simp] theorem State.readData_setQueued (s : State) (f : FaceId) (j : Option Job) : (s.setQueued f j).readData = s.readData := rfl
@[simp] theorem State.freeCount_setQueued (s : State) (f : FaceId) (j : Option Job) : (s.setQueued f j).freeCount = s.freeCount := rfl
@[simp] theorem State.pending_setQueued (s : State) (f : FaceId) (j : Option Job) : (s.setQueued f j).pending = s.pending := rfl

/-! ### modEngine -/

@[simp] theorem State.map_modEngine (s : State) (g : Engine → Engine) : (s.modEngine g).map = s.map := rfl
@[simp] theorem State.plan_modEngine (s : State) (g : Engine → Engine) : (s.modEngine g).plan = s.plan := rfl
@[simp] theorem State.paths_modEngine (s : State) (g : Engine → Engine) : (s.modEngine g).paths = s.paths := rfl
@[simp] theorem State.legs_modEngine (s : State) (g : Engine → Engine) : (s.modEngine g).legs = s.legs := rfl
@[simp] theorem State.resultOwed_modEngine (s : State) (g : Engine → Engine) : (s.modEngine g).resultOwed = s.resultOwed := rfl
@[simp] theorem State.faces_modEngine (s : State) (g : Engine → Engine) : (s.modEngine g).faces = s.faces := rfl
@[simp] theorem State.monitors_modEngine (s : State) (g : Engine → Engine) : (s.modEngine g).monitors = s.monitors := rfl
@[simp] theorem State.engine_modEngine (s : State) (g : Engine → Engine) : (s.modEngine g).engine = g s.engine := rfl
@[simp] theorem State.slots_modEngine (s : State) (g : Engine → Engine) : (s.modEngine g).slots = s.slots := rfl
@[simp] theorem State.table_modEngine (s : State) (g : Engine → Engine) : (s.modEngine g).table = s.table := rfl
@[simp] theorem State.inFlight_modEngine (s : State) (g : Engine → Engine) : (s.modEngine g).inFlight = s.inFlight := rfl
@[simp] theorem State.errors_modEngine (s : State) (g : Engine → Engine) : (s.modEngine g).errors = s.errors := rfl
@[simp] theorem State.wires_modEngine (s : State) (g : Engine → Engine) : (s.modEngine g).wires = s.wires := rfl
@[simp] theorem State.frame_modEngine (s : State) (g : Engine → Engine) : (s.modEngine g).frame = s.frame := rfl
@[simp] theorem State.tests_modEngine (s : State) (g : Engine → Engine) : (s.modEngine g).tests = s.tests := rfl
@[simp] theorem State.generators_modEngine (s : State) (g : Engine → Engine) : (s.modEngine g).generators = s.generators := rfl
@[simp] theorem State.store_modEngine (s : State) (g : Engine → Engine) : (s.modEngine g).store = s.store := rfl
@[simp] theorem State.image_modEngine (s : State) (g : Engine → Engine) : (s.modEngine g).image = s.image := rfl
@[simp] theorem State.port_modEngine (s : State) (g : Engine → Engine) : (s.modEngine g).port = s.port := rfl
@[simp] theorem State.bus_modEngine (s : State) (g : Engine → Engine) : (s.modEngine g).bus = s.bus := rfl
@[simp] theorem State.notices_modEngine (s : State) (g : Engine → Engine) : (s.modEngine g).notices = s.notices := rfl
@[simp] theorem State.clock_modEngine (s : State) (g : Engine → Engine) : (s.modEngine g).clock = s.clock := rfl
@[simp] theorem State.addrPins_modEngine (s : State) (g : Engine → Engine) : (s.modEngine g).addrPins = s.addrPins := rfl
@[simp] theorem State.sent_modEngine (s : State) (g : Engine → Engine) : (s.modEngine g).sent = s.sent := rfl
@[simp] theorem State.readData_modEngine (s : State) (g : Engine → Engine) : (s.modEngine g).readData = s.readData := rfl
@[simp] theorem State.freeCount_modEngine (s : State) (g : Engine → Engine) : (s.modEngine g).freeCount = s.freeCount := rfl
@[simp] theorem State.pending_modEngine (s : State) (g : Engine → Engine) : (s.modEngine g).pending = s.pending := rfl

/-! ### modFrame -/

@[simp] theorem State.map_modFrame (s : State) (g : FrameEngine → FrameEngine) : (s.modFrame g).map = s.map := rfl
@[simp] theorem State.plan_modFrame (s : State) (g : FrameEngine → FrameEngine) : (s.modFrame g).plan = s.plan := rfl
@[simp] theorem State.paths_modFrame (s : State) (g : FrameEngine → FrameEngine) : (s.modFrame g).paths = s.paths := rfl
@[simp] theorem State.legs_modFrame (s : State) (g : FrameEngine → FrameEngine) : (s.modFrame g).legs = s.legs := rfl
@[simp] theorem State.resultOwed_modFrame (s : State) (g : FrameEngine → FrameEngine) : (s.modFrame g).resultOwed = s.resultOwed := rfl
@[simp] theorem State.faces_modFrame (s : State) (g : FrameEngine → FrameEngine) : (s.modFrame g).faces = s.faces := rfl
@[simp] theorem State.monitors_modFrame (s : State) (g : FrameEngine → FrameEngine) : (s.modFrame g).monitors = s.monitors := rfl
@[simp] theorem State.engine_modFrame (s : State) (g : FrameEngine → FrameEngine) : (s.modFrame g).engine = s.engine := rfl
@[simp] theorem State.slots_modFrame (s : State) (g : FrameEngine → FrameEngine) : (s.modFrame g).slots = s.slots := rfl
@[simp] theorem State.table_modFrame (s : State) (g : FrameEngine → FrameEngine) : (s.modFrame g).table = s.table := rfl
@[simp] theorem State.inFlight_modFrame (s : State) (g : FrameEngine → FrameEngine) : (s.modFrame g).inFlight = s.inFlight := rfl
@[simp] theorem State.errors_modFrame (s : State) (g : FrameEngine → FrameEngine) : (s.modFrame g).errors = s.errors := rfl
@[simp] theorem State.wires_modFrame (s : State) (g : FrameEngine → FrameEngine) : (s.modFrame g).wires = s.wires := rfl
@[simp] theorem State.frame_modFrame (s : State) (g : FrameEngine → FrameEngine) : (s.modFrame g).frame = g s.frame := rfl
@[simp] theorem State.tests_modFrame (s : State) (g : FrameEngine → FrameEngine) : (s.modFrame g).tests = s.tests := rfl
@[simp] theorem State.generators_modFrame (s : State) (g : FrameEngine → FrameEngine) : (s.modFrame g).generators = s.generators := rfl
@[simp] theorem State.store_modFrame (s : State) (g : FrameEngine → FrameEngine) : (s.modFrame g).store = s.store := rfl
@[simp] theorem State.image_modFrame (s : State) (g : FrameEngine → FrameEngine) : (s.modFrame g).image = s.image := rfl
@[simp] theorem State.port_modFrame (s : State) (g : FrameEngine → FrameEngine) : (s.modFrame g).port = s.port := rfl
@[simp] theorem State.bus_modFrame (s : State) (g : FrameEngine → FrameEngine) : (s.modFrame g).bus = s.bus := rfl
@[simp] theorem State.notices_modFrame (s : State) (g : FrameEngine → FrameEngine) : (s.modFrame g).notices = s.notices := rfl
@[simp] theorem State.clock_modFrame (s : State) (g : FrameEngine → FrameEngine) : (s.modFrame g).clock = s.clock := rfl
@[simp] theorem State.addrPins_modFrame (s : State) (g : FrameEngine → FrameEngine) : (s.modFrame g).addrPins = s.addrPins := rfl
@[simp] theorem State.sent_modFrame (s : State) (g : FrameEngine → FrameEngine) : (s.modFrame g).sent = s.sent := rfl
@[simp] theorem State.readData_modFrame (s : State) (g : FrameEngine → FrameEngine) : (s.modFrame g).readData = s.readData := rfl
@[simp] theorem State.freeCount_modFrame (s : State) (g : FrameEngine → FrameEngine) : (s.modFrame g).freeCount = s.freeCount := rfl
@[simp] theorem State.pending_modFrame (s : State) (g : FrameEngine → FrameEngine) : (s.modFrame g).pending = s.pending := rfl

/-! ### modPort -/

@[simp] theorem State.map_modPort (s : State) (g : Port → Port) : (s.modPort g).map = s.map := rfl
@[simp] theorem State.plan_modPort (s : State) (g : Port → Port) : (s.modPort g).plan = s.plan := rfl
@[simp] theorem State.paths_modPort (s : State) (g : Port → Port) : (s.modPort g).paths = s.paths := rfl
@[simp] theorem State.legs_modPort (s : State) (g : Port → Port) : (s.modPort g).legs = s.legs := rfl
@[simp] theorem State.resultOwed_modPort (s : State) (g : Port → Port) : (s.modPort g).resultOwed = s.resultOwed := rfl
@[simp] theorem State.faces_modPort (s : State) (g : Port → Port) : (s.modPort g).faces = s.faces := rfl
@[simp] theorem State.monitors_modPort (s : State) (g : Port → Port) : (s.modPort g).monitors = s.monitors := rfl
@[simp] theorem State.engine_modPort (s : State) (g : Port → Port) : (s.modPort g).engine = s.engine := rfl
@[simp] theorem State.slots_modPort (s : State) (g : Port → Port) : (s.modPort g).slots = s.slots := rfl
@[simp] theorem State.table_modPort (s : State) (g : Port → Port) : (s.modPort g).table = s.table := rfl
@[simp] theorem State.inFlight_modPort (s : State) (g : Port → Port) : (s.modPort g).inFlight = s.inFlight := rfl
@[simp] theorem State.errors_modPort (s : State) (g : Port → Port) : (s.modPort g).errors = s.errors := rfl
@[simp] theorem State.wires_modPort (s : State) (g : Port → Port) : (s.modPort g).wires = s.wires := rfl
@[simp] theorem State.frame_modPort (s : State) (g : Port → Port) : (s.modPort g).frame = s.frame := rfl
@[simp] theorem State.tests_modPort (s : State) (g : Port → Port) : (s.modPort g).tests = s.tests := rfl
@[simp] theorem State.generators_modPort (s : State) (g : Port → Port) : (s.modPort g).generators = s.generators := rfl
@[simp] theorem State.store_modPort (s : State) (g : Port → Port) : (s.modPort g).store = s.store := rfl
@[simp] theorem State.image_modPort (s : State) (g : Port → Port) : (s.modPort g).image = s.image := rfl
@[simp] theorem State.port_modPort (s : State) (g : Port → Port) : (s.modPort g).port = g s.port := rfl
@[simp] theorem State.bus_modPort (s : State) (g : Port → Port) : (s.modPort g).bus = s.bus := rfl
@[simp] theorem State.notices_modPort (s : State) (g : Port → Port) : (s.modPort g).notices = s.notices := rfl
@[simp] theorem State.clock_modPort (s : State) (g : Port → Port) : (s.modPort g).clock = s.clock := rfl
@[simp] theorem State.addrPins_modPort (s : State) (g : Port → Port) : (s.modPort g).addrPins = s.addrPins := rfl
@[simp] theorem State.sent_modPort (s : State) (g : Port → Port) : (s.modPort g).sent = s.sent := rfl
@[simp] theorem State.readData_modPort (s : State) (g : Port → Port) : (s.modPort g).readData = s.readData := rfl
@[simp] theorem State.freeCount_modPort (s : State) (g : Port → Port) : (s.modPort g).freeCount = s.freeCount := rfl
@[simp] theorem State.pending_modPort (s : State) (g : Port → Port) : (s.modPort g).pending = s.pending := rfl

/-! ### setOwed -/

@[simp] theorem State.map_setOwed (s : State) (o : FaceSet) : (s.setOwed o).map = s.map := rfl
@[simp] theorem State.plan_setOwed (s : State) (o : FaceSet) : (s.setOwed o).plan = s.plan := rfl
@[simp] theorem State.paths_setOwed (s : State) (o : FaceSet) : (s.setOwed o).paths = s.paths := rfl
@[simp] theorem State.legs_setOwed (s : State) (o : FaceSet) : (s.setOwed o).legs = s.legs := rfl
@[simp] theorem State.resultOwed_setOwed (s : State) (o : FaceSet) : (s.setOwed o).resultOwed = o := rfl
@[simp] theorem State.faces_setOwed (s : State) (o : FaceSet) : (s.setOwed o).faces = s.faces := rfl
@[simp] theorem State.monitors_setOwed (s : State) (o : FaceSet) : (s.setOwed o).monitors = s.monitors := rfl
@[simp] theorem State.engine_setOwed (s : State) (o : FaceSet) : (s.setOwed o).engine = s.engine := rfl
@[simp] theorem State.slots_setOwed (s : State) (o : FaceSet) : (s.setOwed o).slots = s.slots := rfl
@[simp] theorem State.table_setOwed (s : State) (o : FaceSet) : (s.setOwed o).table = s.table := rfl
@[simp] theorem State.inFlight_setOwed (s : State) (o : FaceSet) : (s.setOwed o).inFlight = s.inFlight := rfl
@[simp] theorem State.errors_setOwed (s : State) (o : FaceSet) : (s.setOwed o).errors = s.errors := rfl
@[simp] theorem State.wires_setOwed (s : State) (o : FaceSet) : (s.setOwed o).wires = s.wires := rfl
@[simp] theorem State.frame_setOwed (s : State) (o : FaceSet) : (s.setOwed o).frame = s.frame := rfl
@[simp] theorem State.tests_setOwed (s : State) (o : FaceSet) : (s.setOwed o).tests = s.tests := rfl
@[simp] theorem State.generators_setOwed (s : State) (o : FaceSet) : (s.setOwed o).generators = s.generators := rfl
@[simp] theorem State.store_setOwed (s : State) (o : FaceSet) : (s.setOwed o).store = s.store := rfl
@[simp] theorem State.image_setOwed (s : State) (o : FaceSet) : (s.setOwed o).image = s.image := rfl
@[simp] theorem State.port_setOwed (s : State) (o : FaceSet) : (s.setOwed o).port = s.port := rfl
@[simp] theorem State.bus_setOwed (s : State) (o : FaceSet) : (s.setOwed o).bus = s.bus := rfl
@[simp] theorem State.notices_setOwed (s : State) (o : FaceSet) : (s.setOwed o).notices = s.notices := rfl
@[simp] theorem State.clock_setOwed (s : State) (o : FaceSet) : (s.setOwed o).clock = s.clock := rfl
@[simp] theorem State.addrPins_setOwed (s : State) (o : FaceSet) : (s.setOwed o).addrPins = s.addrPins := rfl
@[simp] theorem State.sent_setOwed (s : State) (o : FaceSet) : (s.setOwed o).sent = s.sent := rfl
@[simp] theorem State.readData_setOwed (s : State) (o : FaceSet) : (s.setOwed o).readData = s.readData := rfl
@[simp] theorem State.freeCount_setOwed (s : State) (o : FaceSet) : (s.setOwed o).freeCount = s.freeCount := rfl
@[simp] theorem State.pending_setOwed (s : State) (o : FaceSet) : (s.setOwed o).pending = s.pending := rfl

/-! ### raiseNotice -/

@[simp] theorem State.map_raiseNotice (s : State) (n : Notice) : (s.raiseNotice n).map = s.map := rfl
@[simp] theorem State.plan_raiseNotice (s : State) (n : Notice) : (s.raiseNotice n).plan = s.plan := rfl
@[simp] theorem State.paths_raiseNotice (s : State) (n : Notice) : (s.raiseNotice n).paths = s.paths := rfl
@[simp] theorem State.legs_raiseNotice (s : State) (n : Notice) : (s.raiseNotice n).legs = s.legs := rfl
@[simp] theorem State.resultOwed_raiseNotice (s : State) (n : Notice) : (s.raiseNotice n).resultOwed = s.resultOwed := rfl
@[simp] theorem State.faces_raiseNotice (s : State) (n : Notice) : (s.raiseNotice n).faces = s.faces := rfl
@[simp] theorem State.monitors_raiseNotice (s : State) (n : Notice) : (s.raiseNotice n).monitors = s.monitors := rfl
@[simp] theorem State.engine_raiseNotice (s : State) (n : Notice) : (s.raiseNotice n).engine = s.engine := rfl
@[simp] theorem State.slots_raiseNotice (s : State) (n : Notice) : (s.raiseNotice n).slots = s.slots := rfl
@[simp] theorem State.table_raiseNotice (s : State) (n : Notice) : (s.raiseNotice n).table = s.table := rfl
@[simp] theorem State.inFlight_raiseNotice (s : State) (n : Notice) : (s.raiseNotice n).inFlight = s.inFlight := rfl
@[simp] theorem State.errors_raiseNotice (s : State) (n : Notice) : (s.raiseNotice n).errors = s.errors := rfl
@[simp] theorem State.wires_raiseNotice (s : State) (n : Notice) : (s.raiseNotice n).wires = s.wires := rfl
@[simp] theorem State.frame_raiseNotice (s : State) (n : Notice) : (s.raiseNotice n).frame = s.frame := rfl
@[simp] theorem State.tests_raiseNotice (s : State) (n : Notice) : (s.raiseNotice n).tests = s.tests := rfl
@[simp] theorem State.generators_raiseNotice (s : State) (n : Notice) : (s.raiseNotice n).generators = s.generators := rfl
@[simp] theorem State.store_raiseNotice (s : State) (n : Notice) : (s.raiseNotice n).store = s.store := rfl
@[simp] theorem State.image_raiseNotice (s : State) (n : Notice) : (s.raiseNotice n).image = s.image := rfl
@[simp] theorem State.port_raiseNotice (s : State) (n : Notice) : (s.raiseNotice n).port = s.port := rfl
@[simp] theorem State.bus_raiseNotice (s : State) (n : Notice) : (s.raiseNotice n).bus = s.bus := rfl
@[simp] theorem State.notices_raiseNotice (s : State) (n : Notice) : (s.raiseNotice n).notices = s.notices.take n := rfl
@[simp] theorem State.clock_raiseNotice (s : State) (n : Notice) : (s.raiseNotice n).clock = s.clock := rfl
@[simp] theorem State.addrPins_raiseNotice (s : State) (n : Notice) : (s.raiseNotice n).addrPins = s.addrPins := rfl
@[simp] theorem State.sent_raiseNotice (s : State) (n : Notice) : (s.raiseNotice n).sent = s.sent := rfl
@[simp] theorem State.readData_raiseNotice (s : State) (n : Notice) : (s.raiseNotice n).readData = s.readData := rfl
@[simp] theorem State.freeCount_raiseNotice (s : State) (n : Notice) : (s.raiseNotice n).freeCount = s.freeCount := rfl
@[simp] theorem State.pending_raiseNotice (s : State) (n : Notice) : (s.raiseNotice n).pending = s.pending := rfl

/-! ### raiseReport -/

@[simp] theorem State.map_raiseReport (s : State) (r : Report) : (s.raiseReport r).map = s.map := rfl
@[simp] theorem State.plan_raiseReport (s : State) (r : Report) : (s.raiseReport r).plan = s.plan := rfl
@[simp] theorem State.paths_raiseReport (s : State) (r : Report) : (s.raiseReport r).paths = s.paths := rfl
@[simp] theorem State.legs_raiseReport (s : State) (r : Report) : (s.raiseReport r).legs = s.legs := rfl
@[simp] theorem State.resultOwed_raiseReport (s : State) (r : Report) : (s.raiseReport r).resultOwed = s.resultOwed := rfl
@[simp] theorem State.faces_raiseReport (s : State) (r : Report) : (s.raiseReport r).faces = s.faces := rfl
@[simp] theorem State.monitors_raiseReport (s : State) (r : Report) : (s.raiseReport r).monitors = s.monitors := rfl
@[simp] theorem State.engine_raiseReport (s : State) (r : Report) : (s.raiseReport r).engine = s.engine := rfl
@[simp] theorem State.slots_raiseReport (s : State) (r : Report) : (s.raiseReport r).slots = s.slots := rfl
@[simp] theorem State.table_raiseReport (s : State) (r : Report) : (s.raiseReport r).table = s.table := rfl
@[simp] theorem State.inFlight_raiseReport (s : State) (r : Report) : (s.raiseReport r).inFlight = s.inFlight ++ [r] := rfl
@[simp] theorem State.errors_raiseReport (s : State) (r : Report) : (s.raiseReport r).errors = s.errors := rfl
@[simp] theorem State.wires_raiseReport (s : State) (r : Report) : (s.raiseReport r).wires = s.wires := rfl
@[simp] theorem State.frame_raiseReport (s : State) (r : Report) : (s.raiseReport r).frame = s.frame := rfl
@[simp] theorem State.tests_raiseReport (s : State) (r : Report) : (s.raiseReport r).tests = s.tests := rfl
@[simp] theorem State.generators_raiseReport (s : State) (r : Report) : (s.raiseReport r).generators = s.generators := rfl
@[simp] theorem State.store_raiseReport (s : State) (r : Report) : (s.raiseReport r).store = s.store := rfl
@[simp] theorem State.image_raiseReport (s : State) (r : Report) : (s.raiseReport r).image = s.image := rfl
@[simp] theorem State.port_raiseReport (s : State) (r : Report) : (s.raiseReport r).port = s.port := rfl
@[simp] theorem State.bus_raiseReport (s : State) (r : Report) : (s.raiseReport r).bus = s.bus := rfl
@[simp] theorem State.notices_raiseReport (s : State) (r : Report) : (s.raiseReport r).notices = s.notices := rfl
@[simp] theorem State.clock_raiseReport (s : State) (r : Report) : (s.raiseReport r).clock = s.clock := rfl
@[simp] theorem State.addrPins_raiseReport (s : State) (r : Report) : (s.raiseReport r).addrPins = s.addrPins := rfl
@[simp] theorem State.sent_raiseReport (s : State) (r : Report) : (s.raiseReport r).sent = s.sent := rfl
@[simp] theorem State.readData_raiseReport (s : State) (r : Report) : (s.raiseReport r).readData = s.readData := rfl
@[simp] theorem State.freeCount_raiseReport (s : State) (r : Report) : (s.raiseReport r).freeCount = s.freeCount := rfl
@[simp] theorem State.pending_raiseReport (s : State) (r : Report) : (s.raiseReport r).pending = s.pending := rfl

/-! ### send -/

@[simp] theorem State.map_send (s : State) (f : FaceId) (w : TrainingWord) : (s.send f w).map = s.map := rfl
@[simp] theorem State.plan_send (s : State) (f : FaceId) (w : TrainingWord) : (s.send f w).plan = s.plan := rfl
@[simp] theorem State.paths_send (s : State) (f : FaceId) (w : TrainingWord) : (s.send f w).paths = s.paths := rfl
@[simp] theorem State.legs_send (s : State) (f : FaceId) (w : TrainingWord) : (s.send f w).legs = s.legs := rfl
@[simp] theorem State.resultOwed_send (s : State) (f : FaceId) (w : TrainingWord) : (s.send f w).resultOwed = s.resultOwed := rfl
@[simp] theorem State.faces_send (s : State) (f : FaceId) (w : TrainingWord) : (s.send f w).faces = s.faces := rfl
@[simp] theorem State.monitors_send (s : State) (f : FaceId) (w : TrainingWord) : (s.send f w).monitors = s.monitors := rfl
@[simp] theorem State.engine_send (s : State) (f : FaceId) (w : TrainingWord) : (s.send f w).engine = s.engine := rfl
@[simp] theorem State.slots_send (s : State) (f : FaceId) (w : TrainingWord) : (s.send f w).slots = s.slots := rfl
@[simp] theorem State.table_send (s : State) (f : FaceId) (w : TrainingWord) : (s.send f w).table = s.table := rfl
@[simp] theorem State.inFlight_send (s : State) (f : FaceId) (w : TrainingWord) : (s.send f w).inFlight = s.inFlight := rfl
@[simp] theorem State.errors_send (s : State) (f : FaceId) (w : TrainingWord) : (s.send f w).errors = s.errors := rfl
@[simp] theorem State.wires_send (s : State) (f : FaceId) (w : TrainingWord) : (s.send f w).wires = s.wires := rfl
@[simp] theorem State.frame_send (s : State) (f : FaceId) (w : TrainingWord) : (s.send f w).frame = s.frame := rfl
@[simp] theorem State.tests_send (s : State) (f : FaceId) (w : TrainingWord) : (s.send f w).tests = s.tests := rfl
@[simp] theorem State.generators_send (s : State) (f : FaceId) (w : TrainingWord) : (s.send f w).generators = s.generators := rfl
@[simp] theorem State.store_send (s : State) (f : FaceId) (w : TrainingWord) : (s.send f w).store = s.store := rfl
@[simp] theorem State.image_send (s : State) (f : FaceId) (w : TrainingWord) : (s.send f w).image = s.image := rfl
@[simp] theorem State.port_send (s : State) (f : FaceId) (w : TrainingWord) : (s.send f w).port = s.port := rfl
@[simp] theorem State.bus_send (s : State) (f : FaceId) (w : TrainingWord) : (s.send f w).bus = s.bus := rfl
@[simp] theorem State.notices_send (s : State) (f : FaceId) (w : TrainingWord) : (s.send f w).notices = s.notices := rfl
@[simp] theorem State.clock_send (s : State) (f : FaceId) (w : TrainingWord) : (s.send f w).clock = s.clock := rfl
@[simp] theorem State.addrPins_send (s : State) (f : FaceId) (w : TrainingWord) : (s.send f w).addrPins = s.addrPins := rfl
@[simp] theorem State.sent_send (s : State) (f : FaceId) (w : TrainingWord) : (s.send f w).sent = s.sent ++ [⟨f, w⟩] := rfl
@[simp] theorem State.readData_send (s : State) (f : FaceId) (w : TrainingWord) : (s.send f w).readData = s.readData := rfl
@[simp] theorem State.freeCount_send (s : State) (f : FaceId) (w : TrainingWord) : (s.send f w).freeCount = s.freeCount := rfl
@[simp] theorem State.pending_send (s : State) (f : FaceId) (w : TrainingWord) : (s.send f w).pending = s.pending := rfl

/-! ### await -/

@[simp] theorem State.map_await (s : State) (w : Waiting) : (s.await w).map = s.map := rfl
@[simp] theorem State.plan_await (s : State) (w : Waiting) : (s.await w).plan = s.plan := rfl
@[simp] theorem State.paths_await (s : State) (w : Waiting) : (s.await w).paths = s.paths := rfl
@[simp] theorem State.legs_await (s : State) (w : Waiting) : (s.await w).legs = s.legs := rfl
@[simp] theorem State.resultOwed_await (s : State) (w : Waiting) : (s.await w).resultOwed = s.resultOwed := rfl
@[simp] theorem State.faces_await (s : State) (w : Waiting) : (s.await w).faces = s.faces := rfl
@[simp] theorem State.monitors_await (s : State) (w : Waiting) : (s.await w).monitors = s.monitors := rfl
@[simp] theorem State.engine_await (s : State) (w : Waiting) : (s.await w).engine = s.engine := rfl
@[simp] theorem State.slots_await (s : State) (w : Waiting) : (s.await w).slots = s.slots := rfl
@[simp] theorem State.table_await (s : State) (w : Waiting) : (s.await w).table = { s.table with waiting := s.table.waiting ++ [w] } := rfl
@[simp] theorem State.inFlight_await (s : State) (w : Waiting) : (s.await w).inFlight = s.inFlight := rfl
@[simp] theorem State.errors_await (s : State) (w : Waiting) : (s.await w).errors = s.errors := rfl
@[simp] theorem State.wires_await (s : State) (w : Waiting) : (s.await w).wires = s.wires := rfl
@[simp] theorem State.frame_await (s : State) (w : Waiting) : (s.await w).frame = s.frame := rfl
@[simp] theorem State.tests_await (s : State) (w : Waiting) : (s.await w).tests = s.tests := rfl
@[simp] theorem State.generators_await (s : State) (w : Waiting) : (s.await w).generators = s.generators := rfl
@[simp] theorem State.store_await (s : State) (w : Waiting) : (s.await w).store = s.store := rfl
@[simp] theorem State.image_await (s : State) (w : Waiting) : (s.await w).image = s.image := rfl
@[simp] theorem State.port_await (s : State) (w : Waiting) : (s.await w).port = s.port := rfl
@[simp] theorem State.bus_await (s : State) (w : Waiting) : (s.await w).bus = s.bus := rfl
@[simp] theorem State.notices_await (s : State) (w : Waiting) : (s.await w).notices = s.notices := rfl
@[simp] theorem State.clock_await (s : State) (w : Waiting) : (s.await w).clock = s.clock := rfl
@[simp] theorem State.addrPins_await (s : State) (w : Waiting) : (s.await w).addrPins = s.addrPins := rfl
@[simp] theorem State.sent_await (s : State) (w : Waiting) : (s.await w).sent = s.sent := rfl
@[simp] theorem State.readData_await (s : State) (w : Waiting) : (s.await w).readData = s.readData := rfl
@[simp] theorem State.freeCount_await (s : State) (w : Waiting) : (s.await w).freeCount = s.freeCount := rfl
@[simp] theorem State.pending_await (s : State) (w : Waiting) : (s.await w).pending = s.pending := rfl

/-! ### setFiring -/

@[simp] theorem State.map_setFiring (s : State) (b : Bool) : (s.setFiring b).map = s.map := rfl
@[simp] theorem State.plan_setFiring (s : State) (b : Bool) : (s.setFiring b).plan = s.plan := rfl
@[simp] theorem State.paths_setFiring (s : State) (b : Bool) : (s.setFiring b).paths = s.paths := rfl
@[simp] theorem State.legs_setFiring (s : State) (b : Bool) : (s.setFiring b).legs = s.legs := rfl
@[simp] theorem State.resultOwed_setFiring (s : State) (b : Bool) : (s.setFiring b).resultOwed = s.resultOwed := rfl
@[simp] theorem State.faces_setFiring (s : State) (b : Bool) : (s.setFiring b).faces = s.faces := rfl
@[simp] theorem State.monitors_setFiring (s : State) (b : Bool) : (s.setFiring b).monitors = s.monitors := rfl
@[simp] theorem State.engine_setFiring (s : State) (b : Bool) : (s.setFiring b).engine = s.engine := rfl
@[simp] theorem State.slots_setFiring (s : State) (b : Bool) : (s.setFiring b).slots = s.slots := rfl
@[simp] theorem State.table_setFiring (s : State) (b : Bool) : (s.setFiring b).table = { s.table with firing := b } := rfl
@[simp] theorem State.inFlight_setFiring (s : State) (b : Bool) : (s.setFiring b).inFlight = s.inFlight := rfl
@[simp] theorem State.errors_setFiring (s : State) (b : Bool) : (s.setFiring b).errors = s.errors := rfl
@[simp] theorem State.wires_setFiring (s : State) (b : Bool) : (s.setFiring b).wires = s.wires := rfl
@[simp] theorem State.frame_setFiring (s : State) (b : Bool) : (s.setFiring b).frame = s.frame := rfl
@[simp] theorem State.tests_setFiring (s : State) (b : Bool) : (s.setFiring b).tests = s.tests := rfl
@[simp] theorem State.generators_setFiring (s : State) (b : Bool) : (s.setFiring b).generators = s.generators := rfl
@[simp] theorem State.store_setFiring (s : State) (b : Bool) : (s.setFiring b).store = s.store := rfl
@[simp] theorem State.image_setFiring (s : State) (b : Bool) : (s.setFiring b).image = s.image := rfl
@[simp] theorem State.port_setFiring (s : State) (b : Bool) : (s.setFiring b).port = s.port := rfl
@[simp] theorem State.bus_setFiring (s : State) (b : Bool) : (s.setFiring b).bus = s.bus := rfl
@[simp] theorem State.notices_setFiring (s : State) (b : Bool) : (s.setFiring b).notices = s.notices := rfl
@[simp] theorem State.clock_setFiring (s : State) (b : Bool) : (s.setFiring b).clock = s.clock := rfl
@[simp] theorem State.addrPins_setFiring (s : State) (b : Bool) : (s.setFiring b).addrPins = s.addrPins := rfl
@[simp] theorem State.sent_setFiring (s : State) (b : Bool) : (s.setFiring b).sent = s.sent := rfl
@[simp] theorem State.readData_setFiring (s : State) (b : Bool) : (s.setFiring b).readData = s.readData := rfl
@[simp] theorem State.freeCount_setFiring (s : State) (b : Bool) : (s.setFiring b).freeCount = s.freeCount := rfl
@[simp] theorem State.pending_setFiring (s : State) (b : Bool) : (s.setFiring b).pending = s.pending := rfl

/-! ### setOperation -/

@[simp] theorem State.map_setOperation (s : State) (o : StoreOperation) : (s.setOperation o).map = s.map := rfl
@[simp] theorem State.plan_setOperation (s : State) (o : StoreOperation) : (s.setOperation o).plan = s.plan := rfl
@[simp] theorem State.paths_setOperation (s : State) (o : StoreOperation) : (s.setOperation o).paths = s.paths := rfl
@[simp] theorem State.legs_setOperation (s : State) (o : StoreOperation) : (s.setOperation o).legs = s.legs := rfl
@[simp] theorem State.resultOwed_setOperation (s : State) (o : StoreOperation) : (s.setOperation o).resultOwed = s.resultOwed := rfl
@[simp] theorem State.faces_setOperation (s : State) (o : StoreOperation) : (s.setOperation o).faces = s.faces := rfl
@[simp] theorem State.monitors_setOperation (s : State) (o : StoreOperation) : (s.setOperation o).monitors = s.monitors := rfl
@[simp] theorem State.engine_setOperation (s : State) (o : StoreOperation) : (s.setOperation o).engine = s.engine := rfl
@[simp] theorem State.slots_setOperation (s : State) (o : StoreOperation) : (s.setOperation o).slots = s.slots := rfl
@[simp] theorem State.table_setOperation (s : State) (o : StoreOperation) : (s.setOperation o).table = s.table := rfl
@[simp] theorem State.inFlight_setOperation (s : State) (o : StoreOperation) : (s.setOperation o).inFlight = s.inFlight := rfl
@[simp] theorem State.errors_setOperation (s : State) (o : StoreOperation) : (s.setOperation o).errors = s.errors := rfl
@[simp] theorem State.wires_setOperation (s : State) (o : StoreOperation) : (s.setOperation o).wires = s.wires := rfl
@[simp] theorem State.frame_setOperation (s : State) (o : StoreOperation) : (s.setOperation o).frame = s.frame := rfl
@[simp] theorem State.tests_setOperation (s : State) (o : StoreOperation) : (s.setOperation o).tests = s.tests := rfl
@[simp] theorem State.generators_setOperation (s : State) (o : StoreOperation) : (s.setOperation o).generators = s.generators := rfl
@[simp] theorem State.store_setOperation (s : State) (o : StoreOperation) : (s.setOperation o).store = { s.store with operation := o } := rfl
@[simp] theorem State.image_setOperation (s : State) (o : StoreOperation) : (s.setOperation o).image = s.image := rfl
@[simp] theorem State.port_setOperation (s : State) (o : StoreOperation) : (s.setOperation o).port = s.port := rfl
@[simp] theorem State.bus_setOperation (s : State) (o : StoreOperation) : (s.setOperation o).bus = s.bus := rfl
@[simp] theorem State.notices_setOperation (s : State) (o : StoreOperation) : (s.setOperation o).notices = s.notices := rfl
@[simp] theorem State.clock_setOperation (s : State) (o : StoreOperation) : (s.setOperation o).clock = s.clock := rfl
@[simp] theorem State.addrPins_setOperation (s : State) (o : StoreOperation) : (s.setOperation o).addrPins = s.addrPins := rfl
@[simp] theorem State.sent_setOperation (s : State) (o : StoreOperation) : (s.setOperation o).sent = s.sent := rfl
@[simp] theorem State.readData_setOperation (s : State) (o : StoreOperation) : (s.setOperation o).readData = s.readData := rfl
@[simp] theorem State.freeCount_setOperation (s : State) (o : StoreOperation) : (s.setOperation o).freeCount = s.freeCount := rfl
@[simp] theorem State.pending_setOperation (s : State) (o : StoreOperation) : (s.setOperation o).pending = s.pending := rfl

/-! ### Entries -/

@[simp] theorem modAt_same {α : Type} {n : Nat} (v : Vector α n) (i : Fin n) (g : α → α) : (modAt v i g)[i] = g v[i] := by
  simp [modAt]

theorem modAt_other {α : Type} {n : Nat} (v : Vector α n) (i j : Fin n) (g : α → α) (h : j ≠ i) :
    (modAt v i g)[j] = v[j] := by
  simp only [modAt, Fin.getElem_fin]
  rw [Vector.getElem_set_ne]
  exact fun e => h (Fin.ext e.symm)

@[simp] theorem State.leg_modLeg (s : State) (l : LegId) (g : Leg → Leg) : (s.modLeg l g).leg l = g (s.leg l) :=
  modAt_same _ _ _

theorem State.leg_modLeg_other (s : State) (l k : LegId) (g : Leg → Leg) (h : k ≠ l) : (s.modLeg l g).leg k = s.leg k :=
  modAt_other _ _ _ _ h

@[simp] theorem State.face_modFace (s : State) (f : FaceId) (g : Face → Face) : (s.modFace f g).face f = g (s.face f) :=
  modAt_same _ _ _

theorem State.face_modFace_other (s : State) (f k : FaceId) (g : Face → Face) (h : k ≠ f) :
    (s.modFace f g).face k = s.face k := modAt_other _ _ _ _ h

@[simp] theorem State.monitor_modMonitor (s : State) (f : FaceId) (g : Monitor → Monitor) :
    (s.modMonitor f g).monitor f = g (s.monitor f) := modAt_same _ _ _

theorem State.monitor_modMonitor_other (s : State) (f k : FaceId) (g : Monitor → Monitor) (h : k ≠ f) :
    (s.modMonitor f g).monitor k = s.monitor k := modAt_other _ _ _ _ h

@[simp] theorem State.path_setPathState (s : State) (p : PathId) (st : PathState) : (s.setPathState p st).path p = st :=
  modAt_same _ _ _

theorem State.path_setPathState_other (s : State) (p q : PathId) (st : PathState) (h : q ≠ p) :
    (s.setPathState p st).path q = s.path q := modAt_other _ _ _ _ h

@[simp] theorem State.tally_modTally (s : State) (l : LegId) (g : Tally → Tally) :
    (s.modTally l g).tally l = g (s.tally l) := modAt_same _ _ _

theorem State.tally_modTally_other (s : State) (l k : LegId) (g : Tally → Tally) (h : k ≠ l) :
    (s.modTally l g).tally k = s.tally k := modAt_other _ _ _ _ h

@[simp] theorem State.test_setTest (s : State) (l : LegId) (t : Option TestRecord) : (s.setTest l t).test l = t :=
  modAt_same _ _ _

theorem State.test_setTest_other (s : State) (l k : LegId) (t : Option TestRecord) (h : k ≠ l) :
    (s.setTest l t).test k = s.test k := modAt_other _ _ _ _ h

@[simp] theorem State.wiresOf_modWires (s : State) (l : LegId) (g : LegWires → LegWires) :
    (s.modWires l g).wiresOf l = g (s.wiresOf l) := modAt_same _ _ _

theorem State.wiresOf_modWires_other (s : State) (l k : LegId) (g : LegWires → LegWires) (h : k ≠ l) :
    (s.modWires l g).wiresOf k = s.wiresOf k := modAt_other _ _ _ _ h

@[simp] theorem State.queued_setQueued (s : State) (f : FaceId) (j : Option Job) : (s.setQueued f j).queued f = j :=
  modAt_same _ _ _

theorem State.queued_setQueued_other (s : State) (f k : FaceId) (j : Option Job) (h : k ≠ f) :
    (s.setQueued f j).queued k = s.queued k := modAt_other _ _ _ _ h

end Sys2Proof.Machine
end

