-- ==== Sys2Proof/Laws/Table.lean ====
section
/-! SUPPORT. What the reaction table and the error unit do to the state: a table without a matching slot changes nothing,
and a report touches the errors and the notices alone. -/

namespace Sys2Proof.Machine

/-- No slot of the leg is on the event's source, so none matches (R113). -/
theorem matchingSlots_eq_nil {s : State} {ev : TableEvent} (h : s.noSlotOn ev.leg ev.source) : s.matchingSlots ev = [] := by
  apply List.filter_eq_nil_iff.mpr
  intro j _
  have hj := h j
  simp only [Slot.matchesEvent, Bool.and_eq_true, beq_iff_eq, not_and, Bool.not_eq_true]
  intro h1
  exact absurd h1.2 hj

theorem State.withTable_self {s : State} (h : s.tableAtRest) : { s with table := noWork } = s := by
  unfold State.tableAtRest at h
  rw [← h]

/-- With nothing waiting there is nothing to do, in however many rounds. -/
theorem drain_eq {s : State} (n : Nat) (hw : s.table.waiting = []) (hr : s.table.reports = []) : s.drain n = s := by
  cases n with
  | zero => rfl
  | succ n =>
    unfold State.drain
    split <;> simp_all

/-- A table at rest has nothing to do. -/
theorem finish_eq {s : State} (h : s.tableAtRest) : s.finish = s := by
  have hd : s.drain 16 = s := drain_eq 16 (by rw [h]; rfl) (by rw [h]; rfl)
  unfold State.finish
  rw [hd]
  exact State.withTable_self h

/-- Whatever waited, the table and the error unit are at rest after it (R114, R126). -/
theorem finish_atRest (s : State) : s.finish.tableAtRest := rfl

/-- An event that no slot of the leg is on leaves a table at rest as it was (R114). -/
theorem tableTake_eq {s : State} {ev : TableEvent} (h : s.tableAtRest) (hn : s.noSlotOn ev.leg ev.source) :
    s.tableTake ev = s := by
  have hf : s.fireSlots ev (s.matchingSlots ev) = s := by
    have ht : { s.table with firing := false } = noWork := by rw [h]; rfl
    simp only [matchingSlots_eq_nil hn, State.fireSlots, List.foldl_nil, State.setFiring, ht]
    exact State.withTable_self h
  unfold State.tableTake
  rw [hf, finish_eq h]

/-- The same of a threshold reached while a leg controller is in the middle of a taking (R128). -/
theorem tableMid_eq {s : State} {l : LegId} (hf : s.table.firing = false) (hn : s.noSlotOn l .tallyThreshold) :
    s.tableMid l = s := by
  have hm : s.matchingSlots (thresholdEvent l) = [] := matchingSlots_eq_nil hn
  simp [State.tableMid, hf, hm]

/-- A taking that ends with the table at rest leaves it nothing to do. -/
theorem legEvent_eq {s : State} {l : LegId} {e : Cause} {f : State → State} (h : (s.legTake l e f).tableAtRest) :
    s.legEvent l e f = s.legTake l e f := finish_eq h

/-- A taking that keeps the leg's state raises no notice of its own (R19). -/
theorem legTake_same {s : State} {l : LegId} {e : Cause} {f : State → State}
    (h : ((f s).leg l).state = (s.leg l).state) : s.legTake l e f = f s := by
  simp [State.legTake, h]

/-- A taking that changes the leg's state raises one LEG STATE notice last (R19). -/
theorem legTake_moved {s : State} {l : LegId} {e : Cause} {f : State → State}
    (h : ((f s).leg l).state ≠ (s.leg l).state) :
    s.legTake l e f = (f s).raiseNotice (.legState (f s).stamp l (s.leg l).state ((f s).leg l).state
      (noticeCause e ((f s).leg l)) ((f s).leg l).currentWidth) := by
  simp [State.legTake, h]

/-- A report changes the errors and the notices, and nothing else (R126). -/
theorem takeReport_footprint (s : State) (r : Report) :
    (s.takeReport r).1 = { s with errors := (s.takeReport r).1.errors, notices := (s.takeReport r).1.notices } := by
  simp only [State.takeReport]
  split
  · rfl
  · split
    · simp only [State.errorNotice]; split <;> rfl
    · split
      · simp only [State.errorNotice]; split <;> rfl
      · simp only [State.errorNotice]; split <;> rfl

/-- A report that reaches no threshold is all the error unit has to do (R126). -/
theorem takeWhole_unreached {s : State} {r : Report} (h : (s.takeReport r).2 = none) :
    s.takeWhole r = (s.takeReport r).1 := by
  simp [State.takeWhole, h]

/-- The leg whose threshold a report reaches is the report's leg (R128). -/
theorem takeReport_reached {s : State} {r : Report} {l : LegId} (h : (s.takeReport r).2 = some l) : r.leg = some l := by
  simp only [State.takeReport] at h
  split at h
  · simp at h
  · split at h
    · simp at h
    · rename_i l' hl'
      split at h
      · simp only at h
        split at h <;> simp_all
      · simp at h

end Sys2Proof.Machine
end

