-- ==== Sys2Proof/Laws/Books.lean ====
section
/-! SUPPORT. The notice queue and the logs under their one operation each, and the pattern register, which never falls
silent. -/

namespace Sys2Proof.Machine

/-- The queue keeps its bounds whatever is raised (R168). -/
theorem take_bounded {q : NoticeQueue} (n : Notice) (h1 : q.queue.length ≤ 16) (h2 : q.dropped ≤ 255) :
    (q.take n).queue.length ≤ 16 ∧ (q.take n).dropped ≤ 255 := by
  simp only [NoticeQueue.take]
  split
  · exact ⟨h1, h2⟩
  · split
    · exact ⟨h1, by simp⟩
    · rename_i h
      simp only [List.length_append, List.length_singleton]
      exact ⟨by omega, h2⟩

/-- Raising notices never changes the mask. -/
theorem take_mask (q : NoticeQueue) (n : Notice) : (q.take n).mask = q.mask := by
  simp only [NoticeQueue.take]
  split
  · rfl
  · split <;> rfl

/-- A log stays sound under every record it takes (R124, R129). -/
theorem Log.add_sound {g : Log} (r : ErrorRecord) (h : g.sound) : (g.add r).sound := by
  obtain ⟨h1, h2⟩ := h
  simp only [Log.add]
  split
  · rename_i hf
    refine ⟨fun hn => ?_, h2⟩
    have := (h1 hn).1
    simp [hf] at this
  · rename_i hf
    refine ⟨fun _ => ⟨by simp [hf], ?_⟩, by simp⟩
    simp only []
    omega

/-- A tally never leaves 0 to 255 (R127). -/
theorem Tally.increment_bounded {t : Tally} (h : t.value ≤ 255) : t.increment.value ≤ 255 := by
  simp only [Tally.increment]
  split
  · simp only []; omega
  · exact h

/-- A pattern register with stage 31 among its taps never goes from another value to 0 (R150). -/
theorem patternStep_ne_zero {taps v : Stages} (ht : setHas taps 30 = true) (hv : v ≠ 0#31) : patternStep taps v ≠ 0#31 := by
  intro hz
  simp only [patternStep, shiftIn, BitVec.or_eq_zero_iff] at hz
  obtain ⟨h1, h2⟩ := hz
  have hf : feedback taps v = false := by
    cases h : feedback taps v
    · rfl
    · simp [h] at h2
  have hn := congrArg BitVec.toNat h1
  simp only [BitVec.toNat_shiftLeft, Nat.shiftLeft_eq, BitVec.toNat_ofNat] at hn
  have hl := v.isLt
  have h0 : v.toNat ≠ 0 := fun h => hv (BitVec.eq_of_toNat_eq (by simpa using h))
  have hv' : v = 0x40000000#31 := BitVec.eq_of_toNat_eq (by simp only [BitVec.toNat_ofNat]; omega)
  have hand : v &&& taps = 0x40000000#31 := by
    rw [hv']
    ext i hi
    simp only [BitVec.getElem_and]
    by_cases h30 : i = 30
    · subst h30
      simpa [setHas, BitVec.getLsbD_eq_getElem] using ht
    · have : (0x40000000#31)[i] = false := by
        revert h30; revert hi; revert i; decide
      simp [this]
  rw [feedback, hand] at hf
  exact absurd hf (by decide)

end Sys2Proof.Machine
end

