-- ==== Sys2Proof/Laws/Bus.lean ====
section
/-! SUPPORT. What a whole transaction of the bus comes to (R164, R167): the bytes a write keeps, the command its end is, and the
table of requests read both ways. -/

namespace Sys2Proof.Machine

/-! ### Transactions -/

theorem onBus_append (s : State) (xs ys : List BusEvent) :
    s.onBus (xs ++ ys) =
      match s.onBus xs with
      | .next t => t.onBus ys
      | .fault f => .fault f
      | .refused r => .refused r := by
  induction xs generalizing s with
  | nil => rfl
  | cons e es ih =>
    simp only [List.cons_append, State.onBus]
    cases s.busTake false e with
    | next t => exact ih t
    | fault f => rfl
    | refused r => rfl

/-- Data bytes of a write: the first 132 are kept and all are counted (R164). -/
theorem onBus_written {s : State} {kept : List Byte} (bytes : List Byte) (h : s.bus = .writing (kept.take keptBytes) kept.length) :
    s.onBus (bytes.map BusEvent.written) =
      .next { s with bus := .writing ((kept ++ bytes).take keptBytes) (kept ++ bytes).length } := by
  induction bytes generalizing s kept with
  | nil =>
    simp only [List.map_nil, State.onBus, List.append_nil]
    rw [← h]
  | cons b bs ih =>
    have taken : s.busTake false (.written b) =
        .next { s with bus := .writing ((kept ++ [b]).take keptBytes) (kept ++ [b]).length } := by
      simp only [State.busTake, h, Bool.false_eq_true, if_false]
      split
      · rename_i hl
        rw [List.take_of_length_le (Nat.le_of_lt hl), List.take_of_length_le (by simp; omega)]
        simp
      · rename_i hl
        rw [List.take_append_of_le_length (by omega)]
        simp
    simp only [List.map_cons, State.onBus, taken]
    rw [ih (kept := kept ++ [b]) rfl]
    simp

/-- A start, the port's own address and the direction write. -/
theorem onBus_startWrite {s : State} (h : s.bus = .idle) :
    s.onBus [.start, .address s.port.address false] = .next { s with bus := .writing [] 0 } := by
  simp [State.onBus, State.busTake, State.endTransaction, h, State.addressed]

/-- The bytes that a read has read so far, each acknowledged. -/
theorem onBus_readOut {s : State} {reply : Option (List Byte)} {k : Nat} (n : Nat) (h : s.bus = .reading reply k true) :
    s.onBus (List.replicate n (.readOut true)) = .next { s with bus := .reading reply (k + n) true } := by
  induction n generalizing s k with
  | zero =>
    simp only [List.replicate, State.onBus, Nat.add_zero]
    rw [← h]
  | succ n ih =>
    simp only [List.replicate, State.onBus, State.busTake, h, Bool.false_eq_true, if_false]
    rw [ih (k := k + 1) rfl]
    simp [Nat.add_comm, Nat.add_left_comm]

/-! ### Requests -/

theorem requestOf_parts {i : Instr} {tag code : Byte} {body : List Byte} (h : requestParts i = some (tag, code, body)) :
    requestOf tag code body = some i := by
  cases i <;> simp only [requestParts, Option.some.injEq, Prod.mk.injEq, reduceCtorEq] at h <;>
    (obtain ⟨rfl, rfl, rfl⟩ := h; rfl)

/-- A CODE outside the table is no request. -/
theorem requestOf_unknown {tag code : Byte} {body : List Byte} (h : code.toNat ∉ requestCodes) :
    requestOf tag code body = none := by
  unfold requestOf
  split <;> first
    | rfl
    | (rename_i hx; exact absurd (by rw [hx]; decide) h)

/-- A request's frame passes the checks of R165. -/
theorem frameOk_requestFrame {tag code : Byte} {body : List Byte} (h : body.length ≤ 128) :
    frameOk (requestFrame tag code body) = true := by
  have len : byteAt (requestFrame tag code body) 0 = body.length := by
    simp [requestFrame, byteAt, byte]; omega
  simp only [frameOk, len]
  simp [requestFrame, h]

/-- A frame written whole is its request. -/
theorem writeCommand_requestFrame {i : Instr} {tag code : Byte} {body : List Byte}
    (h : requestParts i = some (tag, code, body)) (hl : body.length ≤ 128) :
    writeCommand (requestFrame tag code body) (requestFrame tag code body).length = i := by
  simp only [writeCommand, Nat.sub_self, List.replicate_zero, List.append_nil, frameOk_requestFrame hl, if_true]
  have hbody : ((requestFrame tag code body).drop 3).dropLast = body := by simp [requestFrame]
  have htag : (requestFrame tag code body).getD 1 0#8 = tag := by simp [requestFrame]
  have hcode : (requestFrame tag code body).getD 2 0#8 = code := by simp [requestFrame]
  rw [hbody, htag, hcode, requestOf_parts h]
  rfl

end Sys2Proof.Machine
end

