-- ==== Sys2Proof/Laws/Checkers.lean ====
section
/-! SUPPORT. Each operation of a checker keeps its counts within their bounds (R152, R153). -/

namespace Sys2Proof.Machine

theorem freshChecker_bounded (lock : Lock) : (freshChecker lock).bounded := by
  simp [Checker.bounded, freshChecker]

theorem Checker.seek_bounded {k : Checker} (h : k.bounded) : k.seek.bounded := h

theorem Checker.lose_bounded {k : Checker} (h : k.bounded) : k.lose.bounded :=
  ⟨h.1, h.2.1, by simp [Checker.lose], by simp [Checker.lose]⟩

theorem Checker.unlock_bounded {k : Checker} (h : k.bounded) : k.unlock.bounded := by
  simp only [Checker.unlock]
  split <;> first | exact Checker.lose_bounded h | exact h

theorem Checker.relock_bounded {k : Checker} (h : k.bounded) : k.relock.bounded := by
  simp only [Checker.relock]
  split <;> exact h

theorem Checker.seekBit_bounded {k : Checker} {taps : Stages} (b : Bool) (h : k.bounded) : (k.seekBit taps b).bounded := by
  simp only [Checker.seekBit]
  split
  · exact h
  · split
    · exact h
    · split
      · exact h
      · exact ⟨h.1, h.2.1, by simp, by simp⟩

theorem Checker.seekBits_bounded {taps : Stages} (bits : List Bool) {k : Checker} (h : k.bounded) :
    (k.seekBits taps bits).bounded := by
  induction bits generalizing k with
  | nil => exact h
  | cons b rest ih =>
    simp only [Checker.seekBits, List.foldl_cons]
    apply ih
    split
    · exact Checker.seekBit_bounded b h
    · exact h

/-- Bits that follow one another can be received one after another. -/
theorem Checker.seekBits_append {taps : Stages} {k : Checker} (bits more : List Bool) :
    k.seekBits taps (bits ++ more) = (k.seekBits taps bits).seekBits taps more := by
  simp [Checker.seekBits, List.foldl_append]

theorem Checker.matchBits_bounded {k : Checker} {taps : Stages} (n : Nat) (h : k.bounded) :
    (k.matchBits taps n).bounded := by
  refine ⟨Nat.min_le_left _ _, h.2.1, Nat.mod_lt _ (by decide), ?_⟩
  simp only [Checker.matchBits]
  split
  · simp
  · exact h.2.2.2

theorem Checker.addMismatches_bounded {k : Checker} (n : Nat) (h : k.bounded) : (k.addMismatches n).bounded :=
  ⟨h.1, Nat.min_le_left _ _, h.2.2.1, h.2.2.2⟩

theorem Checker.mismatchBit_bounded {k : Checker} {taps : Stages} (h : k.bounded) (hm : k.unitMismatches < 255) :
    (k.mismatchBit taps).bounded :=
  Checker.addMismatches_bounded 1 (Checker.matchBits_bounded 1 ⟨h.1, h.2.1, h.2.2.1, by simp only []; omega⟩)

theorem Checker.overflowUnit_bounded {k : Checker} (h : k.bounded) : k.overflowUnit.bounded := by
  refine ⟨?_, Nat.min_le_left _ _, by simp [Checker.overflowUnit, Checker.lose], by simp [Checker.overflowUnit, Checker.lose]⟩
  simp only [Checker.overflowUnit, Checker.lose, Checker.addMismatches]
  split
  · exact Nat.min_le_left _ _
  · exact h.1

/-- A run of wrong bits leaves the checker LOST. -/
theorem Checker.wrongRun_lost (k : Checker) : k.wrongRun.state = .lost := rfl

theorem Checker.wrongRun_bounded {k : Checker} (h : k.bounded) : k.wrongRun.bounded := by
  refine ⟨?_, Nat.min_le_left _ _, by simp [Checker.wrongRun, Checker.overflowUnit, Checker.lose],
    by simp [Checker.wrongRun, Checker.overflowUnit, Checker.lose]⟩
  have hu := h.1
  simp only [Checker.wrongRun, Checker.overflowUnit, Checker.lose, Checker.addMismatches]
  split <;> split <;> first | exact Nat.min_le_left _ _ | exact hu

end Sys2Proof.Machine
end

