-- ==== Sys2Proof/Laws/Faces.lean ====
section
/-! SUPPORT. What the shared operations on faces, paths, monitors and jobs touch, and what a path is after them. -/

namespace Sys2Proof.Machine

/-- A reflexive and transitive relation that every step of a fold keeps holds between its ends. -/
theorem foldl_rel {α : Type} {R : State → State → Prop} (refl : ∀ s, R s s) (trans : ∀ a b c, R a b → R b c → R a c)
    {g : State → α → State} (step : ∀ s x, R s (g s x)) (xs : List α) (s : State) : R s (xs.foldl g s) := by
  induction xs generalizing s with
  | nil => exact refl s
  | cons x xs ih => exact trans _ _ _ (step s x) (ih _)

/-! ### Faces and monitors -/

theorem swapFace_footprint (s : State) (f : FaceId) :
    s.swapFace f = { s with faces := (s.swapFace f).faces, engine := (s.swapFace f).engine } := rfl

theorem settleFace_footprint (s : State) (f : FaceId) :
    s.settleFace f = { s with faces := (s.settleFace f).faces, engine := (s.settleFace f).engine } := by
  simp only [State.settleFace]; split <;> rfl

theorem stopMonitors_footprint (s : State) (p : PathId) :
    s.stopMonitors p = { s with monitors := (s.stopMonitors p).monitors } := rfl

theorem startMonitors_footprint (s : State) (p : PathId) (n : Nat) :
    s.startMonitors p n = { s with monitors := (s.startMonitors p n).monitors } := rfl

/-- A face that is not pending is left as it was by a settle point (R76). -/
theorem settleFace_idle {s : State} {f : FaceId} (h : (s.face f).pending = false) : s.settleFace f = s := by
  simp [State.settleFace, h]

/-- A face other than the one that settles keeps its record. -/
theorem face_settleFace_other (s : State) (f g : FaceId) (h : g ≠ f) : (s.settleFace f).face g = s.face g := by
  simp only [State.settleFace]
  split
  · exact State.face_modFace_other s f g _ h
  · rfl

/-! ### Paths -/

theorem setPath_footprint (s : State) (p : PathId) (st : PathState) :
    s.setPath p st = { s with
      paths := (s.setPath p st).paths, monitors := (s.setPath p st).monitors, faces := (s.setPath p st).faces
      engine := (s.setPath p st).engine } := by
  simp only [State.setPath]
  split
  · rfl
  · split <;> split <;> first | rfl | (simp only [State.settleFace]; split <;> split <;> rfl)

theorem paths_settleFace (s : State) (f : FaceId) : (s.settleFace f).paths = s.paths := by
  rw [settleFace_footprint]

/-- A path set to a state has it, and every other path keeps its own (R8). -/
theorem path_setPath (s : State) (p q : PathId) (st : PathState) :
    (s.setPath p st).path q = if q = p then st else s.path q := by
  simp only [State.setPath]
  split
  · rename_i h
    split
    · rename_i hq; rw [hq, h]
    · rfl
  · have core : (s.setPathState p st).path q = if q = p then st else s.path q := by
      split
      · rename_i hq; rw [hq]; exact State.path_setPathState s p st
      · rename_i hq; exact State.path_setPathState_other s p q st hq
    split <;> split <;> simp only [State.path, paths_settleFace] <;> exact core

theorem setPaths_footprint (s : State) (ps : List PathId) (st : PathState) :
    s.setPaths ps st = { s with
      paths := (s.setPaths ps st).paths, monitors := (s.setPaths ps st).monitors, faces := (s.setPaths ps st).faces
      engine := (s.setPaths ps st).engine } :=
  foldl_rel (R := fun a b => b = { a with
      paths := b.paths, monitors := b.monitors, faces := b.faces, engine := b.engine })
    (fun _ => rfl) (fun a b c h1 h2 => by rw [h2, h1]) (fun s p => setPath_footprint s p st) ps s

/-- Each path of the list has the state, and the others keep theirs. -/
theorem path_setPaths (s : State) (ps : List PathId) (st : PathState) (q : PathId) :
    (s.setPaths ps st).path q = if q ∈ ps then st else s.path q := by
  induction ps generalizing s with
  | nil => simp [State.setPaths]
  | cons p ps ih =>
    have h : s.setPaths (p :: ps) st = (s.setPath p st).setPaths ps st := rfl
    rw [h, ih, path_setPath]
    by_cases h1 : q ∈ ps <;> by_cases h2 : q = p <;> simp [h1, h2]

theorem parkLeg_footprint (s : State) (l : LegId) :
    s.parkLeg l = { s with
      paths := (s.parkLeg l).paths, monitors := (s.parkLeg l).monitors, faces := (s.parkLeg l).faces
      engine := (s.parkLeg l).engine } := setPaths_footprint s _ _

theorem mem_allPaths (p : PathId) : p ∈ allPaths := by revert p; decide

/-- A path is one of a leg's exactly when its place is of that leg. -/
theorem mem_legPaths (s : State) (l : LegId) (p : PathId) : p ∈ s.legPaths l ↔ s.pathLeg p = some l := by
  simp [State.legPaths, pathsIn, State.pathLeg, State.place, mem_allPaths]

/-- Every mapped path of a leg becomes PARKED, and the paths of the other legs keep their states (R8). -/
theorem path_parkLeg (s : State) (l : LegId) (p : PathId) :
    (s.parkLeg l).path p = if s.pathLeg p = some l then .parked else s.path p := by
  rw [State.parkLeg, path_setPaths]
  simp only [mem_legPaths]

/-! ### Jobs (R96, R97) -/

theorem handCancelled_footprint (s : State) (j : Job) :
    s.handCancelled j = { s with
      notices := (s.handCancelled j).notices, resultOwed := (s.handCancelled j).resultOwed } := by
  simp only [State.handCancelled, State.jobNotice]
  split
  · rfl
  · split <;> rfl

theorem cancelFace_footprint (s : State) (f : FaceId) :
    s.cancelFace f = { s with
      engine := (s.cancelFace f).engine, notices := (s.cancelFace f).notices
      resultOwed := (s.cancelFace f).resultOwed } := by
  have h1 : ∀ s : State, s.cancelSuspended f = { s with
      engine := (s.cancelSuspended f).engine, notices := (s.cancelSuspended f).notices
      resultOwed := (s.cancelSuspended f).resultOwed } := by
    intro s
    simp only [State.cancelSuspended]
    split
    · split
      · rw [handCancelled_footprint]; rfl
      · rfl
    · rfl
  have h2 : ∀ s : State, s.cancelPending f = { s with
      engine := (s.cancelPending f).engine, notices := (s.cancelPending f).notices
      resultOwed := (s.cancelPending f).resultOwed } := by
    intro s
    simp only [State.cancelPending]
    split
    · split
      · rfl
      · rw [handCancelled_footprint]; rfl
    · rfl
  have trans : ∀ a b c : State,
      b = { a with engine := b.engine, notices := b.notices, resultOwed := b.resultOwed } →
      c = { b with engine := c.engine, notices := c.notices, resultOwed := c.resultOwed } →
      c = { a with engine := c.engine, notices := c.notices, resultOwed := c.resultOwed } := by
    intro a b c e1 e2; rw [e2, e1]
  exact trans _ _ _ (trans _ _ _ (h1 s) (h2 _)) rfl

/-- A cancellation touches the engine, the notices and the result-owed flags, and nothing else (R96). -/
theorem cancelFaces_footprint (s : State) (fs : List FaceId) :
    s.cancelFaces fs = { s with
      engine := (s.cancelFaces fs).engine, notices := (s.cancelFaces fs).notices
      resultOwed := (s.cancelFaces fs).resultOwed } :=
  foldl_rel (R := fun a b => b = { a with engine := b.engine, notices := b.notices, resultOwed := b.resultOwed })
    (fun _ => rfl) (fun a b c h1 h2 => by rw [h2, h1]) cancelFace_footprint fs s

end Sys2Proof.Machine
end

