-- ==== Sys2Proof/Laws/Takings.lean ====
section
/-! SUPPORT. No taking of a leg controller, the tuning engine or the reaction table touches the ground they stand on, nor the
order of the reports in flight: one lemma for each shared operation. -/

namespace Sys2Proof.Machine

theorem groundKept_refl (s : State) : s.groundKept s := by simp [State.groundKept]

theorem groundKept_trans {a b c : State} (h1 : a.groundKept b) (h2 : b.groundKept c) : a.groundKept c := by
  simp only [State.groundKept] at *
  obtain ⟨a1, a2, a3, a4, a5, a6, a7, a8, a9, a10, a11⟩ := h1
  obtain ⟨b1, b2, b3, b4, b5, b6, b7, b8, b9, b10, b11⟩ := h2
  exact ⟨b1.trans a1, b2.trans a2, b3.trans a3, b4.trans a4, b5.trans a5, b6.trans a6, b7.trans a7, b8.trans a8,
    b9.trans a9, b10.trans a10, b11.trans a11⟩

theorem takingKept_refl (s : State) : s.takingKept s := ⟨groundKept_refl s, [], by simp⟩

theorem takingKept_trans {a b c : State} (h1 : a.takingKept b) (h2 : b.takingKept c) : a.takingKept c := by
  obtain ⟨g1, more, m1, e1⟩ := h1
  obtain ⟨g2, later, m2, e2⟩ := h2
  refine ⟨groundKept_trans g1 g2, more ++ later, by rw [m2, m1, List.append_assoc], fun h => ?_⟩
  have none1 := e1 h
  have none2 := e2 (by rw [m1, h, none1]; rfl)
  rw [none1, none2]; rfl

theorem takingKept_foldl {α : Type} {g : State → α → State} (step : ∀ (s : State) (x : α), s.takingKept (g s x)) (xs : List α) (s : State) :
    s.takingKept (xs.foldl g s) :=
  foldl_rel takingKept_refl (fun _ _ _ h1 h2 => takingKept_trans h1 h2) step xs s

/-- A step of a composition: the ground is kept up to `t`, and `g` keeps it. -/
theorem takingKept_then {s t : State} {g : State → State} (h : s.takingKept t) (hg : ∀ u : State, u.takingKept (g u)) :
    s.takingKept (g t) := takingKept_trans h (hg t)

/-! ### The updates of one entry, true by computation -/

theorem takingKept_modLeg (s : State) (l : LegId) (g : Leg → Leg) : s.takingKept (s.modLeg l g) := takingKept_refl s
theorem takingKept_modFace (s : State) (f : FaceId) (g : Face → Face) : s.takingKept (s.modFace f g) := takingKept_refl s
theorem takingKept_modEngine (s : State) (g : Engine → Engine) : s.takingKept (s.modEngine g) := takingKept_refl s
theorem takingKept_raiseNotice (s : State) (n : Notice) : s.takingKept (s.raiseNotice n) := takingKept_refl s

/-- A report that waits behind those in flight (R126). -/
theorem takingKept_raiseReport {s : State} (r : Report) (h : s.inFlight.isEmpty = false) : s.takingKept (s.raiseReport r) :=
  ⟨groundKept_refl s, [r], rfl, fun e => by simp [e] at h⟩

theorem takingKept_send (s : State) (f : FaceId) (w : TrainingWord) : s.takingKept (s.send f w) := takingKept_refl s
theorem takingKept_modFrame (s : State) (g : FrameEngine → FrameEngine) : s.takingKept (s.modFrame g) := takingKept_refl s

theorem takingKept_judge (s : State) : s.takingKept s.judge := by
  simp only [State.judge, State.startIfDue]
  split <;> exact takingKept_refl s

theorem takingKept_setLegState (s : State) (l : LegId) (st : LegState) : s.takingKept (s.setLegState l st) :=
  takingKept_trans (takingKept_modLeg s l _) (takingKept_judge _)
theorem takingKept_setLatch (s : State) (l : LegId) (b : Bool) : s.takingKept (s.setLatch l b) := takingKept_refl s

theorem takingKept_modRecord (s : State) (l : LegId) (g : TrainRecord → TrainRecord) : s.takingKept (s.modRecord l g) :=
  takingKept_refl s
theorem takingKept_setStatus (s : State) (f : FaceId) (st : TrainStatus) : s.takingKept (s.setStatus f st) :=
  takingKept_refl s
theorem takingKept_sendAnnounce (s : State) (l : LegId) (f : FaceId) : s.takingKept (s.sendAnnounce l f) :=
  takingKept_refl s
theorem takingKept_startMonitors (s : State) (p : PathId) (n : Nat) : s.takingKept (s.startMonitors p n) :=
  takingKept_refl s
theorem takingKept_setOwed (s : State) (o : FaceSet) : s.takingKept (s.setOwed o) := takingKept_refl s
theorem takingKept_clearOwed (s : State) (f : FaceId) : s.takingKept (s.clearOwed f) := takingKept_refl s
theorem takingKept_setTest (s : State) (l : LegId) (t : Option TestRecord) : s.takingKept (s.setTest l t) :=
  takingKept_refl s
theorem takingKept_setGenerator (s : State) (f : FaceId) (g : Option Stages) : s.takingKept (s.setGenerator f g) :=
  takingKept_refl s
theorem takingKept_setQueued (s : State) (f : FaceId) (j : Option Job) : s.takingKept (s.setQueued f j) := takingKept_refl s
theorem takingKept_await (s : State) (w : Waiting) : s.takingKept (s.await w) := takingKept_refl s
theorem takingKept_setFiring (s : State) (b : Bool) : s.takingKept (s.setFiring b) := takingKept_refl s
theorem takingKept_holdReports (s : State) : s.takingKept s.holdReports := takingKept_refl s
theorem takingKept_queueReport (s : State) (r : Report) : s.takingKept (s.queueReport r) := takingKept_refl s
theorem takingKept_setTable (s : State) (w : TableWork) : s.takingKept { s with table := w } := takingKept_refl s
theorem takingKept_swapFace (s : State) (f : FaceId) : s.takingKept (s.swapFace f) := takingKept_refl s
theorem takingKept_writeRx (s : State) (f : FaceId) (rx : RxHalf) : s.takingKept (s.writeRx f rx) := takingKept_refl s
theorem takingKept_writeMargin (s : State) (f : FaceId) (m : Fin 64) : s.takingKept (s.writeMargin f m) := takingKept_refl s
theorem takingKept_clearHold (s : State) (l : LegId) : s.takingKept (s.clearHold l) := takingKept_refl s

theorem takingKept_clearCounts (s : State) (l : LegId) : s.takingKept (s.clearCounts l) :=
  takingKept_trans (takingKept_modLeg s l _) (takingKept_setLatch _ _ _)

theorem takingKept_jobNotice (s : State) (j : Job) (o : JobEnd) (m : Option (Fin 64)) : s.takingKept (s.jobNotice j o m) := by
  simp only [State.jobNotice]
  split
  · exact takingKept_raiseNotice s _
  · exact takingKept_refl s

/-! ### Faces, paths and jobs -/

theorem takingKept_settleFace (s : State) (f : FaceId) : s.takingKept (s.settleFace f) := by
  rw [settleFace_footprint]; exact takingKept_refl s

theorem takingKept_setPaths (s : State) (ps : List PathId) (st : PathState) : s.takingKept (s.setPaths ps st) := by
  rw [setPaths_footprint]; exact takingKept_refl s

theorem takingKept_parkLeg (s : State) (l : LegId) : s.takingKept (s.parkLeg l) := takingKept_setPaths s _ _

theorem takingKept_handCancelled (s : State) (j : Job) : s.takingKept (s.handCancelled j) := by
  rw [handCancelled_footprint]; exact takingKept_refl s

theorem takingKept_cancelFaces (s : State) (fs : List FaceId) : s.takingKept (s.cancelFaces fs) := by
  rw [cancelFaces_footprint]; exact takingKept_refl s

theorem takingKept_handHeld (s : State) : s.takingKept s.handHeld :=
  takingKept_trans (takingKept_modEngine s _) (takingKept_foldl takingKept_handCancelled _ _)

/-! ### Reports and the reaction table's own part -/

theorem takingKept_takeReport (s : State) (r : Report) : s.takingKept (s.takeReport r).1 := by
  rw [takeReport_footprint]; exact takingKept_refl s

theorem takingKept_fireOwn (s : State) (ev : TableEvent) (j : SlotId) : s.takingKept (s.fireOwn ev j) := by
  simp only [State.fireOwn]
  split <;> exact takingKept_refl s

theorem takingKept_tableMid (s : State) (l : LegId) : s.takingKept (s.tableMid l) := by
  simp only [State.tableMid]
  split
  · exact takingKept_refl s
  · have fired := takingKept_foldl (fun s j => takingKept_fireOwn s (thresholdEvent l) j)
      ((s.matchingSlots (thresholdEvent l)).takeWhile (fun j => !(s.slot l j).actsOnLeg)) s
    split
    · exact fired
    · exact takingKept_trans (takingKept_trans fired (takingKept_await _ _)) (takingKept_holdReports _)

theorem takingKept_reportMid (s : State) (r : Report) : s.takingKept (s.reportMid r) := by
  simp only [State.reportMid]
  split
  · exact takingKept_raiseReport r (by simp_all)
  · split
    · exact takingKept_queueReport s r
    · split
      · exact takingKept_trans (takingKept_takeReport s r) (takingKept_tableMid _ _)
      · exact takingKept_takeReport s r

/-! ### The training exchange and the leg controllers -/

theorem takingKept_dropRecord (s : State) (l : LegId) : s.takingKept (s.dropRecord l) :=
  takingKept_trans (takingKept_modLeg s l _) (takingKept_foldl (fun s f => takingKept_setStatus s f _) _ _)

theorem takingKept_oweResults (s : State) (l : LegId) : s.takingKept (s.oweResults l) :=
  takingKept_foldl (fun s f => by
    split
    · exact takingKept_setOwed s _
    · exact takingKept_refl s) _ _

theorem takingKept_sendAborts (s : State) (l : LegId) (r : AbortReason) : s.takingKept (s.sendAborts l r) :=
  takingKept_foldl (fun s f => by
    split
    · exact takingKept_refl s
    · exact takingKept_send s _ _) _ _

theorem takingKept_abandon (s : State) (l : LegId) (r : AbortReason) : s.takingKept (s.abandon l r) := by
  simp only [State.abandon]
  split
  · exact takingKept_trans (takingKept_trans (takingKept_sendAborts s l r) (takingKept_oweResults _ l))
      (takingKept_dropRecord _ l)
  · exact takingKept_refl s

theorem takingKept_announceFaces (s : State) (l : LegId) (fs : List FaceId) : s.takingKept (s.announceFaces l fs) :=
  takingKept_trans (takingKept_foldl (fun s f => takingKept_setStatus s f _) fs s)
    (takingKept_foldl (fun s f => takingKept_sendAnnounce s l f) fs _)

theorem takingKept_enterFailed (s : State) (l : LegId) (c : FailCause) : s.takingKept (s.enterFailed l c) :=
  takingKept_trans (takingKept_trans (takingKept_trans (takingKept_parkLeg s l) (takingKept_modLeg _ _ _))
    (takingKept_setLegState _ _ _)) (takingKept_reportMid _ _)

theorem takingKept_beginAttempt (s : State) (l : LegId) (w : Nat) (g : PosSet) : s.takingKept (s.beginAttempt l w g) := by
  simp only [State.beginAttempt]
  refine takingKept_trans ?_ (takingKept_announceFaces _ _ _)
  refine takingKept_trans ?_ (takingKept_foldl (fun s f => takingKept_setStatus s f _) _ _)
  refine takingKept_trans ?_ (takingKept_foldl takingKept_settleFace _ _)
  refine takingKept_trans ?_ (takingKept_foldl (fun s p => takingKept_startMonitors s p _) _ _)
  refine takingKept_trans ?_ (takingKept_setPaths _ _ _)
  refine takingKept_trans ?_ (takingKept_setPaths _ _ _)
  exact takingKept_trans (takingKept_modLeg _ _ _) (takingKept_setLegState _ _ _)

theorem takingKept_startAttempt (s : State) (l : LegId) : s.takingKept (s.startAttempt l) := by
  simp only [State.startAttempt]
  split
  · exact takingKept_beginAttempt s l _ _
  · exact takingKept_enterFailed s l _

theorem takingKept_startSeries (s : State) (l : LegId) (c : TrainCause) : s.takingKept (s.startSeries l c) :=
  takingKept_trans (takingKept_modLeg s l _) (takingKept_startAttempt _ l)

theorem takingKept_succeedAttempt (s : State) (l : LegId) : s.takingKept (s.succeedAttempt l) := by
  simp only [State.succeedAttempt]
  split
  · refine takingKept_trans ?_ (takingKept_setLegState _ _ _)
    refine takingKept_trans ?_ (takingKept_dropRecord _ _)
    refine takingKept_trans ?_ (takingKept_setPaths _ _ _)
    exact takingKept_trans (takingKept_oweResults s l) (takingKept_modLeg _ _ _)
  · refine takingKept_trans ?_ (takingKept_reportMid _ _)
    refine takingKept_trans ?_ (takingKept_setLegState _ _ _)
    refine takingKept_trans ?_ (takingKept_dropRecord _ _)
    refine takingKept_trans ?_ (takingKept_setPaths _ _ _)
    exact takingKept_trans (takingKept_oweResults s l) (takingKept_modLeg _ _ _)

theorem takingKept_countFailure (s : State) (l : LegId) (c : AttemptEnd) : s.takingKept (s.countFailure l c) := by
  have h : s.takingKept (((s.modLeg l (fun x => { x with limitTimer := none })).cancelFaces (s.groupFaces l)).modLeg l
      (fun x => { x with attemptCount := x.attemptCount + 1 })) :=
    takingKept_trans (takingKept_trans (takingKept_modLeg s l _) (takingKept_cancelFaces _ _)) (takingKept_modLeg _ _ _)
  simp only [State.countFailure]
  split
  · exact takingKept_trans h (takingKept_enterFailed _ _ _)
  all_goals
    split
    · exact takingKept_trans h (takingKept_enterFailed _ _ _)
    · exact takingKept_trans h (takingKept_startAttempt _ _)

theorem takingKept_failAttempt (s : State) (l : LegId) (c : AttemptEnd) (faulty : PosSet)
    (error : Option (ErrorKind × Option FaceId × Option Nat)) : s.takingKept (s.failAttempt l c faulty error) := by
  simp only [State.failAttempt]
  refine takingKept_trans ?_ (takingKept_countFailure _ _ _)
  refine takingKept_trans ?_ (takingKept_dropRecord _ _)
  split
  · refine takingKept_trans ?_ (takingKept_reportMid _ _)
    refine takingKept_trans ?_ (takingKept_setPaths _ _ _)
    refine takingKept_trans ?_ (takingKept_oweResults _ _)
    exact takingKept_trans (takingKept_modLeg _ _ _) (takingKept_sendAborts _ _ _)
  · refine takingKept_trans ?_ (takingKept_reportMid _ _)
    refine takingKept_trans ?_ (takingKept_setPaths _ _ _)
    refine takingKept_trans ?_ (takingKept_oweResults _ _)
    exact takingKept_trans (takingKept_modLeg _ _ _) (takingKept_sendAborts _ _ _)
  · refine takingKept_trans ?_ (takingKept_setPaths _ _ _)
    refine takingKept_trans ?_ (takingKept_oweResults _ _)
    exact takingKept_trans (takingKept_modLeg _ _ _) (takingKept_sendAborts _ _ _)

theorem takingKept_becomeReady (s : State) (l : LegId) (f : FaceId) : s.takingKept (s.becomeReady l f) := by
  have h := takingKept_setStatus s f .ready
  simp only [State.becomeReady]
  split
  · exact h
  · split <;> split
    · exact takingKept_trans h (takingKept_trans (takingKept_modRecord _ _ _) (takingKept_announceFaces _ _ _))
    · exact h
    · exact takingKept_trans h (takingKept_succeedAttempt _ _)
    · exact h

theorem takingKept_partReady (s : State) (l : LegId) (f : FaceId) : s.takingKept (s.partReady l f) := by
  have h := takingKept_trans (takingKept_send s f .ready)
    (takingKept_modRecord (s.send f .ready) l (fun r => { r with readySent := setAdd r.readySent f.val }))
  simp only [State.partReady]
  split
  · exact takingKept_trans h (takingKept_becomeReady _ _ _)
  · exact h

theorem takingKept_laneFault (s : State) (l : LegId) (f : FaceId) (error : Option ErrorKind) :
    s.takingKept (s.laneFault l f error) := by
  unfold State.laneFault
  exact takingKept_failAttempt s l .lane _ _

theorem takingKept_takeSweepResult (s : State) (f : FaceId) (res : SweepResult) :
    s.takingKept (s.takeSweepResult f res) := by
  simp only [State.takeSweepResult]
  split
  · exact takingKept_clearOwed s f
  · split
    · exact takingKept_refl s
    · split
      · cases res
        · exact takingKept_trans (takingKept_modRecord _ _ _) (takingKept_partReady _ _ _)
        · exact takingKept_trans (takingKept_modRecord _ _ _) (takingKept_partReady _ _ _)
        · exact takingKept_trans (takingKept_modRecord _ _ _) (takingKept_laneFault _ _ _ _)
      · exact takingKept_refl s

theorem takingKept_stopGenerators (s : State) (t : TestRecord) : s.takingKept (s.stopGenerators t) :=
  takingKept_foldl (fun (s : State) (c : CheckerRecord) => takingKept_setGenerator s c.face none) _ _

theorem takingKept_discardTest (s : State) (l : LegId) : s.takingKept (s.discardTest l) := by
  simp only [State.discardTest]
  split
  · split
    · exact takingKept_trans (takingKept_stopGenerators s _) (takingKept_setTest _ _ _)
    · exact takingKept_refl s
  · exact takingKept_refl s

theorem takingKept_endTest (s : State) (l : LegId) (c : TestEnd) : s.takingKept (s.endTest l c) := by
  simp only [State.endTest]
  split
  · split
    · exact takingKept_trans (takingKept_trans (takingKept_stopGenerators s _) (takingKept_setTest _ _ _))
        (takingKept_raiseNotice _ _)
    · exact takingKept_refl s
  · exact takingKept_refl s

theorem takingKept_enterHeld (s : State) (l : LegId) (c : TrainCause) : s.takingKept (s.enterHeld l c) := by
  simp only [State.enterHeld]
  refine takingKept_trans ?_ (takingKept_setLegState _ _ _)
  refine takingKept_trans ?_ (takingKept_modLeg _ _ _)
  refine takingKept_trans ?_ (takingKept_parkLeg _ _)
  split
  · exact takingKept_trans (takingKept_trans (takingKept_discardTest s l) (takingKept_abandon _ l _))
      (takingKept_cancelFaces _ _)
  · exact takingKept_refl s

theorem takingKept_holdLeg (s : State) (l : LegId) (c : TrainCause) : s.takingKept (s.holdLeg l c) := by
  have h := takingKept_modLeg s l (fun x => { x with holdRequest := true })
  simp only [State.holdLeg]
  split <;>
    first
    | exact h
    | exact takingKept_trans h (takingKept_enterHeld _ _ _)

theorem takingKept_releaseLeg (s : State) (l : LegId) : s.takingKept (s.releaseLeg l) := by
  have h := takingKept_modLeg s l (fun x => { x with holdRequest := false })
  simp only [State.releaseLeg]
  split
  · exact takingKept_trans h (takingKept_startSeries _ _ _)
  · exact h

theorem takingKept_shutDown (s : State) (l : LegId) (r : AbortReason) : s.takingKept (s.shutDown l r) := by
  simp only [State.shutDown]
  refine takingKept_trans ?_ (takingKept_clearCounts _ _)
  refine takingKept_trans ?_ (takingKept_modLeg _ _ _)
  refine takingKept_trans ?_ (takingKept_parkLeg _ _)
  exact takingKept_trans (takingKept_trans (takingKept_abandon s l r) (takingKept_cancelFaces _ _))
    (takingKept_discardTest _ l)

theorem takingKept_goDown (s : State) (l : LegId) (st : LegState) : s.takingKept (s.goDown l st) := by
  simp only [State.goDown]
  refine takingKept_trans ?_ (takingKept_setLegState _ _ _)
  have clear := takingKept_trans (takingKept_clearHold s l) (takingKept_clearCounts _ l)
  have down := takingKept_shutDown s l .giveUp
  generalize s.shutDown l .giveUp = t at down ⊢
  generalize (s.clearHold l).clearCounts l = u at clear ⊢
  split <;> assumption

/-! ### Takings and the reaction table -/

theorem takingKept_legTake (s : State) (l : LegId) (e : Cause) {f : State → State} (h : ∀ u : State, u.takingKept (f u)) :
    s.takingKept (s.legTake l e f) := by
  simp only [State.legTake]
  split
  · exact h s
  · exact takingKept_trans (h s) (takingKept_raiseNotice _ _)

theorem takingKept_retrainAction (s : State) (l : LegId) : s.takingKept (s.retrainAction l) := by
  unfold State.retrainAction
  split
  · exact takingKept_startSeries s l _
  · exact takingKept_refl s

theorem takingKept_legAction (s : State) (l : LegId) (a : Action) : s.takingKept (s.legAction l a) := by
  have h1 := takingKept_legTake s l (.train .reaction) (f := fun u => u.retrainAction l) (fun u => takingKept_retrainAction u l)
  have h2 := takingKept_legTake s l (.train .reaction) (f := fun u => u.holdLeg l .reaction)
    (fun u => takingKept_holdLeg u l .reaction)
  have h3 := takingKept_legTake s l (.train .reaction) (f := fun u => u.releaseLeg l) (fun u => takingKept_releaseLeg u l)
  simp only [State.legAction]
  split
  · exact h1
  · exact h2
  · exact h3
  · exact takingKept_refl s
  · exact takingKept_refl s

theorem takingKept_fireSlot (s : State) (ev : TableEvent) (j : SlotId) : s.takingKept (s.fireSlot ev j) := by
  simp only [State.fireSlot]
  split
  · exact takingKept_trans (takingKept_fireOwn s ev j) (takingKept_legAction _ _ _)
  · exact takingKept_fireOwn s ev j

theorem takingKept_fireSlots (s : State) (ev : TableEvent) (js : List SlotId) : s.takingKept (s.fireSlots ev js) :=
  takingKept_trans (takingKept_trans (takingKept_setFiring s true)
    (takingKept_foldl (fun s j => takingKept_fireSlot s ev j) js _)) (takingKept_setFiring _ false)

theorem takingKept_takeWhole (s : State) (r : Report) : s.takingKept (s.takeWhole r) := by
  simp only [State.takeWhole]
  split
  · exact takingKept_trans (takingKept_takeReport s r) (takingKept_refl _)
  · exact takingKept_takeReport s r

theorem takingKept_drain (n : Nat) (s : State) : s.takingKept (s.drain n) := by
  induction n generalizing s with
  | zero => exact takingKept_refl s
  | succ n ih =>
    simp only [State.drain]
    split
    · exact takingKept_trans (takingKept_trans (takingKept_setTable s _) (takingKept_fireSlots _ _ _)) (ih _)
    · exact takingKept_trans (takingKept_trans (takingKept_setTable s _) (takingKept_takeWhole _ _)) (ih _)
    · exact takingKept_refl s

theorem takingKept_finish (s : State) : s.takingKept s.finish :=
  takingKept_trans (takingKept_drain 16 s) (takingKept_setTable _ _)

theorem takingKept_tableTake (s : State) (ev : TableEvent) : s.takingKept (s.tableTake ev) :=
  takingKept_trans (takingKept_fireSlots s ev _) (takingKept_finish _)

/-- The taking of an event by a leg controller, with what the table does after it. -/
theorem takingKept_legEvent (s : State) (l : LegId) (e : Cause) {f : State → State} (h : ∀ u : State, u.takingKept (f u)) :
    s.takingKept (s.legEvent l e f) := takingKept_trans (takingKept_legTake s l e h) (takingKept_finish _)

theorem takingKept_report (s : State) (r : Report) : s.takingKept (s.report r) :=
  takingKept_trans (takingKept_takeWhole s r) (takingKept_finish _)

theorem takingKept_legSource (s : State) (l : Option LegId) (src : Source) : s.takingKept (s.legSource l src) := by
  simp only [State.legSource]
  split
  · exact takingKept_tableTake s _
  · exact takingKept_refl s

/-- A monitor's report, taken by the leg controller and then by the error unit (R110). -/
theorem takingKept_monitorReport (s : State) (r : Report) {take : LegId → State → State}
    (h : ∀ (l : LegId) (u : State), u.takingKept (take l u)) : s.takingKept (s.monitorReport r take) := by
  simp only [State.monitorReport]
  split
  · exact takingKept_trans (takingKept_trans (takingKept_trans (takingKept_holdReports s) (takingKept_legTake _ _ _ (h _)))
      (takingKept_setTable _ _)) (takingKept_finish _)
  · exact takingKept_report s r

/-! ### The tuning engine -/

theorem takingKept_sweepResult (s : State) (f : FaceId) (res : SweepResult) : s.takingKept (s.sweepResult f res) := by
  simp only [State.sweepResult]
  split
  · exact takingKept_legEvent s _ _ (fun u => takingKept_takeSweepResult u f res)
  · exact takingKept_takeSweepResult s f res

theorem takingKept_completePinned (s : State) (j : Job) : s.takingKept (s.completePinned j) := by
  simp only [State.completePinned]
  split <;> split
  · exact takingKept_trans (takingKept_swapFace s _) (takingKept_sweepResult _ _ _)
  · exact takingKept_sweepResult s _ _
  · exact takingKept_swapFace s _
  · exact takingKept_refl s

theorem takingKept_chooseWithin (n : Nat) (s : State) : s.takingKept (s.chooseWithin n) := by
  induction n generalizing s with
  | zero => exact takingKept_refl s
  | succ n ih =>
    simp only [State.chooseWithin]
    split
    · exact takingKept_refl s
    · exact takingKept_modEngine s _
    · exact takingKept_refl s
    · split
      · exact takingKept_trans (takingKept_trans (takingKept_modEngine s _) (takingKept_completePinned _ _)) (ih _)
      · exact takingKept_trans (takingKept_modEngine s _) (takingKept_modEngine _ _)

theorem takingKept_choose (s : State) : s.takingKept s.choose := takingKept_chooseWithin 17 s

/-- A request that queues a job, and the choice an IDLE engine then makes (R91). -/
theorem takingKept_queueJob (s : State) (j : Job) : s.takingKept (s.queueJob j) :=
  takingKept_trans (takingKept_setQueued s _ _) (takingKept_choose _)

theorem takingKept_handDisplaced (s : State) (j : Job) : s.takingKept (s.handDisplaced j) := by
  exact takingKept_jobNotice s _ _ _

theorem takingKept_requestSweep (s : State) (f : FaceId) : s.takingKept (s.requestSweep f) := by
  simp only [State.requestSweep]
  split
  · exact takingKept_queueJob s _
  · split
    · exact takingKept_refl s
    · exact takingKept_trans (takingKept_handDisplaced s _) (takingKept_queueJob _ _)
    · exact takingKept_trans (takingKept_handDisplaced s _) (takingKept_queueJob _ _)

theorem takingKept_requestTrim (s : State) (f : FaceId) (r : Requester) : s.takingKept (s.requestTrim f r) := by
  simp only [State.requestTrim]
  split
  · split
    · exact takingKept_refl s
    · exact takingKept_refl s
    · split
      · exact takingKept_refl s
      · exact takingKept_trans (takingKept_handDisplaced s _) (takingKept_queueJob _ _)
  · split
    · exact takingKept_refl s
    · exact takingKept_queueJob s _

theorem takingKept_deliverRx (s : State) (f : FaceId) (rx : Option RxHalf) : s.takingKept (s.deliverRx f rx) := by
  simp only [State.deliverRx]
  split
  · exact takingKept_swapFace s f
  · split
    · exact takingKept_refl s
    · split
      · exact takingKept_refl s
      · exact takingKept_writeRx s f _

theorem takingKept_leaveSlot (s : State) : s.takingKept s.leaveSlot :=
  takingKept_trans (takingKept_trans (takingKept_modEngine s _) (takingKept_handHeld _)) (takingKept_choose _)

end Sys2Proof.Machine
end

