-- ==== Sys2Proof/Laws/Monitors.lean ====
section
/-! SUPPORT. A report on its way to its receivers, and what its taking leaves as it was. -/

namespace Sys2Proof.Machine

/-! ### Delivery (R110) -/

/-- With no earlier report in flight a monitor's report is handed over where it is raised. -/
theorem handNow_empty {s : State} {r : Report} (h : s.inFlight = []) : s.handNow r = s.handOver r := by
  simp [State.handNow, h]

/-- Behind an earlier report it waits, and nothing else happens. -/
theorem handNow_waits {s : State} {r : Report} (h : s.inFlight ≠ []) :
    s.handNow r = { s with inFlight := s.inFlight ++ [r] } := by
  simp [State.handNow, State.raiseReport, h]

/-- The monitors' reports are those whose delivery is a command of its own. -/
theorem ofMonitor_iff (r : Report) :
    r.ofMonitor = true ↔ r.kind = .signalLost ∨ r.kind = .lockLost ∨ r.kind = .slipBurst := by
  simp [Report.ofMonitor, or_assoc]

/-- A report of another block reaches the error unit alone (R126). -/
theorem handOver_other {r : Report} (h : r.ofMonitor = false) (s : State) : s.handOver r = s.report r := by
  simp only [State.handOver]
  split <;> simp_all [Report.ofMonitor]

/-- With nothing in flight there is nothing to hand over. -/
theorem handUntil_nil {s : State} (stop : Report → Bool) (h : s.inFlight = []) (n : Nat) : s.handUntil stop n = s := by
  cases n with
  | zero => rfl
  | succ n => unfold State.handUntil; split <;> simp_all

theorem handFlight_nil {s : State} (h : s.inFlight = []) : s.handFlight = s := handUntil_nil _ h _

/-- With nothing in flight, or a monitor's report next, nothing is taken behind a delivery. -/
theorem handWaiting_eq {s : State} (h : monitorNext s.inFlight) : s.handWaiting = s := by
  unfold State.handWaiting
  generalize s.handRounds = n
  cases n with
  | zero => rfl
  | succ n =>
    unfold State.handUntil
    split
    · rename_i r rest hr
      simp [(ofMonitor_iff r).mpr (h r rest hr)]
    · rfl

/-- The next report in flight is handed over, and then the ones behind it (R126). -/
theorem handUntil_next {s : State} {r : Report} {rest : List Report} {stop : Report → Bool} (n : Nat)
    (h : s.inFlight = r :: rest) (hr : stop r = false) :
    s.handUntil stop (n + 1) = (State.handOver { s with inFlight := rest } r).handUntil stop n := by
  rw [State.handUntil]
  split
  · rename_i y more hy
    have := hy.symm.trans h
    injection this with h1 h2
    subst h1; subst h2
    simp [hr]
  · rename_i hy
    rw [hy] at h
    cases h

/-- The earliest report is delivered by the command of its kind and face, and the reports of other blocks behind it are taken
after it. -/
theorem deliverReport_next {s : State} {r : Report} {rest : List Report} {k : ErrorKind} {f : FaceId}
    (h : s.inFlight = r :: rest) (hk : r.kind = k) (hf : r.face = some f) :
    s.deliverReport k f = (State.handOver { s with inFlight := rest } r).handWaiting := by
  simp [State.deliverReport, h, hk, hf]

/-- No other command delivers anything. -/
theorem deliverReport_other {s : State} {k : ErrorKind} {f : FaceId}
    (h : ∀ (r : Report) (rest : List Report), s.inFlight = r :: rest → r.kind ≠ k ∨ r.face ≠ some f) :
    s.deliverReport k f = s := by
  simp only [State.deliverReport]
  split
  · rename_i r rest hr
    split
    · rename_i hb
      rcases h r rest hr with h1 | h1
      · exact absurd hb.1 h1
      · exact absurd hb.2 h1
    · rfl
  · rfl

/-! ### Reports of other blocks (R126) -/

/-- A report that fires no slot, made by a leg controller in the middle of its taking, goes to the error unit or waits. -/
theorem reportMid_told {s : State} {r : Report} (hf : s.table.firing = false) (hh : s.table.held = false)
    (hn : ∀ l : LegId, r.leg = some l → s.noSlotOn l .tallyThreshold) : s.reportMid r = s.told [r] := by
  unfold State.reportMid State.told
  by_cases h : s.inFlight.isEmpty = true
  · simp only [h, hh, Bool.not_true, Bool.false_eq_true, if_false, if_true, State.afterReports, List.foldl_cons,
      List.foldl_nil]
    split
    · rename_i l hl
      have hfoot := takeReport_footprint s r
      exact tableMid_eq (by rw [hfoot]; exact hf) (by rw [hfoot]; exact hn l (takeReport_reached hl))
    · rfl
  · simp [h, State.raiseReport]

/-- A report that fires no slot leaves the table at rest, and the error unit has taken it (R126). -/
theorem report_eq {s : State} {r : Report} (ht : s.tableAtRest)
    (hn : ∀ l : LegId, r.leg = some l → s.noSlotOn l .tallyThreshold) : s.report r = (s.takeReport r).1 := by
  have hfoot := takeReport_footprint s r
  have rest1 : (s.takeReport r).1.tableAtRest := by rw [hfoot]; exact ht
  unfold State.report
  cases h : (s.takeReport r).2 with
  | none => rw [takeWhole_unreached h]; exact finish_eq rest1
  | some l =>
    have slots : (s.takeReport r).1.noSlotOn l .tallyThreshold := by
      rw [hfoot]; exact hn l (takeReport_reached h)
    have nil : ∀ w : TableWork, State.matchingSlots { (s.takeReport r).1 with table := w } (thresholdEvent l) = [] :=
      fun w => matchingSlots_eq_nil slots
    have whole : s.takeWhole r = { (s.takeReport r).1 with table := ⟨false, [⟨thresholdEvent l, none⟩], true, []⟩ } := by
      have : (s.takeReport r).1.table = noWork := rest1
      simp [State.takeWhole, h, State.await, State.holdReports, this, noWork]
    rw [whole]
    simp only [State.finish, State.drain, State.takeWaiting, State.fireSlots, Option.getD_none, nil, List.foldl_nil,
      State.setFiring]
    exact State.withTable_self rest1

/-- A block that is neither a monitor nor a leg controller reports: what is in flight is delivered, and then a report that fires
no slot has been taken by the error unit, and nothing else has happened (R126). -/
theorem tell_eq {s : State} {r : Report} (ht : s.handFlight.tableAtRest)
    (hn : ∀ l : LegId, r.leg = some l → s.handFlight.noSlotOn l .tallyThreshold) :
    s.tell r = (s.handFlight.takeReport r).1 := report_eq ht hn

/-- The same with nothing in flight. -/
theorem tell_nil {s : State} {r : Report} (h : s.inFlight = []) (ht : s.tableAtRest)
    (hn : ∀ l : LegId, r.leg = some l → s.noSlotOn l .tallyThreshold) : s.tell r = (s.takeReport r).1 := by
  unfold State.tell
  rw [handFlight_nil h]
  exact report_eq ht hn

/-! ### What the takings keep -/

theorem takingKept_loseLink (s : State) (l : LegId) : s.takingKept (s.loseLink l) := by
  simp only [State.loseLink]
  split
  · exact takingKept_startSeries s l _
  · exact takingKept_refl s

theorem takingKept_takeSignalLoss (s : State) (l : LegId) (f : FaceId) : s.takingKept (s.takeSignalLoss l f) := by
  simp only [State.takeSignalLoss]
  split
  · exact takingKept_refl s
  · split
    · exact takingKept_laneFault s l f none
    · exact takingKept_loseLink s l
    · exact takingKept_trans (takingKept_endTest s l _) (takingKept_startSeries _ _ _)
    all_goals exact takingKept_refl s

theorem takingKept_takeLockLoss (s : State) (l : LegId) (f : FaceId) : s.takingKept (s.takeLockLoss l f) := by
  simp only [State.takeLockLoss]
  split
  · exact takingKept_refl s
  · split
    · exact takingKept_laneFault s l f none
    · exact takingKept_loseLink s l
    all_goals exact takingKept_refl s

theorem takingKept_handSignalLost (s : State) (f : FaceId) (r : Report) : s.takingKept (s.handSignalLost f r) :=
  takingKept_trans (takingKept_monitorReport s _ (fun l u => takingKept_takeSignalLoss u l f)) (takingKept_legSource _ _ _)

theorem takingKept_handLockLost (s : State) (f : FaceId) (r : Report) : s.takingKept (s.handLockLost f r) :=
  takingKept_monitorReport s _ (fun l u => takingKept_takeLockLoss u l f)

theorem takingKept_handSlipBurst (s : State) (r : Report) : s.takingKept (s.handSlipBurst r) :=
  takingKept_trans (takingKept_report s _) (takingKept_legSource _ _ _)

/-- A report that is handed over, whatever its kind. -/
theorem takingKept_handOver (s : State) (r : Report) : s.takingKept (s.handOver r) := by
  simp only [State.handOver]
  split
  · exact takingKept_handSignalLost s _ r
  · exact takingKept_handLockLost s _ r
  · exact takingKept_handSlipBurst s r
  · exact takingKept_report s r

theorem groundKept_handUntil (stop : Report → Bool) (n : Nat) (s : State) : s.groundKept (s.handUntil stop n) := by
  induction n generalizing s with
  | zero => exact groundKept_refl s
  | succ n ih =>
    simp only [State.handUntil]
    split
    · rename_i r rest _
      split
      · exact groundKept_refl s
      · exact groundKept_trans (takingKept_handOver { s with inFlight := rest } r).1 (ih _)
    · exact groundKept_refl s

theorem groundKept_handFlight (s : State) : s.groundKept s.handFlight := groundKept_handUntil _ _ s

theorem groundKept_tell (s : State) (r : Report) : s.groundKept (s.tell r) :=
  groundKept_trans (groundKept_handFlight s) (takingKept_report _ r).1

/-! ### Completions -/

theorem groundKept_checkMargin (s : State) (f : FaceId) (m : Fin 64) : s.groundKept (s.checkMargin f m) := by
  simp only [State.checkMargin]
  split
  · exact groundKept_refl s
  · split
    · exact groundKept_trans (groundKept_tell s _) (takingKept_legSource _ _ _).1
    · exact groundKept_refl s

theorem groundKept_completeTrim (s : State) (j : Job) (found : Finding) : s.groundKept (s.completeTrim j found) := by
  have h := (takingKept_deliverRx s j.face found.rx).1
  simp only [State.completeTrim]
  split
  · split
    · exact h
    · exact groundKept_trans (groundKept_trans h (takingKept_writeMargin _ _ _).1) (groundKept_checkMargin _ _ _)
  · split <;>
      first
      | exact h
      | exact groundKept_trans h (groundKept_tell _ _)

/-- A completion, from the settle point to the next choice (R98). -/
theorem groundKept_completeJob (s : State) (j : Job) (found : Finding) : s.groundKept (s.completeJob j found) := by
  simp only [State.completeJob]
  refine groundKept_trans ?_ (takingKept_leaveSlot _).1
  split
  · exact (takingKept_trans (takingKept_deliverRx s _ _) (takingKept_sweepResult _ _ _)).1
  · exact groundKept_completeTrim s j found
  · exact groundKept_trans (groundKept_trans (takingKept_writeMargin s _ _).1 (groundKept_checkMargin _ _ _))
      (takingKept_jobNotice _ _ _ _).1

end Sys2Proof.Machine
end

