-- ==== Sys2Proof/Laws/Requests.lean ====
section
/-! SUPPORT. What the port's shared operations can do: one lemma for a request that is taken, one for each other way a
write can end. -/

namespace Sys2Proof.Machine

theorem requestFrame_kept (tag code : Byte) (body : List Byte) (h : body.length ≤ 128) :
    (requestFrame tag code body).take keptBytes = requestFrame tag code body := by
  apply List.take_of_length_le
  simp only [requestFrame, keptBytes, List.length_append, List.length_cons, List.length_nil]
  omega

/-- A request that the port takes: if its block, given the state with the write in the request buffer, hands back the state
`t` with that same write, a result and a body, then the port is WORKING with them. -/
theorem takeRequest_taken {s t : State} {tag code : Byte} {body : List Byte} {act : State → Answer} {r : Result}
    {reply : List Byte} (h : s.takesRequests) (hl : body.length ≤ 128)
    (ha : act (s.acceptWrite (requestFrame tag code body)) = ⟨t.acceptWrite (requestFrame tag code body), r, reply⟩)
    (hr : r.hasBody = true ∨ reply = []) :
    takeRequest code tag body act s = .next (t.answered tag code body r reply) := by
  obtain ⟨h1, h2⟩ := h
  simp only [takeRequest, State.takeWrite, h1, h2, hl, Bool.false_eq_true, if_false, if_true, State.runRequest, ha]
  rcases hr with hr | hr <;>
    simp [hr, State.answered, State.acceptWrite, State.modPort, requestFrame_kept tag code body hl]

/-- A write while the port is WORKING is lost (R166). -/
theorem takeRequest_working {s : State} {tag code : Byte} {body : List Byte} {act : State → Answer}
    (h : s.port.state.isWorking = true) : takeRequest code tag body act s = .next s.overrunWrite := by
  simp [takeRequest, State.takeWrite, h]

/-- A write while a PART RESET is pending begins it (R171). -/
theorem takeRequest_pending {s : State} {tag code : Byte} {body : List Byte} {act : State → Answer}
    (h : s.port.state.isWorking = false) (hp : s.port.resetPending = true) :
    takeRequest code tag body act s = .next s.requestReset := by
  simp [takeRequest, State.takeWrite, h, hp]

/-- A request whose operand does not decode is INVALID and changes nothing. -/
theorem withOperand_none {α : Type} (s : State) (o : Option α) (act : α → Answer) (h : o = none) :
    withOperand s o act = .plain s .invalid := by simp [withOperand, h]

theorem withOperand_some {α : Type} (s : State) (o : Option α) (act : α → Answer) (a : α) (h : o = some a) :
    withOperand s o act = act a := by simp [withOperand, h]

/-- A body of another length decodes to nothing. -/
theorem ofLength_ne {α : Type} {n : Nat} {body : List Byte} {d : Option α} (h : body.length ≠ n) :
    ofLength n body d = none := by simp [ofLength, h]

theorem finAt_byte {n : Nat} (hn : n ≤ 256) (i : Fin n) (rest : List Byte) : finAt n (byte i.val :: rest) 0 = some i := by
  have h := i.isLt
  have hm : i.val % 256 = i.val := Nat.mod_eq_of_lt (by omega)
  simp [finAt, byteAt, byte, hm]

/-- The body of one leg number decodes to that leg. -/
theorem legBody_byte (l : LegId) : legBody [byte l.val] = some l := by
  simp [legBody, ofLength, finAt_byte]

theorem faceBody_byte (f : FaceId) : faceBody [byte f.val] = some f := by
  simp [faceBody, ofLength, finAt_byte]

theorem pageBody_byte (p : PageId) : pageBody [byte p.val] = some p := by
  simp [pageBody, ofLength, finAt_byte]

end Sys2Proof.Machine
end

