-- ==== Sys2Proof/Tests/Slice0.lean ====
section
/-! SUPPORT. Small tests: the well-formedness checks, commands on small states, and for every statement that has hypotheses
a state and operands that meet them, clause by clause. -/

set_option Elab.async false

namespace Sys2Proof.Tests

open Sys2Proof.Machine

/-! ### States -/

/-- The state after a command that gives one. -/
def after (s : State) (c : Instr) : State :=
  match exec c s with
  | .next t => t
  | .fault _ => s
  | .refused _ => s

/-- Leg 0 in a state. -/
def legIn (st : LegState) : State := State.reset.modLeg 0 (fun x => { x with state := st })

/-- Leg 0 in HELD with its hold timer running. -/
def held : State := (legIn .held).modLeg 0 (fun x => { x with holdTimer := some 20 })

/-- Leg 0 in the first attempt of a series. -/
def training : State := State.reset.startSeries 0 .first

/-- The same with the rate agreed. -/
def agreed : State := training.modLeg 0 (fun x => { x with agreedRate := some .r50 })

/-- Leg 0 with its link up. -/
def linked : State := agreed.succeedAttempt 0

/-- Leg 0 under test on its C-faces. -/
def testing : State := linked.startTest ⟨0, .c, 0x40000004#31, 1#31, 5⟩

/-- A running job. -/
def runs (k : JobKind) (f : FaceId) (steps : Nat) (ending : Bool) (s : State) : State :=
  s.modEngine (fun e => { e with running := some ⟨⟨f, k, .leg, 0#8⟩, steps, steps, ending⟩ })

/-- A suspended MARGIN. -/
def suspends (f : FaceId) (s : State) : State :=
  s.modEngine (fun e => { e with suspended := some ⟨⟨f, .margin, .switch, 7#8⟩, 6, true⟩ })

/-- The receiver of a face hears its signal and is locked. -/
def heard (f : FaceId) (s : State) : State := s.modMonitor f (fun m => { m with signal := .present, lock := .locked })

/-- A SIGNAL LOST of face 15 is in flight. -/
def onTheWay (s : State) : State := after (heard 15 s) (.signalLost ⟨15, .raised⟩)

/-- A reaction slot of leg 0 on WAKE. -/
def onWake (a : Action) (s : State) : State := s.modSlot 0 3 (fun _ => ⟨.wake, some .either, some a, 255⟩)

/-- The port with a request in WORKING. -/
def working : State := after State.reset (.ping 0x11#8 [])

/-- The port with a reply held. -/
def replied : State := after working .replyFormed

/-! ### Well-formed commands -/

theorem test_body_of_128_bytes_is_well_formed : (Instr.unknown 0#8 0xFF#8 (List.replicate 128 0#8)).wellFormed = true := by
  decide +kernel
theorem test_body_of_129_bytes_is_refused : (Instr.ping 0#8 (List.replicate 129 0#8)).wellFormed = false := by
  decide +kernel
theorem test_empty_frame_is_refused : (Instr.frameError []).wellFormed = false := by decide +kernel
theorem test_good_frame_is_no_frame_error : (Instr.frameError (requestFrame 1#8 0x01#8 [])).wellFormed = false := by
  decide +kernel
theorem test_known_code_is_not_unknown : (Instr.unknown 0#8 0x01#8 []).wellFormed = false := by decide +kernel
theorem test_read_of_nothing_is_refused : (Instr.replyRead 0).wellFormed = false := by decide +kernel
theorem test_slot_20_is_refused : (Instr.sidebandCollision 20).wellFormed = false := by decide +kernel
theorem test_invalid_finding_is_refused :
    (Instr.jobCompletion ⟨some ⟨16, 0, 0, 0⟩, 0⟩).wellFormed = false := by decide +kernel
theorem test_no_received_bits_are_refused : (Instr.checkerLock 0 []).wellFormed = false := by decide +kernel
theorem test_run_longer_than_a_unit_is_refused : (Instr.bitMismatch 0 1048576).wellFormed = false := by decide +kernel

/-! ### Commands -/

/-- The PING frame with TAG 0 that R173 gives as a check. -/
theorem test_ping_frame : requestFrame 0x00#8 0x01#8 [] = [0x00#8, 0x00#8, 0x01#8, 0x07#8] := by decide +kernel

theorem test_reset_is_power_on : State.reset.resetPart .power 0#2 = State.reset := by decide +kernel

theorem test_port_works_then_holds : working.port.state.isWorking = true ∧ replied.port.state.isHeld = true
    ∧ (after replied (.replyRead 200)).port.state = .ready := by decide +kernel

theorem test_presence_brings_leg_to_held :
    ((after State.reset (.presenceRise 0)).leg 0).state = .held
      ∧ ((after (after State.reset (.presenceRise 0)) (.holdTimerExpiry 0)).leg 0).state = .training := by decide +kernel

theorem test_attempt_announces : training.sent =
    [⟨1, .announce 0 2 0b111#3 1⟩, ⟨3, .announce 1 2 0b111#3 1⟩] := by decide +kernel

theorem test_announce_word : (TrainingWord.announce 1 2 0b111#3 1).bytes =
    [0x01#8, 0x75#8, 0x01#8, 0x8F#8] := by decide +kernel

theorem test_other_words : (TrainingWord.answer .pinned 10 14).bytes.take 3 = [0x03#8, 0x02#8, 0xEA#8]
    ∧ TrainingWord.ready.bytes.take 3 = [0x04#8, 0x00#8, 0x00#8]
    ∧ (TrainingWord.abort .giveUp).bytes.take 3 = [0x05#8, 0x01#8, 0x00#8]
    ∧ (TrainingWord.abort .reset).bytes.take 3 = [0x05#8, 0x00#8, 0x00#8] := by decide +kernel

/-- An attempt of leg 0 with a SWEEP outstanding on face 1, a result owed on face 3 and a set staged for face 0. -/
def attempting : State :=
  ((training.modRecord 0 (fun r => { r with sweepOutstanding := 0x0002#16 })).setOwed 0x0008#16).modFace 0 (fun x => { x with
    pending := true, staged := ⟨⟨1, 2⟩, ⟨3, 4, 5, 6⟩⟩ })

/-- An attempt that is abandoned or fails sends its ABORTs, owes its results and settles its faces (R47, R61, R67, R9), and the
next one sends its ANNOUNCEs after them (R50). -/
theorem test_end_of_an_attempt :
    let aborts : List SentWord := [⟨1, .abort .giveUp⟩, ⟨3, .abort .giveUp⟩]
    let s := attempting
    let t := after s (.presenceFall 0)
    let u := after (s.modWires 0 (fun w => { w with present := ⟨true, true, 0⟩ })) (.presenceFall 0)
    t.sent = s.sent ∧ s.aborts 0 .giveUp = aborts ∧ u.sent = s.sent ++ aborts ∧ u.resultOwed = 0x000A#16
      ∧ (u.face 0).active = (s.face 0).staged ∧ (u.face 0).pending = false ∧ u.monitor 1 = idleMonitor 16
      ∧ (after s (.legReset 1#8 [0#8])).sent = s.sent ++ [⟨1, .abort .reset⟩, ⟨3, .abort .reset⟩]
      ∧ (after s (.trainingLimitExpiry 0)).sent
          = s.sent ++ aborts ++ [⟨1, .announce 0 2 0b111#3 2⟩, ⟨3, .announce 1 2 0b111#3 2⟩] := by decide +kernel

theorem test_link_comes_up : (linked.leg 0).state = .active ∧ linked.path 0 = .passing ∧ linked.path 1 = .passing := by
  decide +kernel

theorem test_test_runs : (testing.leg 0).state = .test ∧ testing.path 0 = .testing ∧ testing.generators[1] = some 1#31
    ∧ testing.generators[0] = none := by decide +kernel

theorem test_loss_ends_link :
    ((after (heard 0 linked) (.signalLost ⟨0, .now⟩)).leg 0).trainingCause = .loss := by
  decide +kernel

/-- A second loss that is raised before the first has ended the attempt ends the next one (R65). -/
theorem test_second_loss_ends_the_next_attempt :
    let raised := after (after (heard 1 (heard 3 training)) (.signalLost ⟨1, .raised⟩)) (.signalLost ⟨3, .raised⟩)
    let first := after raised (.signalLost ⟨1, .delivered⟩)
    raised.inFlight.length = 2 ∧ (raised.leg 0).attemptCount = 0 ∧ (first.leg 0).attemptCount = 1
      ∧ (first.leg 0).state = .training
      ∧ ((after first (.signalLost ⟨3, .delivered⟩)).leg 0).attemptCount = 2 := by decide +kernel

/-- A STORE FAULT raised while a SIGNAL LOST is in flight is logged after it, and STORE DONE stands behind its ERROR notice
in the same step (R126, R162). Both errors are MAJOR here. -/
theorem test_reports_are_taken_in_the_order_raised :
    let s := onTheWay (State.reset.setOperation (.erasing 2))
    let t := after { s with errors := { s.errors with settings := Vector.replicate 14 ⟨true, .major⟩ } }
      (.storeOperationComplete false)
    s.inFlight.length = 1 ∧ s.errors.major.first = none ∧ t.inFlight = []
      ∧ t.errors.major.first.map (·.kind) = some .signalLost ∧ t.errors.major.next.map (·.kind) = some .storeFault
      ∧ t.store.operation = .idle ∧ t.notices.queue.getLast? = some (.storeDone 0#32 2 .erase false)
      ∧ t.notices.queue.length = 2 := by decide +kernel

/-- The state after events of the bus. -/
def bussed (s : State) (es : List BusEvent) : State :=
  match s.onBus es with
  | .next t => t
  | .fault _ => s
  | .refused _ => s

/-- A PORT STATUS over the bus, its reply read there, a probe and a transaction to another address; and the reply's first byte is
supplied after the address (R164, R167). -/
theorem test_bus_transactions :
    let begun (a : BitVec 7) (read : Bool) : List BusEvent := [.start, .address a read]
    let asked := bussed State.reset (begun 0x38#7 false ++ (requestFrame 0x11#8 0x02#8 []).map BusEvent.written ++ [.stop])
    let held := after asked .replyFormed
    asked = after State.reset (.portStatus 0x11#8 []) ∧ bussed held (begun 0x38#7 false ++ [.stop]) = held
      ∧ bussed held (begun 0x39#7 false ++ [.written 0#8, .stop]) = held
      ∧ (bussed held (begun 0x38#7 true)).busSupplies = some 4#8
      ∧ bussed held (begun 0x38#7 true ++ [.readOut true, .readOut false, .stop]) = after held (.replyRead 2)
      ∧ (bussed State.reset [.start]).acknowledges false (.address 0x38#7 true) = true
      ∧ (bussed State.reset [.start]).acknowledges false (.address 0x39#7 true) = false
      ∧ (bussed State.reset [.start]).acknowledges true (.address 0x38#7 true) = false := by decide +kernel

/-- The error unit takes a loss before the LEG FAILED that it causes (R126). -/
theorem test_loss_is_logged_before_leg_failed :
    let s := after (heard 0 (linked.modLeg 0 (fun x => { x with excluded := 0b1111#4 }))) (.signalLost ⟨0, .now⟩)
    (s.leg 0).state = .failed ∧ s.errors.major.first.map (·.kind) = some .signalLost
      ∧ s.errors.critical.first.map (·.kind) = some .legFailed ∧ (s.tally 0).value = 1
      ∧ s.notices.queue.length = 3 := by decide +kernel

/-- A CAPTURE behind a HOLD sees the tally at its threshold (R128). -/
theorem test_capture_behind_hold_sees_the_threshold :
    let s := ((linked.modTally 0 (fun x => { x with threshold := 1 })).modSlot 0 0
      (fun _ => ⟨.tallyThreshold, none, some .hold, 0⟩)).modSlot 0 1 (fun _ => ⟨.tallyThreshold, none, some .capture, 0⟩)
    let t := after (heard 0 (s.modLeg 0 (fun x => { x with excluded := 0b1111#4 }))) (.signalLost ⟨0, .now⟩)
    (t.leg 0).state = .held ∧ (t.leg 0).capture.map (·.tally) = some 1 := by decide +kernel

/-- A start request in QUIET with the gap over starts its frame at once (R143). -/
theorem test_start_request_starts_a_frame :
    let s := State.reset.modFrame (fun x => { x with state := .idle, mode := .quiet, snapshot := none })
    (after s .startRequest).frame.state = .sending
      ∧ (after (s.modFrame (fun x => { x with gap := 1 })) .startRequest).frame.state = .idle
      ∧ (after (s.modFrame (fun x => { x with gap := 1, startWanted := true })) .frameStart).frame.state = .idle := by
  decide +kernel

/-- At 50G a symbol carries two bits, the earlier one the more significant; the C-face circuit of a lane no path names is
quiet (R2, R150). -/
theorem test_symbols_and_lanes :
    symbolsOf .r50 [true, false, true, true] = [.four true false, .four true true]
      ∧ symbolsOf .r25 [true, false] = [.two true, .two false]
      ∧ patternBits 0x40000004#31 3 0x00000004#31 = [true, false, false]
      ∧ (let s : State := { linked with map := #v[none, some 1, some 2, some 3, some 4, some 5, some 6, some 7] }
         s.laneTransmits 0 = .quiet ∧ s.lanePowered 0 = false ∧ s.lanePowered 1 = true
          ∧ s.laneTransmits 1 = .traffic 2 (some .r50)) := by decide +kernel

theorem test_store_write_and_completion :
    let page : List Byte := List.replicate 96 7#8
    let s := after State.reset (.storeWrite 1#8 (3#8 :: page))
    s.store.operation = .writing 3 page ∧ (after s (.storeOperationComplete true)).page 3 = ⟨.written page, false⟩ := by
  decide +kernel

theorem test_first_frame_after_reset : State.reset.pullsSbl = true ∧ frameMicros State.reset.frame.plan = 38 := by
  decide +kernel

theorem test_word_of_the_table_spells_nothing : decodeTableWord 8 0 = none := rfl

/-! ### Hypotheses of the statements -/

theorem test_request_is_taken : State.reset.takesRequests ∧ State.reset.tableAtRest ∧ State.reset.pending = [] := by
  unfold State.takesRequests State.tableAtRest; decide +kernel

theorem test_IdleStep_hypotheses :
    let s : State := { heard 1 testing with clock := { testing.clock with micros := 999 } }
    s.pending = [] ∧ s.generators[(1 : FaceId)] = some 1#31 ∧ s.faceLeg 1 = some 0 ∧ (s.test 0).isSome = true
      ∧ (s.leg 0).agreedRate = some .r50 ∧ s.test 1 = none
      ∧ (s.checkerOf 1).map (·.state) = some .lost ∧ (s.monitor 1).lock = .locked := by decide +kernel

theorem test_FetchNotice_hypotheses :
    (State.reset.raiseNotice (.storeDone 0#32 0 .erase true)).notices.queue = [.storeDone 0#32 0 .erase true]
      ∧ State.reset.notices.queue = [] ∧ 64 ≤ (64#8 : Byte).toNat := by decide +kernel

theorem test_PendingPartReset_hypotheses :
    let s := after (after State.reset (.partReset 1#8 [])) .replyFormed
    s.port.state.isHeld = true ∧ s.port.resetPending = true ∧ s.port.state.isWorking = false
      ∧ s.port.state = .replyHeld [0#8, 1#8, 0x05#8, 0x01#8, 0#8, crc8 [0#8, 1#8, 0x05#8, 0x01#8, 0#8]]
      ∧ requestParts (.ping 1#8 []) = some (1#8, 0x01#8, []) ∧ frameOk [0#8] = false ∧ (0x00#8 : Byte).toNat ∉ requestCodes := by
  decide +kernel

theorem test_WritesWhileWorking_hypotheses :
    working.port.state.isWorking = true ∧ frameOk [0#8] = false ∧ State.reset.port.state.isHeld = false := by decide +kernel

theorem test_FaultyFrames_hypotheses :
    frameOk [129#8, 1#8, 1#8] = false ∧ frameOk [128#8, 1#8, 1#8] = false ∧ (0x00#8 : Byte).toNat ∉ requestCodes := by
  decide +kernel

theorem test_WrongLength_hypotheses :
    lengthFits 0x01#8 [0#8] = false ∧ requestParts (.ping 1#8 [0#8]) = some (1#8, 0x01#8, [0#8])
      ∧ lengthFits 0x6A#8 [] = false ∧ lengthFits 0x28#8 (List.replicate 8 0#8) = false := by decide +kernel

theorem test_FieldsOutOfRange_hypotheses :
    ¬fieldsFit 0x20#8 [4#8] ∧ ¬fieldsFit 0x30#8 [16#8] ∧ ¬fieldsFit 0x04#8 [64#8] ∧ ¬fieldsFit 0x51#8 [3#8]
      ∧ ¬fieldsFit 0x5B#8 [16#8] ∧ ¬fieldsFit 0x59#8 [0#8, 2#8, 0#8] ∧ ¬fieldsFit 0x58#8 [0#8, 3#8, 0#8]
      ∧ ¬fieldsFit 0x52#8 [15#8, 0#8, 0#8] ∧ ¬fieldsFit 0x53#8 [0#8, 0#8, 16#8, 0#8] := by
  refine ⟨?_, ?_, ?_, ?_, ?_, ?_, ?_, ?_, ?_⟩ <;> simp [fieldsFit, planFits, below, within, byteAt]

/-- The same of a map with entry 8, a set with PRE and POST above 24 together, a retry budget of 0, a slot record without an
action, a limit of 3601 and a name of zeros. -/
theorem test_BodiesOutOfRange_hypotheses :
    ¬fieldsFit 0x11#8 [8#8, 1#8, 2#8, 3#8, 4#8, 5#8, 6#8, 7#8]
      ∧ ¬fieldsFit 0x31#8 [0#8, 10#8, 15#8, 0#8, 0#8, 0#8, 0#8]
      ∧ ¬fieldsFit 0x28#8 [0#8, 0#8, 1#8, 0#8, 1#8, 1#8, 0#8, 0#8, 1#8]
      ∧ ¬fieldsFit 0x48#8 [0#8, 0#8, 5#8, 0xFF#8, 0xFF#8]
      ∧ ¬fieldsFit 0x60#8 [0#8, 0#8, 0#8, 0#8, 0#8, 64#8, 1#8, 0#8, 0#8, 0#8, 0x11#8, 0x0E#8]
      ∧ ¬fieldsFit 0x6A#8 (0#8 :: List.replicate 43 0#8) := by
  refine ⟨fun h => ?_, ?_, ?_, ?_, ?_, fun h => ?_⟩
  · exact absurd (h 0 (by decide)) (by simp [laneFits, below, byteAt])
  · simp [fieldsFit, setFits, below, within, byteAt]
  · simp [fieldsFit, paramsFit, below, within, byteAt]
  · simp [fieldsFit, below, within, byteAt]
  · simp [fieldsFit, below, within, byteAt]
  · exact absurd (h.1 0 (by decide)) (by simp [within, byteAt])

theorem test_Reads_hypotheses :
    (testing.test 0).isSome = true ∧ State.reset.test 0 = none ∧ State.reset.store.operation = .idle
      ∧ (State.reset.setOperation (.erasing 0)).store.operation ≠ .idle := by decide +kernel

theorem test_LoadMap_hypotheses :
    let twice : Vector (Option Lane) 8 := #v[some 0, some 0, none, none, none, none, none, none]
    let fewer : Vector (Option Lane) 8 := #v[some 0, some 1, some 2, some 3, some 4, some 5, none, none]
    mapValid twice State.reset.plan = false ∧ mapValid fewer State.reset.plan = true
      ∧ (State.reset.changedBy fewer 3 = true ∧ (State.reset.leg 3).state ≠ .off)
      ∧ (let s := State.reset.modLeg 3 (fun x => { x with state := .off })
         (∀ l : LegId, s.changedBy fewer l = true → (s.leg l).state = .off)
          ∧ (∀ (l : LegId) (f : FaceId), s.changedBy fewer l = true → s.faceLeg f = some l → s.faceBusy f = false)
          ∧ (runs .margin 15 0 false s).changedBy fewer 3 = true
          ∧ (runs .margin 15 0 false s).faceLeg 15 = some 3 ∧ (runs .margin 15 0 false s).faceBusy 15 = true) := by
  decide +kernel

theorem test_WidthSelection_hypotheses :
    selectWidth 4 1 0b0001#4 = some (2, 0b1100#4) ∧ selectWidth 4 1 0b0101#4 = some (1, 0b0010#4)
      ∧ selectWidth 4 2 0b0101#4 = none ∧ selectWidth 1 1 0b0001#4 = none ∧ selectWidth 2 1 0b0000#4 = some (2, 0b0011#4) := by
  decide +kernel

theorem test_Leg_hypotheses :
    (State.reset.leg 0).state = .absent ∧ ((legIn .off).leg 0).state = .off ∧ (held.leg 0).state = .held
      ∧ (training.leg 0).state = .training ∧ isLinked (linked.leg 0).state = true ∧ ((legIn .failed).leg 0).state = .failed
      ∧ (legIn .off).tableAtRest ∧ held.takesRequests ∧ training.tableAtRest ∧ training.takesRequests ∧ linked.tableAtRest
      ∧ linked.takesRequests ∧ (State.reset.leg 0).configuredWidth ≠ 0
      ∧ ((State.reset.modLeg 0 (fun x => { x with configuredWidth := 0 })).leg 0).configuredWidth = 0 := by
  unfold State.takesRequests State.tableAtRest; decide +kernel

theorem test_HeldLegs_hypotheses :
    (let x := held.leg 0
     x.holdTimer.isSome = true ∧ x.holdRequest = false
      ∧ selectWidth x.configuredWidth x.minimumWidth x.excluded = some (2, 0b0011#4))
    ∧ (let x := (held.modLeg 0 (fun x => { x with holdRequest := true })).leg 0
       x.state = .held ∧ x.holdTimer.isSome = true ∧ x.holdRequest = true)
    ∧ (let x := ((legIn .held).modLeg 0 (fun x => { x with holdTimer := none })).leg 0
       x.state = .held ∧ x.holdTimer = none
        ∧ selectWidth x.configuredWidth x.minimumWidth x.excluded = some (2, 0b0011#4)) := by decide +kernel

theorem test_NoQualifyingWidth_hypotheses :
    let s := held.modLeg 0 (fun x => { x with excluded := 0b0011#4 })
    s.tableAtRest ∧ s.noSlotOn 0 .tallyThreshold ∧ (s.leg 0).state = .held ∧ (s.leg 0).holdTimer.isSome = true
      ∧ (s.leg 0).holdRequest = false
      ∧ selectWidth (s.leg 0).configuredWidth (s.leg 0).minimumWidth (s.leg 0).excluded = none
      ∧ (let u := s.modLeg 0 (fun x => { x with holdTimer := none })
         u.takesRequests ∧ (u.leg 0).holdTimer = none ∧ (u.leg 0).state = .held ∧ u.noSlotOn 0 .tallyThreshold) := by
  unfold State.takesRequests State.tableAtRest State.noSlotOn; decide +kernel

theorem test_RetrainAndRestore_hypotheses :
    let s := legIn .degraded
    s.tableAtRest ∧ s.takesRequests ∧ isLinked (s.leg 0).state = true
      ∧ selectWidth (s.leg 0).configuredWidth (s.leg 0).minimumWidth (s.leg 0).excluded = some (2, 0b0011#4)
      ∧ selectWidth (s.leg 0).configuredWidth (s.leg 0).minimumWidth 0#4 = some (2, 0b0011#4) := by
  unfold State.takesRequests State.tableAtRest; decide +kernel

theorem test_SetLegParams_hypotheses :
    let fits (body : List Byte) : Bool :=
      decide (byteAt body 0 ≤ 3 ∧ byteAt body 1 ≤ 2 ∧ byteAt body 2 ∈ [1, 2, 4] ∧ (1 ≤ byteAt body 3 ∧ byteAt body 3 ≤ 7)
        ∧ 1 ≤ byteAt body 4 ∧ 1 ≤ byteAt body 5 ∧ byteAt body 6 ≤ 60 ∧ byteAt body 7 ≤ 63 ∧ 1 ≤ byteAt body 8)
    fits (List.replicate 9 0#8) = false ∧ fits [3#8, 2#8, 4#8, 8#8, 255#8, 255#8, 60#8, 63#8, 255#8] = false
      ∧ fits [3#8, 2#8, 4#8, 7#8, 255#8, 255#8, 60#8, 63#8, 255#8] = true
      ∧ fits [0#8, 0#8, 1#8, 1#8, 1#8, 1#8, 0#8, 0#8, 1#8] = true := by decide +kernel

theorem test_StageFace_hypotheses : (EqSet.mk ⟨10, 14⟩ ⟨15, 31, -31, 15⟩).valid = true
    ∧ ((State.reset.modFace 0 (fun x => { x with pending := true })).face 0).pending = true := by decide +kernel

theorem test_Commit_hypotheses :
    (∀ f : FaceId, setHas (0xFFFF#16) f.val = true → State.reset.path (facePath f) ≠ .passing)
      ∧ (runs .margin 5 0 false linked).takesRequests
      ∧ (runs .margin 5 0 false linked).path (facePath 0) = .passing
      ∧ (runs .margin 5 0 false linked).engine.running.isSome = true
      ∧ linked.takesRequests ∧ linked.engineIdle ∧ setHas linked.engine.mask 0 = false
      ∧ (let s := linked.modEngine (fun e => { e with mask := 0x0001#16 })
         s.engineIdle ∧ setHas s.engine.mask 0 = true) := by
  unfold State.takesRequests State.engineIdle; decide +kernel

theorem test_TuneMargin_hypotheses :
    State.reset.path (facePath 15) ≠ .passing ∧ State.reset.path (facePath 15) ≠ .testing
      ∧ linked.path (facePath 0) = .passing ∧ linked.engineFree 0 = true ∧ linked.engineIdle
      ∧ setHas linked.engine.mask 0 = false ∧ (runs .margin 0 0 false linked).engineFree 0 = false
      ∧ (runs .margin 5 0 false linked).engineFree 0 = true ∧ (runs .margin 5 0 false linked).engine.running.isSome = true
      ∧ (let s := linked.modEngine (fun e => { e with mask := 0x0001#16 })
         s.engineIdle ∧ setHas s.engine.mask 0 = true ∧ s.engineFree 0 = true) := by
  unfold State.engineIdle; decide +kernel

/-- An IDLE engine with one job on face 3, which the mask holds back. -/
def waitsMasked (k : JobKind) (pin : Bool) (s : State) : State :=
  ((s.setQueued 3 (some ⟨3, k, .leg, 9#8⟩)).modEngine (fun e => { e with mask := 0x0008#16 })).modFace 3
    (fun x => { x with pinned := pin })

theorem test_SetTuneMask_hypotheses :
    (let s := waitsMasked .margin false State.reset
     s.takesRequests ∧ s.tableAtRest ∧ s.engine.running = none ∧ s.engine.suspended = none
      ∧ s.queued 3 = some ⟨3, .margin, .leg, 9#8⟩
      ∧ (∀ g : FaceId, g ≠ 3 → (s.queued g).isSome = true → setHas (0xFFF7#16) g.val = true)
      ∧ setHas (0xFFF7#16) 3 = false ∧ (s.modEngine (fun e => { e with mask := 0x0008#16 })).engineIdle)
    ∧ ((waitsMasked .trim true State.reset).face 3).pinned = true
    ∧ (let s := waitsMasked .sweep true (training.modRecord 0 (fun r => { r with sweepOutstanding := 0x0008#16 }))
       (s.face 3).pinned = true ∧ setHas s.resultOwed 3 = false ∧ s.faceLeg 3 = some 0
        ∧ (s.leg 0).record.any (fun r => setHas r.sweepOutstanding 3 && !setHas r.readyReceived 3) = true
        ∧ setHas (s.setOwed 0x0008#16).resultOwed 3 = true) := by
  unfold State.takesRequests State.tableAtRest State.engineIdle; decide +kernel

/-- Six jobs pending on unmasked faces, two of each class, with each pointer past one of its class. -/
def manyJobs : State :=
  let put (f : FaceId) (k : JobKind) (s : State) : State := s.setQueued f (some ⟨f, k, .switch, 3#8⟩)
  (put 2 .sweep (put 12 .sweep (put 3 .trim (put 13 .trim (put 4 .margin (put 14 .margin linked)))))).modEngine (fun e =>
    { e with urgentPointer := 5, routinePointer := 5, probePointer := 5 })

/-- The same without the SWEEPs. -/
def fewerJobs : State := (manyJobs.setQueued 2 none).setQueued 12 none

/-- The same without the TRIMs as well. -/
def margins : State := (fewerJobs.setQueued 3 none).setQueued 13 none

/-- What the engine takes among them (R91, R92). -/
theorem test_taken_jobs :
    manyJobs.engine.takes ⟨12, .sweep, .switch, 3#8⟩ ∧ (suspends 9 manyJobs).engine.takes ⟨12, .sweep, .switch, 3#8⟩
      ∧ fewerJobs.engine.takes ⟨13, .trim, .switch, 3#8⟩ ∧ margins.engine.takes ⟨14, .margin, .switch, 3#8⟩
      ∧ (runs .margin 0 31 false fewerJobs).engine.takes ⟨13, .trim, .switch, 3#8⟩
      ∧ (runs .margin 0 31 false manyJobs).engine.takes ⟨12, .sweep, .switch, 3#8⟩ := by
  refine ⟨?_, ?_, ?_, ?_, ?_, ?_⟩ <;> (unfold Engine.takes; decide +kernel)

/-- A suspended MARGIN goes between the SWEEPs and the rest (R91). -/
theorem test_suspended_goes_before_a_trim :
    (suspends 9 fewerJobs).engine.noneUrgent
      ∧ (suspends 9 (runs .margin 0 31 false fewerJobs)).engine.noneUrgent := by
  unfold Engine.noneUrgent; decide +kernel

theorem test_choice_hypotheses :
    manyJobs.takesRequests ∧ manyJobs.tableAtRest ∧ manyJobs.engine.running = none ∧ (manyJobs.face 12).pinned = false
      ∧ (after manyJobs (.setTuneMask 1#8 [0#8, 0#8])).engine.running = some ⟨⟨12, .sweep, .switch, 3#8⟩, 0, 0, false⟩
      ∧ (after (suspends 9 fewerJobs) (.setTuneMask 1#8 [0#8, 0#8])).engine.running.map (·.job.face) = some 9
      ∧ (after fewerJobs (.setTuneMask 1#8 [0#8, 0#8])).engine.running = some ⟨⟨13, .trim, .switch, 3#8⟩, 0, 0, false⟩
      ∧ (let s := runs .margin 0 31 false fewerJobs
         s.engine.held = [] ∧ s.faceLeg 0 = some 0 ∧ (s.leg 0).marginFloor ≤ 63
          ∧ (after s (.jobCompletion ⟨none, 63⟩)).engine.running = some ⟨⟨13, .trim, .switch, 3#8⟩, 0, 0, false⟩)
      ∧ (after (runs .margin 0 31 false manyJobs) (.jobCompletion ⟨none, 63⟩)).engine.running
          = some ⟨⟨12, .sweep, .switch, 3#8⟩, 0, 0, false⟩ := by
  unfold State.takesRequests State.tableAtRest; decide +kernel

theorem test_StepBoundaries_hypotheses :
    (let r : RunningJob := ⟨⟨0, .sweep, .leg, 0#8⟩, 22, 22, false⟩
     (runs .sweep 0 22 false State.reset).engine.running = some r ∧ r.stepsDone + 1 < jobSteps .sweep)
    ∧ (let s := (runs .margin 0 3 false State.reset).setQueued 7 (some ⟨7, .sweep, .leg, 0#8⟩)
       (facesFrom s.engine.urgentPointer).find? (pendingKind s.engine .sweep) = some 7
        ∧ s.queued 7 = some ⟨7, .sweep, .leg, 0#8⟩ ∧ (s.face 7).pinned = false)
    ∧ (let s := (runs .sweep 0 3 true State.reset).modEngine (fun e => { e with held := [⟨0, .margin, .switch, 5#8⟩] })
       let u : State := { s with engine := { s.engine with held := [] } }
       u.lastJob ∧ (suspends 9 u).lastJob ∧ s.engine.held ≠ []) := by
  unfold State.lastJob; decide +kernel

theorem test_Completions_hypotheses :
    let s := runs .trim 0 3 false linked
    s.lastJob ∧ (suspends 0 s).lastJob ∧ s.tableAtRest ∧ (RxHalf.mk 15 31 (-31) 15).valid = true ∧ s.faceLeg 0 = some 0
      ∧ (s.leg 0).marginFloor = 12 ∧ s.noSlotOn 0 .tallyThreshold ∧ s.noSlotOn 0 .marginLow
      ∧ s.settlesOnCompletion 0 = false ∧ (s.face 0).pinned = false ∧ s.path (facePath 0) = .passing
      ∧ ((s.modFace 0 (fun x => { x with pinned := true })).face 0).pinned = true
      ∧ (runs .trim 8 3 false linked).path (facePath 8) ≠ .passing ∧ (runs .trim 8 3 false linked).path (facePath 8) ≠ .testing
      ∧ (let u := s.modFace 0 (fun x => { x with pending := true, swapOnCompletion := true })
         (u.face 0).pending = true ∧ (u.face 0).swapOnCompletion = true ∧ u.path (facePath 0) = .passing) := by
  unfold State.lastJob State.tableAtRest State.noSlotOn; decide +kernel

/-- A margin at the floor of 12 passes and one below it is reported (R100). -/
theorem test_margin_at_and_below_the_floor :
    let s := runs .margin 0 31 false linked
    let at12 := after s (.jobCompletion ⟨none, 12⟩)
    let at11 := after s (.jobCompletion ⟨none, 11⟩)
    at12.errors = s.errors ∧ (at12.face 0).lastMargin = some 12
      ∧ at11.errors.minor.first.map (·.kind) = some .marginLow ∧ (at11.face 0).lastMargin = some 11 := by decide +kernel

theorem test_SweepCompletions_hypotheses :
    let s := runs .sweep 1 23 false (training.modRecord 0 (fun r => { r with sweepOutstanding := 0x0002#16 }))
    s.lastJob ∧ s.tableAtRest ∧ s.settlesOnCompletion 1 = false ∧ (s.face 1).pinned = false ∧ s.faceLeg 1 = some 0
      ∧ (s.leg 0).record.any (fun r => setHas r.sweepOutstanding 1 && !setHas r.readyReceived 1) = true
      ∧ (training.leg 0).record.any (fun r => !setHas r.sweepOutstanding 1) = true
      ∧ setHas s.resultOwed 1 = false ∧ setHas (s.setOwed 0x0002#16).resultOwed 1 = true := by
  unfold State.lastJob State.tableAtRest; decide +kernel

/-- A MARGIN below the floor that completes while a report is in flight (R126). -/
theorem test_margin_low_behind_a_report_hypotheses :
    let s := onTheWay (runs .margin 0 31 false linked)
    let flown := (s.modFace 0 (fun x => { x with lastMargin := some 11 })).handFlight
    s.inFlight ≠ [] ∧ s.engine.running = some ⟨⟨0, .margin, .leg, 0#8⟩, 31, 31, false⟩ ∧ s.tableAtRest
      ∧ s.noSlotOn 0 .tallyThreshold ∧ s.noSlotOn 0 .marginLow ∧ 11 < (s.leg 0).marginFloor ∧ s.engine.urgentPending = false
      ∧ flown.noSlotOn 0 .tallyThreshold ∧ flown.noSlotOn 0 .marginLow ∧ (∀ g : FaceId, flown.queued g = none)
      ∧ ((after s (.jobCompletion ⟨none, 11⟩)).errors.minor.first.map (·.kind) = some .marginLow)
      ∧ (after s (.jobCompletion ⟨none, 11⟩)).errors.major.first.map (·.kind) = some .signalLost := by
  unfold State.tableAtRest State.noSlotOn; decide +kernel

/-- A SWEEP with a swap due, and one on a face that was pinned while it ran (R78, R80). -/
theorem test_swapping_and_pinned_sweeps :
    let s := runs .sweep 0 23 false linked
    let due := s.modFace 0 (fun x => { x with pending := true, swapOnCompletion := true, staged := ⟨⟨1, 2⟩, ⟨3, 4, 5, 6⟩⟩ })
    let pinned := s.modFace 0 (fun x => { x with pinned := true })
    due.lastJob ∧ pinned.lastJob ∧ s.tableAtRest ∧ due.path (facePath 0) = .passing ∧ setHas s.resultOwed 0 = false
      ∧ s.faceLeg 0 = some 0 ∧ (s.leg 0).record = none
      ∧ ((after due (.jobCompletion ⟨some ⟨7, 7, 7, 7⟩, 5⟩)).face 0).active = ⟨⟨1, 2⟩, ⟨3, 4, 5, 6⟩⟩
      ∧ ((after due (.jobCompletion ⟨none, 5⟩)).face 0).active = ⟨⟨1, 2⟩, ⟨3, 4, 5, 6⟩⟩
      ∧ ((after pinned (.jobCompletion ⟨some ⟨7, 7, 7, 7⟩, 5⟩)).face 0).active = (s.face 0).active := by
  unfold State.lastJob State.tableAtRest; decide +kernel

/-- A SWEEP whose leg has no attempt in progress, its result owed or not. -/
theorem test_sweep_without_a_record_hypotheses :
    let s := runs .sweep 15 23 false State.reset
    s.lastJob ∧ s.tableAtRest ∧ s.settlesOnCompletion 15 = false ∧ (s.face 15).pinned = false
      ∧ (s.faceLeg 15).all (fun l => (s.leg l).record.isNone) = true ∧ setHas s.resultOwed 15 = false
      ∧ setHas (s.setOwed 0x8000#16).resultOwed 15 = true := by
  unfold State.lastJob State.tableAtRest; decide +kernel

theorem test_SidebandChanges_hypotheses :
    (let s := State.reset.modSlot 0 3 (fun _ => ⟨.alert, some .either, some .hold, 255⟩)
     s.tableAtRest ∧ (s.wiresOf 0).alert.asserted = false ∧ (s.slot 0 3).source = .alert
      ∧ ((after s (.alertRise 0)).slot 0 3).fires = 255)
    ∧ ((State.reset.settleFilter 0 .present true).wiresOf 0).present.asserted = true
    ∧ (State.reset.wiresOf 0).present.asserted = false
    ∧ (let s := (heard 0 linked).modMonitor 0 (fun m => { m with slips := 16 })
       s.tableAtRest ∧ s.inFlight = [] ∧ s.faceLeg 0 = some 0 ∧ (s.monitor 0).signal = .present ∧ (s.monitor 0).lock = .locked
        ∧ (s.monitor 0).slips = (s.monitor 0).windowLimit ∧ (s.monitor 0).burstRaised = false ∧ s.noSlotOn 0 .slipBurst
        ∧ (s.errors.settings[(2 : Fin 14)]).enable = true ∧ setHas (s.tally 0).kinds 2 = true ∧ (s.tally 0).value < 255
        ∧ (let u := s.modTally 0 (fun x => { x with threshold := 1 })
           (u.tally 0).value + 1 = (u.tally 0).threshold))
    ∧ (let s := runs .margin 0 31 false linked
       s.lastJob ∧ s.faceLeg 0 = some 0 ∧ (Finding.mk none 11).valid = true ∧ 11 < (s.leg 0).marginFloor) := by
  unfold State.tableAtRest State.noSlotOn State.lastJob; decide +kernel

theorem test_SlotActions_hypotheses :
    (∀ a : Action, a ∈ [Action.retrain, .hold, .release, .capture, .notify] →
      let s := onWake a linked
      s.tableAtRest ∧ s.noSlotOn 0 .tallyThreshold ∧ (∀ i : SlotId, i ≠ 3 → (s.slot 0 i).source ≠ .wake)
        ∧ (s.slot 0 3).source = .wake ∧ (s.slot 0 3).edge = some .either ∧ (s.slot 0 3).action = some a)
    ∧ edgeMatches .either .rise = true ∧ edgeMatches .either .fall = true ∧ edgeMatches .fall .rise = false
    ∧ isLinked (linked.leg 0).state = true ∧ isLinked (held.leg 0).state = false := by
  unfold State.tableAtRest State.noSlotOn; decide +kernel

theorem test_ErrorUnit_hypotheses :
    (State.reset.errors.settings[kindIndex .storeFault]).enable = true
      ∧ State.reset.errors.log .critical = ⟨none, none, 0⟩ ∧ State.reset.errors.log .minor = ⟨none, none, 0⟩
      ∧ ((({ State.reset with errors := { State.reset.errors with
          settings := Vector.replicate 14 ⟨false, .minor⟩ } } : State)).errors.settings[kindIndex .slipBurst]).enable = false := by
  decide +kernel

theorem test_FramePlan_hypotheses :
    State.reset.frame.state = .sending
      ∧ (State.reset.modFrame (fun x => { x with state := .halted })).frame.state = .halted
      ∧ State.reset.pullsSbl = true
      ∧ (State.reset.modFrame (fun x => { x with state := .idle })).pullsSbl = false := by decide +kernel

/-- R146: without a difference, a flag that WAKE or DEGRADED items alone had set becomes clear under a SHORT plan. -/
theorem test_FramePlan_flags :
    let flagged := fun short : Bool => State.reset.modFrame (fun x =>
      { x with state := .halted, changePending := true, shortPending := short })
    let asked : SlotPlan → FramePlan := fun slots => { State.reset.frame.plan with slots := slots }
    let pends := fun (s : State) (slots : SlotPlan) =>
      (after s (.setFramePlan 7 [byte (slotPlanCode slots), byte (bitTimeCode (asked slots).bit),
        byte (startWidthCode (asked slots).start)])).frame.changePending
    (flagged true).takesRequests ∧ (flagged true).differs .short = false ∧ (flagged true).differs .long = false
      ∧ pends (flagged false) .short = false ∧ pends (flagged true) .short = true ∧ pends (flagged false) .long = true := by
  unfold State.takesRequests; decide +kernel

theorem test_operand_ranges : (kindBody [14#8, 1#8, 2#8]).isSome = true ∧ kindBody [15#8, 0#8, 0#8] = none
    ∧ kindBody [0#8, 0#8, 0#8] = none ∧ (tallyBody [3#8, 0xFF#8, 0x0F#8, 255#8]).isSome = true
    ∧ tallyBody [0#8, 0#8, 16#8, 0#8] = none ∧ tallyBody [4#8, 0#8, 0#8, 0#8] = none
    ∧ controlBody [2#8, 0#8, 0#8] = none ∧ ofLength 3 [0#8, 3#8, 0#8] (framePlanAt [0#8, 3#8, 0#8] 0) = none := by
  decide +kernel

theorem test_FilteredInputs_hypotheses :
    State.reset.noSlotOn 0 .alert ∧ State.reset.noSlotOn 0 .wake ∧ State.reset.noSlotOn 0 .present
      ∧ (State.reset.wiresOf 0).alert.asserted = false ∧ (State.reset.wiresOf 0).present.asserted = false
      ∧ ((State.reset.settleFilter 0 .alert true).wiresOf 0).alert.asserted = true
      ∧ ((held.settleFilter 0 .present true).wiresOf 0).present.asserted = true
      ∧ (held.settleFilter 0 .present true).tableAtRest ∧ (held.settleFilter 0 .present true).noSlotOn 0 .present := by
  unfold State.tableAtRest State.noSlotOn; decide +kernel

theorem test_Frames_hypotheses :
    (let x := (State.reset.modFrame (fun x => { x with state := .idle, mode := .quiet })).frame
     x.state = .idle ∧ x.mode = .quiet)
    ∧ (let x := (State.reset.modFrame (fun x => { x with state := .idle })).frame
       x.mode = .continuous ∧ x.gap = 0 ∧ 0 < { x with gap := 1 }.gap)
    ∧ State.reset.frame.snapshot.isSome = true ∧ State.reset.table = noWork ∧ (onTheWay State.reset).table = noWork
    ∧ (onTheWay State.reset).frame.state = .sending
    ∧ State.reset.frame.snapshot.any (fun x => decide (11 < slotCount x.plan.slots) && !x.slot 11) = true := by decide +kernel

theorem test_TestStart_hypotheses :
    (setHas (0x40000000#31) 30 = true ∧ (1#31) ≠ 0#31 ∧ 3600 ≤ 3600) ∧ setHas (0x3FFFFFFF#31) 30 = false
      ∧ isLinked (State.reset.leg 0).state = false ∧ isLinked (linked.leg 0).state = true ∧ linked.tableAtRest
      ∧ linked.takesRequests := by
  unfold State.takesRequests State.tableAtRest; decide +kernel

theorem test_TestsEnd_hypotheses :
    testing.tableAtRest ∧ testing.takesRequests ∧ (testing.leg 0).state = .test
      ∧ (testing.test 0).any (fun r => decide (r.status = .running) && r.limitTimer.isSome) = true
      ∧ selectWidth (testing.leg 0).configuredWidth (testing.leg 0).minimumWidth (testing.leg 0).excluded
          = some (2, 0b0011#4) := by
  unfold State.takesRequests State.tableAtRest; decide +kernel

/-- A checker of the running test. -/
def withChecker (k : Checker) : State := testing.modChecker 1 (fun _ _ => k)

theorem test_SeekingCheckers_hypotheses :
    (∀ n : Nat, n ∈ [0, 30, 31] → ∀ run : Nat, run ∈ [0, 62, 63] →
      let k : Checker := ⟨.seeking, 0, 0, 0, 0x2AAAAAAA#31, n, run, 0, 0⟩
      let s := withChecker k
      s.tableAtRest ∧ s.faceLeg 1 = some 0 ∧ (s.test 0).isSome = true ∧ s.checkerOf 1 = some k ∧ k.bounded)
    ∧ (let k : Checker := ⟨.lost, 4294967295, 4294967295, 255, 0#31, 0, 0, 0, 0⟩
       let s := heard 1 (withChecker k)
       s.checkerOf 1 = some k ∧ k.bounded ∧ (s.monitor 1).lock = .locked
        ∧ ((withChecker k).monitor 1).lock ≠ .locked) := by
  unfold State.tableAtRest Checker.bounded; decide +kernel

/-- The 63rd right prediction does not lock, the 64th does, and a wrong one starts over (R152). -/
theorem test_lock_at_the_64th_prediction :
    let k (run : Nat) : Checker := ⟨.seeking, 0, 0, 0, 1#31, 31, run, 5, 5⟩
    let b := feedback 0x40000004#31 1#31
    ((k 62).seekBit 0x40000004#31 b).state = .seeking ∧ ((k 63).seekBit 0x40000004#31 b).state = .locked
      ∧ ((k 63).seekBit 0x40000004#31 b).unitBits = 0 ∧ ((k 63).seekBit 0x40000004#31 (!b)).gathered = 0
      ∧ ({ k 63 with gathered := 30 }.seekBit 0x40000004#31 (!b)).gathered = 31 := by decide +kernel

theorem test_LockedCheckers_hypotheses :
    ∀ mism : Nat, mism ∈ [0, 254, 255] → ∀ bits : Nat, bits ∈ [0, 1048319, 1048320, 1048321, 1048574, 1048575] →
      let k : Checker := ⟨.locked, 0, 0, 0, 1#31, 31, 64, bits, mism⟩
      let s := withChecker k
      s.checkerOf 1 = some k ∧ k.bounded ∧ s.tableAtRest ∧ s.noSlotOn 0 .tallyThreshold := by
  unfold State.tableAtRest State.noSlotOn Checker.bounded; decide +kernel

/-- Wrong bits up to the 256th of a unit: within the unit, at its very end, and across it (R153). -/
theorem test_wrong_runs_at_a_unit_end :
    let run (bits mism : Nat) : Checker := (Checker.mk .locked 0 0 0 1#31 31 64 bits mism).wrongRun
    ((run 1048319 0).units = 0 ∧ (run 1048319 0).mismatched = 256)
      ∧ ((run 1048320 0).units = 1 ∧ (run 1048320 0).mismatched = 256)
      ∧ ((run 1048321 0).units = 1 ∧ (run 1048321 0).mismatched = 511)
      ∧ ((run 1048575 1).units = 1 ∧ (run 1048575 1).mismatched = 257)
      ∧ ((run 1048575 255).units = 1 ∧ (run 1048575 255).mismatched = 1) := by decide +kernel

theorem test_Store_hypotheses :
    (State.reset.page 0).locked = false
      ∧ (State.reset.page 3).content = .blank ∧ (State.reset.setOperation (.erasing 2)).store.operation = .erasing 2
      ∧ (State.reset.setOperation (.writing 3 [])).store.operation = .writing 3 []
      ∧ ((State.reset.modPage 1 (fun x => ⟨x.content, true⟩)).page 1).locked = true
      ∧ (onTheWay (State.reset.setOperation (.erasing 2))).store.operation = .erasing 2
      ∧ (onTheWay (State.reset.setOperation (.erasing 2))).table = noWork := by decide +kernel

/-- A PRESETS record of lowest sets, a DEFAULTS record at its lowest values, and a CABLE record of spaces, week 1 and the
shortest cable, whose plan entries are UNUSED. -/
def presets : List Byte := List.replicate 96 0#8
def defaults : List Byte :=
  (List.replicate 4 [0#8, 0#8, 1#8, 1#8, 1#8, 1#8, 0#8, 0#8, 1#8]).flatten ++ List.replicate 5 0#8
def cable : List Byte :=
  List.replicate 16 0x20#8 ++ [0#8, 1#8, 1#8] ++ (List.replicate 8 [0xFF#8, 3#8]).flatten ++ List.replicate 8 0xFF#8

theorem test_records_fit :
    recordFits (0#8 :: cable) ∧ recordFits (1#8 :: presets) ∧ recordFits (2#8 :: defaults)
      ∧ recordFits (3#8 :: List.replicate 96 0xFF#8) := by
  refine ⟨?_, ?_, ?_, trivial⟩
  · simp only [recordFits, laneFits, below, within]
    exact ⟨by decide +kernel, by decide +kernel, by decide +kernel, by decide +kernel, by decide +kernel, by decide +kernel⟩
  · show ∀ k : Nat, k < 16 → setFits _ _
    unfold setFits within; decide +kernel
  · show (∀ k : Nat, k < 4 → below _ _ _ ∧ paramsFit _ _) ∧ planFits _ _ ∧ below _ _ _ ∧ below _ _ _
    unfold paramsFit planFits below within; decide +kernel

theorem test_bad_records : ¬recordFits (1#8 :: List.replicate 96 16#8) ∧ ¬recordFits (2#8 :: List.replicate 41 0#8)
    ∧ ¬recordFits (0#8 :: List.replicate 43 0#8) ∧ lengthFits 0x6A#8 [3#8] = false := by
  refine ⟨fun h => ?_, fun h => ?_, fun h => ?_, by decide +kernel⟩
  · exact absurd (h 0 (by decide)).1 (by unfold within; decide +kernel)
  · exact absurd (h.1 0 (by decide)).2 (by unfold paramsFit below within; decide +kernel)
  · exact absurd (h.1 0 (by decide)) (by unfold within; decide +kernel)

theorem test_StoreWrite_hypotheses :
    lengthFits 0x6A#8 (0#8 :: cable) = true ∧ lengthFits 0x6A#8 (1#8 :: presets) = true
      ∧ lengthFits 0x6A#8 (2#8 :: defaults) = true ∧ lengthFits 0x6A#8 (3#8 :: List.replicate 96 0xFF#8) = true
      ∧ recordInRange 0 cable = true ∧ recordInRange 1 presets = true ∧ recordInRange 2 defaults = true
      ∧ canonicalRecord 0 cable = List.replicate 16 0x20#8 ++ [0#8, 1#8, 1#8]
          ++ (List.replicate 8 [0xFF#8, 0#8]).flatten ++ List.replicate 8 0xFF#8 := by decide +kernel

/-- Pages that are BLANK, TORN and WRITTEN, a map that R5 refuses, and presets and fields in and out of range. -/
theorem test_LoadImage_hypotheses :
    let name : List Byte := List.replicate 19 0x20#8
    let record (m : Vector (Option Lane) 8) : List Byte := name ++ defaultPlan.toList.flatMap placeBytes ++ m.toList.map mapByte
    let twice : Vector (Option Lane) 8 := #v[some 0, some 0, none, none, none, none, none, none]
    let pages (c : PageContent) : Vector Page 4 := Vector.replicate 4 ⟨c, false⟩
    name.length = 19 ∧ mapValid defaultMap defaultPlan = true ∧ mapValid twice defaultPlan = false
      ∧ (loadImage (pages (.written (record defaultMap)))).map = defaultMap
      ∧ (loadImage (pages (.written (record twice)))).map = defaultMap
      ∧ (loadImage (pages .blank)).enable = true ∧ (loadImage (pages .torn)).mode = .continuous
      ∧ (loadImage (pages .blank)).presets[(15 : FaceId)] = factoryPreset
      ∧ (loadImage (pages (.written (List.replicate 96 1#8)))).presets[(15 : FaceId)] = ⟨⟨1, 1⟩, ⟨1, 1, 1, 1⟩⟩
      ∧ (loadImage (pages (.written (List.replicate 96 16#8)))).presets[(15 : FaceId)] = factoryPreset
      ∧ ((loadImage (pages (.written (List.replicate 41 1#8)))).legs[(3 : LegId)]).targetRate = .r50 := by decide +kernel

theorem test_TrimTimer_hypotheses :
    let s := runs .trim 5 0 false (linked.modLeg 0 (fun x => { x with trimTimer := some 0 }))
    isLinked (s.leg 0).state = true ∧ (s.leg 0).trimTimer.isSome = true
      ∧ s.engine.running.isSome = true ∧ linked.engineIdle ∧ isLinked (training.leg 0).state = false := by
  unfold State.engineIdle; decide +kernel

/-- C-face 1 of leg 0 in the exchange of its first attempt, with the record as the attempt's start leaves it. -/
theorem test_exchange : training.inExchange 1 ⟨0, 0⟩ (freshRecord 1 0b111#3) ∧ (training.face 1).status = .announced
    ∧ setHas (freshRecord 1 0b111#3).partnerAnnounced 1 = false := by
  unfold State.inExchange; decide +kernel

theorem test_Discarded_hypotheses :
    (0#8 : Byte) ≠ crc8 [1#8, 0#8, 0#8] ∧ State.reset.path (facePath 0) ≠ .training ∧ (training.face 0).status = .idle
      ∧ State.reset.path 0 = .parked ∧ training.path 0 = .training ∧ (training.face 1).status = .announced
      ∧ linked.path 0 = .passing ∧ (testing.path 0 = .testing ∧ testing.generators[(0 : FaceId)] = none)
      ∧ (testing.generators[(1 : FaceId)] = some 1#31 ∧ (testing.leg 0).agreedRate = some .r50) ∧ linked.mapSound
      ∧ linked.map[(0 : PathId)] = some 0
      ∧ (∀ p : PathId, ({ linked with
          map := #v[none, some 1, some 2, some 3, some 4, some 5, some 6, some 7] } : State).map[p] ≠ some 0) := by
  unfold State.mapSound; decide +kernel

/-- The record of an exchange with C-face 3 heard and all rates offered by its partner. -/
def heardOne : TrainRecord :=
  { freshRecord 1 0b111#3 with
    partnerAnnounced := 0x0008#16, partnerRates := (freshRecord 1 0b111#3).partnerRates.set 1 (some 0b111#3) }

def lastOne : State := runs .margin 15 0 false (training.modLeg 0 (fun x => { x with record := some heardOne }))

/-- S-face 0 announced in the S phase. -/
def sPhase : State :=
  runs .margin 15 0 false ((agreed.modLeg 0 (fun x => { x with
    record := some { freshRecord 1 0b111#3 with phase := .s } })).setStatus 0 .announced)

theorem test_Announces_hypotheses :
    (let s := runs .margin 15 0 false training
     s.inExchange 1 ⟨0, 0⟩ (freshRecord 1 0b111#3) ∧ (s.face 1).status ≠ .idle
      ∧ s.engine.running = some ⟨⟨15, .margin, .leg, 0#8⟩, 0, 0, false⟩
      ∧ (s.inGroup 1 ⟨0, 1⟩ ∧ (1 : PathId) ≠ facePath 1 ∧ setHas (freshRecord 1 0b111#3).partnerAnnounced 3 = false))
    ∧ (lastOne.inExchange 1 ⟨0, 0⟩ heardOne ∧ lastOne.engine.running.isSome = true ∧ (lastOne.face 1).status ≠ .idle
      ∧ setHas heardOne.partnerAnnounced 3 = true ∧ setHas heardOne.partnerAnnounced 1 = false)
    ∧ (training.engineIdle ∧ ∀ g : FaceId, training.onLeg 0 g = true → (training.face g).pinned = false)
    ∧ (sPhase.inExchange 0 ⟨0, 0⟩ { freshRecord 1 0b111#3 with phase := .s } ∧ (sPhase.face 0).status ≠ .idle
      ∧ (sPhase.leg 0).agreedRate = some .r50 ∧ setHas (0b010#3) (rateIndex .r50) = true ∧ sPhase.engine.running.isSome = true)
    ∧ (3 ≠ 0 ∧ 3 ≠ (freshRecord 1 0b111#3).attempt) := by
  unfold State.inExchange State.inGroup State.engineIdle; decide +kernel

theorem test_last_announce_hypotheses :
    (∀ (p : PathId) (x : Place), lastOne.inGroup p x → x.leg = 0 → p ≠ facePath 1 →
      setHas heardOne.partnerAnnounced (cFace p).val = true)
    ∧ lastOne.commonRate 0 heardOne (facePath 1) 0b010#3 (rateIndex .r50)
    ∧ ¬lastOne.commonRate 0 heardOne (facePath 1) 0b010#3 2
    ∧ ∀ k : Nat, k < 3 → ¬lastOne.commonRate 0 heardOne (facePath 1) 0b000#3 k := by
  have announced : ∀ p : PathId, (lastOne.place p).map (·.leg) = some 0 → p ≠ facePath 1 →
      setHas heardOne.partnerAnnounced (cFace p).val = true := by decide +kernel
  have rates : ∀ p : PathId, (lastOne.place p).map (·.leg) = some 0 → p ≠ facePath 1 →
      setHas ((heardOne.partnerRates[p]).getD 0#3) (rateIndex .r50) = true := by decide +kernel
  refine ⟨fun p x h hl hp => announced p (by rw [h.1]; simp [hl]) hp, ⟨by decide +kernel, by decide +kernel,
    fun p q h hl hp => rates p (by rw [h.1]; simp [hl]) hp⟩, fun h => ?_, fun k _ h => ?_⟩
  · exact absurd h.2.1 (by decide +kernel)
  · have h2 := h.2.1
    simp [setHas] at h2

theorem test_Adjust_hypotheses :
    training.inExchange 1 ⟨0, 0⟩ (freshRecord 1 0b111#3) ∧ (training.face 1).status ≠ .idle
      ∧ ((after training (.partnerAdjust 1 ⟨0#8, 1#8, crc8 [2#8, 0#8, 1#8]⟩)).sent.getLast?.map (·.face)) = some 1 := by
  unfold State.inExchange; decide +kernel

/-- Both C-faces of leg 0 tuned: the part has sent READY on face 1, and face 3 is READY. -/
def nearlyReady : TrainRecord :=
  { freshRecord 1 0b111#3 with partnerAnnounced := 0x000A#16, readySent := 0x000A#16, readyReceived := 0x0008#16 }

def lastC : State :=
  ((agreed.modLeg 0 (fun x => { x with record := some nearlyReady })).setStatus 1 .tuning).setStatus 3 .ready

/-- Both S-faces tuned in the S phase: the part has sent READY on face 0, and face 2 is READY. -/
def nearlyUp : TrainRecord :=
  { freshRecord 1 0b111#3 with phase := .s, readySent := 0x000F#16, readyReceived := 0x000E#16 }

def lastS : State :=
  ((((agreed.modLeg 0 (fun x => { x with record := some nearlyUp })).setStatus 0 .tuning).setStatus 1 .ready).setStatus 2
    .ready).setStatus 3 .ready

theorem test_Ready_hypotheses :
    (lastC.tableAtRest ∧ lastC.mapSound ∧ lastC.inExchange 1 ⟨0, 0⟩ nearlyReady ∧ (lastC.face 1).status = .tuning
      ∧ setHas nearlyReady.readyReceived 1 = false ∧ setHas nearlyReady.readySent 1 = true
      ∧ isCFace 1 = decide (nearlyReady.phase = .c) ∧ (lastC.leg 0).agreedRate = some .r50)
    ∧ (lastS.tableAtRest ∧ lastS.mapSound ∧ lastS.inExchange 0 ⟨0, 0⟩ nearlyUp ∧ (lastS.face 0).status = .tuning
      ∧ setHas nearlyUp.readyReceived 0 = false ∧ setHas nearlyUp.readySent 0 = true
      ∧ isCFace 0 = decide (nearlyUp.phase = .c) ∧ lastS.noSlotOn 0 .tallyThreshold)
    ∧ (setHas (freshRecord 1 0b111#3).readySent 1 = false ∧ (lastS.face 1).status = .ready
      ∧ setHas (freshRecord 1 0b111#3).readyReceived 1 = false) := by
  unfold State.inExchange State.tableAtRest State.mapSound State.noSlotOn; decide +kernel

theorem test_last_ready_hypotheses :
    (∀ (g : FaceId) (x : Place), lastC.inGroup (facePath g) x → x.leg = 0 → isCFace g = true → g ≠ 1 →
      (lastC.face g).status = .ready)
    ∧ ∀ (g : FaceId) (x : Place), lastS.inGroup (facePath g) x → x.leg = 0 → isCFace g = false → g ≠ 0 →
      (lastS.face g).status = .ready := by
  refine ⟨fun g x h => ?_, fun g x h => ?_⟩
  · have hx := h.1
    have key : ∀ g : FaceId, (lastC.place (facePath g)).map (·.leg) = some 0 → isCFace g = true → g ≠ 1 →
        (lastC.face g).status = .ready := by decide +kernel
    intro hl hc hg
    exact key g (by rw [hx]; simp [hl]) hc hg
  · have hx := h.1
    have key : ∀ g : FaceId, (lastS.place (facePath g)).map (·.leg) = some 0 → isCFace g = false → g ≠ 0 →
        (lastS.face g).status = .ready := by decide +kernel
    intro hl hc hg
    exact key g (by rw [hx]; simp [hl]) hc hg

theorem test_last_ready_moves_the_attempt :
    (((after lastC (.partnerReady 1 ⟨0#8, 0#8, crc8 [4#8, 0#8, 0#8]⟩)).leg 0).record.map (·.phase)) = some .s
      ∧ ((after lastS (.partnerReady 0 ⟨0#8, 0#8, crc8 [4#8, 0#8, 0#8]⟩)).leg 0).state = .active := by decide +kernel

/-- A SWEEP result that comes after the partner's READY: of a C-face before the last, of the last C-face and of the last
S-face (R57, R59, R60). -/
def readyFirst (r : TrainRecord) (f : FaceId) (s : State) : State :=
  s.modLeg 0 (fun x => { x with record := some { r with
    sweepOutstanding := setAdd 0#16 f.val, readyReceived := setAdd r.readyReceived f.val } })

theorem test_ready_before_the_sweep_hypotheses :
    (∀ x : State × TrainRecord × FaceId, x ∈ [(lastC.setStatus 3 .tuning, nearlyReady, 1), (lastC, nearlyReady, 1), (lastS, nearlyUp, 0)] →
      let (b, r, f) := x
      let rec' : TrainRecord := { r with
        sweepOutstanding := setAdd 0#16 f.val, readyReceived := setAdd r.readyReceived f.val }
      let s := runs .sweep f 23 false (readyFirst r f b)
      s.lastJob ∧ s.tableAtRest ∧ s.mapSound ∧ s.inExchange f ⟨0, 0⟩ rec' ∧ setHas s.resultOwed f.val = false
        ∧ s.settlesOnCompletion f = false ∧ (s.face f).pinned = false ∧ setHas rec'.sweepOutstanding f.val = true
        ∧ setHas rec'.readyReceived f.val = true ∧ isCFace f = decide (rec'.phase = .c)
        ∧ (s.leg 0).agreedRate = some .r50 ∧ s.noSlotOn 0 .tallyThreshold)
    ∧ ((after (runs .sweep 1 23 false (readyFirst nearlyReady 1 (lastC.setStatus 3 .tuning)))
        (.jobCompletion ⟨some ⟨0, 0, 0, 0⟩, 0⟩)).face 1).status = .ready
    ∧ ((after (runs .sweep 1 23 false (readyFirst nearlyReady 1 lastC))
        (.jobCompletion ⟨some ⟨0, 0, 0, 0⟩, 0⟩)).leg 0).record.map (·.phase) = some .s
    ∧ ((after (runs .sweep 0 23 false (readyFirst nearlyUp 0 lastS))
        (.jobCompletion ⟨some ⟨0, 0, 0, 0⟩, 0⟩)).leg 0).state = .active := by
  unfold State.lastJob State.tableAtRest State.mapSound State.inExchange State.noSlotOn; decide +kernel

/-- The same of a SWEEP that SET TUNE MASK lets the engine take on a pinned face. -/
theorem test_ready_before_a_pinned_sweep_hypotheses :
    let rec' : TrainRecord := { nearlyReady with sweepOutstanding := 0x0002#16, readyReceived := 0x000A#16 }
    let s := (((readyFirst nearlyReady 1 lastC).setQueued 1 (some ⟨1, .sweep, .leg, 9#8⟩)).modEngine (fun e =>
      { e with mask := 0x0002#16 })).modFace 1 (fun x => { x with pinned := true })
    s.takesRequests ∧ s.tableAtRest ∧ s.mapSound ∧ s.inExchange 1 ⟨0, 0⟩ rec' ∧ s.engine.running = none
      ∧ s.engine.suspended = none ∧ s.queued 1 = some ⟨1, .sweep, .leg, 9#8⟩
      ∧ (∀ g : FaceId, g ≠ 1 → (s.queued g).isSome = true → setHas (0#16) g.val = true) ∧ (s.face 1).pinned = true
      ∧ (((after s (.setTuneMask 1#8 [0#8, 0#8])).leg 0).record.map (·.phase)) = some .s := by
  unfold State.takesRequests State.tableAtRest State.mapSound State.inExchange; decide +kernel

theorem test_Failures_hypotheses :
    (training.tableAtRest ∧ training.noSlotOn 0 .tallyThreshold ∧ training.noSlotOn 0 .signalLost
      ∧ (training.leg 0).limitTimer.isSome = true ∧ (training.leg 0).attemptCount + 1 ≠ (training.leg 0).retryBudget
      ∧ selectWidth (training.leg 0).configuredWidth (training.leg 0).minimumWidth 0b0001#4 = some (1, 0b0010#4)
      ∧ selectWidth (training.leg 0).configuredWidth (training.leg 0).minimumWidth 0b0000#4 = some (2, 0b0011#4)
      ∧ selectWidth 2 2 0b0001#4 = none)
    ∧ (let x := (training.modLeg 0 (fun x => { x with retryBudget := 1 })).leg 0
       x.attemptCount + 1 = x.retryBudget ∧ x.state = .training)
    ∧ setHas (0b001#3) (rateIndex .r50) = false := by
  unfold State.tableAtRest State.noSlotOn; decide +kernel

theorem test_LaneFaults_hypotheses :
    (let s := heard 1 training
     s.inFlight = [] ∧ (s.monitor 1).signal = .present ∧ (s.monitor 1).lock = .locked
      ∧ s.inExchange 1 ⟨0, 0⟩ (freshRecord 1 0b111#3))
    ∧ (let s := after (heard 1 training) (.signalLost ⟨1, .raised⟩)
       s.inFlight.map (fun x => (x.kind, x.face, x.leg)) = [(.signalLost, some 1, some 0)]
        ∧ s.inExchange 1 ⟨0, 0⟩ (freshRecord 1 0b111#3))
    ∧ (let s := after (heard 1 training) (.lockLost ⟨1, .raised⟩)
       s.inFlight.map (fun x => (x.kind, x.face, x.leg)) = [(.lockLost, some 1, some 0)])
    ∧ (let r : TrainRecord := { freshRecord 1 0b111#3 with sweepOutstanding := 0x0002#16 }
       let s := runs .sweep 1 0 false (training.modLeg 0 (fun x => { x with record := some r }))
       s.engine.running = some ⟨⟨1, .sweep, .leg, 0#8⟩, 0, 0, false⟩ ∧ s.lastJob ∧ setHas s.resultOwed 1 = false
        ∧ s.inExchange 1 ⟨0, 0⟩ r ∧ setHas r.sweepOutstanding 1 = true) := by
  unfold State.inExchange State.lastJob; decide +kernel

/-- A partner's position that is not the path's. -/
theorem test_position_mismatch_hypotheses :
    training.inExchange 1 ⟨0, 0⟩ (freshRecord 1 0b111#3) ∧ (training.face 1).status ≠ .idle
      ∧ setHas (freshRecord 1 0b111#3).partnerAnnounced 1 = false ∧ (1 : Pos) ≠ (Place.mk 0 0).pos
      ∧ (let t := after training (.partnerAnnounce 1 (announceWordOf 1 0 0b111#3 0))
         (t.leg 0).excluded = 0b0001#4 ∧ (t.leg 0).attemptCount = 1
          ∧ [t.errors.critical, t.errors.major, t.errors.minor].filterMap (fun g => g.first.map (·.kind)) =
              [.positionMismatch]) := by
  unfold State.inExchange; decide +kernel

theorem group_iff (s : State) (l : LegId) (g : FaceId) (p : Pos) :
    (∃ x : Place, s.inGroup (facePath g) x ∧ x.leg = l ∧ x.pos = p) ↔
      (s.place (facePath g)).any (fun x => decide (setHas (s.leg x.leg).group x.pos.val = true ∧ x.leg = l ∧ x.pos = p))
        = true := by
  simp only [State.inGroup, Option.any_eq_true, decide_eq_true_eq, and_assoc]

/-- One C-face of the phase is READY and the other is not; with all of them short of READY, or all READY, no set is late
(R64). -/
theorem test_late_set_hypotheses :
    let late (s : State) (c : Bool) (set : PosSet) : Prop := ∀ p : Pos, setHas set p.val = true ↔
      (∃ g : FaceId, (isCFace g = c ∧ ∃ x : Place, s.inGroup (facePath g) x ∧ x.leg = 0 ∧ x.pos = p)
        ∧ (s.face g).status ≠ .ready)
      ∧ ∃ (g : FaceId) (p' : Pos), (isCFace g = c ∧ ∃ x : Place, s.inGroup (facePath g) x ∧ x.leg = 0 ∧ x.pos = p')
        ∧ (s.face g).status = .ready
    late lastC true 0b0001#4 ∧ late lastS false 0b0001#4 ∧ late training true 0b0000#4 ∧ late lastS true 0b0000#4
      ∧ ((after lastC (.trainingLimitExpiry 0)).leg 0).excluded = 0b0001#4
      ∧ ((after training (.trainingLimitExpiry 0)).leg 0).excluded = 0b0000#4 := by
  simp only [group_iff]
  decide +kernel

/-- A SWEEP that does not converge, with a suspended MARGIN outside the group or in it, and a TRIM of another leg pending. -/
theorem test_failed_sweep_hypotheses :
    let r : TrainRecord := { freshRecord 1 0b111#3 with sweepOutstanding := 0x0002#16 }
    let s := (runs .sweep 1 0 false (training.modLeg 0 (fun x => { x with record := some r }))).setQueued 12
      (some ⟨12, .trim, .leg, 0#8⟩)
    (suspends 9 s).lastJob ∧ (suspends 3 s).lastJob ∧ s.inExchange 1 ⟨0, 0⟩ r
      ∧ s.onGroup 0 9 = false ∧ s.onGroup 0 3 = true ∧ s.onGroup 0 12 = false
      ∧ (∀ f : FaceId, (s.queued f).all (fun j => j.face == f) = true)
      ∧ (after (suspends 9 s) (.jobCompletion ⟨none, 0⟩)).queued 12 = some ⟨12, .trim, .leg, 0#8⟩
      ∧ (after (suspends 3 s) (.jobCompletion ⟨none, 0⟩)).engine.running = some ⟨⟨12, .trim, .leg, 0#8⟩, 0, 0, false⟩ := by
  unfold State.lastJob State.inExchange; decide +kernel

/-- A SLIP BURST with the leg controllers' reports behind it, and a monitor's behind those. -/
theorem test_deliveries_hypotheses :
    let s := (heard 1 training).modMonitor 1 (fun m => { m with slips := 16 })
    let b := after (after s (.slip ⟨1, .raised⟩)) (.partnerAbort 3 ⟨0#8, 0#8, crc8 [5#8, 0#8, 0#8]⟩)
    let c := after (heard 3 b) (.signalLost ⟨3, .raised⟩)
    c.inFlight.map (·.kind) = [.slipBurst, .partnerAbort, .signalLost] ∧ c.tableAtRest
      ∧ (∀ k : LegId, c.noSlotOn k .tallyThreshold) ∧ c.noSlotOn 0 .slipBurst
      ∧ (after c (.slip ⟨1, .delivered⟩)).inFlight.map (·.kind) = [.signalLost] ∧ c.handFlight.inFlight = []
      ∧ b.inFlight.map (·.kind) = [.slipBurst, .partnerAbort] ∧ b.handFlight.inFlight = [] := by
  unfold State.tableAtRest State.noSlotOn; decide +kernel

theorem test_monitorNext : monitorNext [] ∧ monitorNext (onTheWay State.reset).inFlight := by
  unfold monitorNext
  refine ⟨fun x more h => (by cases h), fun x more h => ?_⟩
  have key : (onTheWay State.reset).inFlight.all (fun x => decide (x.kind = .signalLost)) = true := by decide +kernel
  rw [h] at key
  simp at key
  exact Or.inl key.1

theorem test_Monitors_hypotheses :
    (training.monitor 1).signal = .lost ∧ (State.reset.monitor 1).signal = .notWatched
      ∧ (let m := (training.modMonitor 1 (fun m => { m with signal := .present })).monitor 1
         m.signal = .present ∧ m.lock = .unlocked)
      ∧ (let s := (heard 1 training).modMonitor 1 (fun m => { m with slips := 16 })
         let waits := after (after (heard 3 s) (.signalLost ⟨3, .raised⟩)) (.slip ⟨1, .now⟩)
         (s.monitor 1).lock = .locked ∧ (s.monitor 1).slips = (s.monitor 1).windowLimit ∧ (s.monitor 1).burstRaised = false
          ∧ s.faceLeg 1 = some 0 ∧ s.tableAtRest ∧ s.noSlotOn 0 .tallyThreshold ∧ s.noSlotOn 0 .slipBurst
          ∧ s.inFlight = [] ∧ waits.inFlight.map (·.kind) = [.signalLost, .slipBurst]
          ∧ (after s (.slip ⟨1, .raised⟩)).inFlight.map (fun x => (x.kind, x.face, x.leg)) = [(.slipBurst, some 1, some 0)]) := by
  unfold State.tableAtRest State.noSlotOn; decide +kernel

theorem test_Losses_hypotheses :
    (let s := heard 0 linked
     s.place (facePath 0) = some ⟨0, 0⟩ ∧ s.tableAtRest ∧ s.noSlotOn 0 .tallyThreshold ∧ s.noSlotOn 0 .signalLost
      ∧ s.inFlight = [] ∧ s.path (facePath 0) = .passing ∧ isLinked (s.leg 0).state = true
      ∧ (s.monitor 0).signal = .present ∧ (s.monitor 0).lock = .locked
      ∧ selectWidth (s.leg 0).configuredWidth (s.leg 0).minimumWidth (s.leg 0).excluded = some (2, 0b0011#4)
      ∧ selectWidth (s.leg 0).configuredWidth (s.leg 0).minimumWidth 0b1111#4 = none)
    ∧ (let s := heard 0 testing
       s.tableAtRest ∧ s.inFlight = [] ∧ s.noSlotOn 0 .signalLost ∧ s.path (facePath 0) = .testing ∧ (s.leg 0).state = .test
        ∧ (s.test 0).any (fun r => decide (r.status = .running)) = true ∧ (s.monitor 0).lock = .locked) := by
  unfold State.tableAtRest State.noSlotOn; decide +kernel

theorem test_invariants_at_reset :
    State.reset.noticesBounded ∧ State.reset.mapSound ∧ State.reset.tableAtRest ∧ State.reset.frameSound
      ∧ State.reset.changesKnown ∧ State.reset.jobsFiled ∧ State.reset.checkersBounded := by
  have filed : ∀ f : FaceId, State.reset.queued f = none := by decide +kernel
  have untested : ∀ l : LegId, State.reset.test l = none := by decide +kernel
  refine ⟨by unfold State.noticesBounded; decide +kernel, by unfold State.mapSound; decide +kernel, rfl,
    by unfold State.frameSound; decide +kernel, by unfold State.changesKnown; decide +kernel, fun f j h => ?_,
    fun l r h => ?_⟩
  · rw [filed f] at h; exact absurd h (by simp)
  · rw [untested l] at h; exact absurd h (by simp)

theorem test_excluded_at_reset : State.reset.pathsSound ∧ State.reset.excludedSound := by
  have hw : ∀ p : PathId, watchedState (State.reset.path p) = false := by decide +kernel
  refine ⟨⟨by unfold State.unmappedSound; decide +kernel, fun p q _ => ?_⟩, by decide +kernel, fun p q _ h => ?_⟩
  · have hp := hw p
    unfold State.pathLaw
    revert hp
    cases State.reset.path p <;> simp [watchedState]
  · rw [hw p] at h
    exact absurd h (by decide)

end Sys2Proof.Tests
end

/-! STAGE FACE: the carried set decodes to itself, its taking writes the staged set alone, and the swap of a settle
point makes active the staged set as it then stands (spec/04 R74, R76, R77). -/

namespace Sys2Proof.Machine

/-! ### A set and its bytes -/

theorem toNat_byte {n : Nat} (h : n < 256) : (byte n).toNat = n := by
  simp [byte, Nat.mod_eq_of_lt h]

theorem toInt_signedByte {n : Int} (hlo : -128 ≤ n) (hhi : n ≤ 127) : (signedByte n).toInt = n := by
  rw [signedByte, BitVec.toInt_ofInt]
  exact Int.bmod_eq_of_le (by omega) (by omega)

theorem EqSet.valid_iff (e : EqSet) :
    e.valid = true ↔ e.tx.pre ≤ 10 ∧ e.tx.post ≤ 14 ∧ e.tx.pre + e.tx.post ≤ 24 ∧ e.rx.peaking ≤ 15 ∧ e.rx.gain ≤ 31
      ∧ -31 ≤ e.rx.dfe1 ∧ e.rx.dfe1 ≤ 31 ∧ -15 ≤ e.rx.dfe2 ∧ e.rx.dfe2 ≤ 15 := by
  simp [EqSet.valid, and_assoc]

/-- The six bytes of a valid set decode to that set (R69, R173). -/
theorem eqSetAt_bytes {e : EqSet} (b : Byte) (h : e.valid = true) : eqSetAt (b :: e.bytes) 1 = some e := by
  obtain ⟨hpre, hpost, -, hpeaking, hgain, hdfe1, hdfe1', hdfe2, hdfe2'⟩ := e.valid_iff.mp h
  have pre : (byte e.tx.pre).toNat = e.tx.pre := toNat_byte (by omega)
  have post : (byte e.tx.post).toNat = e.tx.post := toNat_byte (by omega)
  have peaking : (byte e.rx.peaking).toNat = e.rx.peaking := toNat_byte (by omega)
  have gain : (byte e.rx.gain).toNat = e.rx.gain := toNat_byte (by omega)
  have dfe1 : (signedByte e.rx.dfe1).toInt = e.rx.dfe1 := toInt_signedByte (by omega) (by omega)
  have dfe2 : (signedByte e.rx.dfe2).toInt = e.rx.dfe2 := toInt_signedByte (by omega) (by omega)
  simp only [eqSetAt, EqSet.bytes, byteAt, signedAt, List.getD_cons_succ, List.getD_cons_zero, pre, post, peaking, gain,
    dfe1, dfe2]
  exact if_pos ⟨hpre, hpost, hpeaking, hgain, hdfe1, hdfe1', hdfe2, hdfe2'⟩

/-- The body of a face and a valid set decodes to them. -/
theorem stageBody_bytes {e : EqSet} (f : FaceId) (h : e.valid = true) :
    stageBody (byte f.val :: e.bytes) = some (f, e) := by
  have length : (byte f.val :: e.bytes).length = 7 := rfl
  simp [stageBody, ofLength, length, finAt_byte, eqSetAt_bytes _ h, h]

/-! ### STAGE FACE and the settle point -/

theorem exec_stageFace (tag : Byte) (body : List Byte) (s : State) :
    exec (.stageFace tag body) s = takeRequest 0x31#8 tag body (stageFaceAct body) s := rfl

/-- What Face Settings hands back for a face and a valid set: the staged set written and DONE (R74). -/
theorem stageFaceAct_bytes {e : EqSet} (s : State) (f : FaceId) (h : e.valid = true) :
    stageFaceAct (byte f.val :: e.bytes) s = .plain (s.modFace f (fun x => { x with staged := e })) .done :=
  withOperand_some s _ _ (f, e) (stageBody_bytes f h)

/-- A settle point of a pending face swaps its record (R76, R77). -/
theorem face_settleFace_pending {s : State} {f : FaceId} (h : (s.face f).pending = true) :
    (s.settleFace f).face f = (s.face f).swap := by
  have swapped : s.settleFace f = s.swapFace f := if_pos h
  rw [swapped]
  exact State.face_modFace s f Face.swap

/-- Settles O24: the carried bytes decode to the set they carry, and a settle point of a pending face is its swap. -/
theorem stageFaceWritesTheStagedSet : Obligations.StageFaceWritesTheStagedSet := by
  unfold Obligations.StageFaceWritesTheStagedSet
  refine ⟨fun s tag f e hport hvalid => ?_, fun s f hpending => ?_⟩
  · rw [exec_stageFace]
    exact takeRequest_taken hport (by decide : 7 ≤ 128) (stageFaceAct_bytes _ f hvalid) (.inl rfl)
  · rw [face_settleFace_pending hpending]
    exact ⟨rfl, rfl⟩

end Sys2Proof.Machine

/-! CLEAR LOG: the carried severity's log emptied alone, and what a report of an enabled kind then does to the log and the
notices (spec/07 R124 to R126, R130). -/

namespace Sys2Proof.Machine

/-! ### A severity and its byte -/

/-- The body of one severity decodes to it (R129, R130). -/
theorem severityBody_byte (sev : Severity) : severityBody [byte (severityCode sev)] = some sev := by
  cases sev <;> rfl

/-- A severity byte outside the three decodes to nothing (R179). -/
theorem severityBody_reserved {b : Byte} (h : 3 ≤ b.toNat) : severityBody [b] = none := by
  have field : severityAt [b] 0 = none := by
    unfold severityAt
    split
    case h_4 => rfl
    all_goals
      rename_i code
      simp only [byteAt, List.getD_cons_zero] at code
      omega
  simp [severityBody, ofLength, field]

/-! ### The request -/

theorem exec_clearLog (tag : Byte) (body : List Byte) (s : State) :
    exec (.clearLog tag body) s = takeRequest 0x51#8 tag body (clearLogAct body) s := rfl

/-- The error unit empties the log of the severity carried (R130). -/
theorem clearLogAct_byte (s : State) (sev : Severity) :
    clearLogAct [byte (severityCode sev)] s = .plain { s with errors := s.errors.setLog sev emptyLog } .done :=
  withOperand_some s _ _ sev (severityBody_byte sev)

theorem clearLogAct_reserved (s : State) {b : Byte} (h : 3 ≤ b.toNat) : clearLogAct [b] s = .plain s .invalid :=
  withOperand_none s _ _ (severityBody_reserved h)

/-- CLEAR LOG of one severity: its log is the only thing beside the port that changes (R130). -/
theorem exec_clearLog_byte {s : State} (hport : s.takesRequests) (tag : Byte) (sev : Severity) :
    exec (.clearLog tag [byte (severityCode sev)]) s =
      .next ({ s with errors := s.errors.setLog sev emptyLog }.answered tag 0x51#8 [byte (severityCode sev)] .done []) := by
  rw [exec_clearLog]
  exact takeRequest_taken hport (by decide : 1 ≤ 128) (clearLogAct_byte _ sev) (.inl rfl)

theorem exec_clearLog_reserved {s : State} (hport : s.takesRequests) (tag : Byte) {b : Byte} (h : 3 ≤ b.toNat) :
    exec (.clearLog tag [b]) s = .next (s.answered tag 0x51#8 [b] .invalid []) := by
  rw [exec_clearLog]
  exact takeRequest_taken hport (by decide : 1 ≤ 128) (clearLogAct_reserved _ h) (.inr rfl)

/-! ### Logs -/

@[simp] theorem ErrorUnit.log_setLog_same (e : ErrorUnit) (sev : Severity) (g : Log) : (e.setLog sev g).log sev = g := by
  cases sev <;> rfl

/-- An empty log takes a record as its first (R124). -/
theorem Log.add_empty (x : ErrorRecord) : Log.add ⟨none, none, 0⟩ x = ⟨some x, none, 0⟩ := rfl

theorem State.log_logReport (s : State) (x : ErrorRecord) :
    (s.logReport x).errors.log x.severity = (s.errors.log x.severity).add x := by
  simp [State.logReport]

/-! ### The ERROR notice -/

@[simp] theorem State.errors_errorNotice (s before : State) (x : ErrorRecord) : (s.errorNotice before x).errors = s.errors := by
  unfold State.errorNotice
  split <;> rfl

/-- A record that fills the first record of its severity raises its notice, except for MINOR (R125). -/
theorem State.notices_errorNotice_first {s before : State} {x : ErrorRecord}
    (hfirst : (before.errors.log x.severity).first = none) :
    (s.errorNotice before x).notices =
      if x.severity = .minor then s.notices else s.notices.take (.error s.clock.stamp x.severity x) := by
  by_cases hminor : x.severity = .minor
  · simp [State.errorNotice, hminor]
  · simp [State.errorNotice, hfirst, hminor, State.stamp]

/-! ### The taking of a report -/

@[simp] theorem ErrorUnit.log_withTallies (e : ErrorUnit) (ts : Vector Tally 4) (sev : Severity) :
    { e with tallies := ts }.log sev = e.log sev := by
  cases sev <;> rfl

@[simp] theorem State.log_modTally (s : State) (l : LegId) (g : Tally → Tally) (sev : Severity) :
    (s.modTally l g).errors.log sev = s.errors.log sev :=
  s.errors.log_withTallies (modAt s.errors.tallies l g) sev

/-- A report of a kind that is on is logged with its notice, and at most a tally moves after that (R126). -/
theorem takeReport_enabled {s : State} {r : Report} {x : ErrorRecord}
    (hon : (s.errors.settings[kindIndex r.kind]).enable = true)
    (hx : x = r.toRecord (s.errors.settings[kindIndex r.kind]).severity s.clock.epoch) :
    (s.takeReport r).1 = (s.logReport x).errorNotice s x
      ∨ ∃ l : LegId, (s.takeReport r).1 = ((s.logReport x).errorNotice s x).modTally l Tally.increment := by
  subst hx
  simp only [State.takeReport, hon, Bool.not_true, Bool.false_eq_true, if_false]
  split
  · exact .inl rfl
  · rename_i l _
    split
    · exact .inr ⟨l, rfl⟩
    · exact .inl rfl

/-- The log of the kind's severity takes the record (R124, R126). -/
theorem log_takeReport {s : State} {r : Report} {x : ErrorRecord}
    (hon : (s.errors.settings[kindIndex r.kind]).enable = true)
    (hx : x = r.toRecord (s.errors.settings[kindIndex r.kind]).severity s.clock.epoch) :
    (s.takeReport r).1.errors.log x.severity = (s.errors.log x.severity).add x := by
  obtain h | ⟨l, h⟩ := takeReport_enabled hon hx <;> simp [h, State.log_logReport]

/-- The notices of a report are those of its record (R125, R126). -/
theorem notices_takeReport {s : State} {r : Report} {x : ErrorRecord}
    (hon : (s.errors.settings[kindIndex r.kind]).enable = true)
    (hx : x = r.toRecord (s.errors.settings[kindIndex r.kind]).severity s.clock.epoch) :
    (s.takeReport r).1.notices = ((s.logReport x).errorNotice s x).notices := by
  obtain h | ⟨l, h⟩ := takeReport_enabled hon hx <;> simp [h]

/-- Settles O35: the byte of each severity decodes to it and to nothing else, and an empty log takes the next record as its
first. -/
theorem clearLogEmptiesOneSeverity : Obligations.ClearLogEmptiesOneSeverity := by
  unfold Obligations.ClearLogEmptiesOneSeverity
  refine ⟨fun s tag hport => ⟨?critical, ?major, ?minor, ?reserved⟩, ?nextReport⟩
  case critical => exact exec_clearLog_byte hport tag .critical
  case major => exact exec_clearLog_byte hport tag .major
  case minor => exact exec_clearLog_byte hport tag .minor
  case reserved => exact fun b hb => exec_clearLog_reserved hport tag hb
  case nextReport =>
    intro s r hon sev hempty
    have hfirst : (s.errors.log sev).first = none := by rw [hempty]
    have hlog : (s.takeReport r).1.errors.log sev = (s.errors.log sev).add (r.toRecord sev s.clock.epoch) :=
      log_takeReport hon rfl
    rw [hempty, Log.add_empty] at hlog
    exact ⟨hlog, (notices_takeReport hon rfl).trans (State.notices_errorNotice_first hfirst)⟩

end Sys2Proof.Machine

/-! Writes while the port is WORKING are lost: the OVERRUN flag of the reply, what each write does to a WORKING port, and
the port that a reset leaves (spec/11 R164 to R167, R172). -/

namespace Sys2Proof.Machine

/-! ### What a write and a formed reply do to a WORKING port -/

theorem PortState.isWorking_of_eq {p : PortState} {w : Work} (h : p = .working w) : p.isWorking = true := by
  rw [h]; rfl

theorem exec_writeWhileWorking {s : State} (h : s.port.state.isWorking = true) :
    exec .writeWhileWorking s = .next s.overrunWrite := by
  show execWriteWhileWorking s = _
  simp [execWriteWhileWorking, h]

/-- Every request of the catalogue reaches the port through `takeRequest`, whatever its block (R164, R165). -/
theorem exec_request {i : Instr} {tag code : Byte} {body : List Byte} (s : State)
    (h : requestParts i = some (tag, code, body)) : ∃ act, exec i s = takeRequest code tag body act s := by
  cases i <;> simp only [requestParts, Option.some.injEq, Prod.mk.injEq, reduceCtorEq] at h <;>
    (obtain ⟨rfl, rfl, rfl⟩ := h; exact ⟨_, rfl⟩)

theorem exec_request_working {s : State} {i : Instr} {tag code : Byte} {body : List Byte}
    (h : s.port.state.isWorking = true) (hi : requestParts i = some (tag, code, body)) :
    exec i s = .next s.overrunWrite := by
  obtain ⟨act, taken⟩ := exec_request s hi
  rw [taken, takeRequest_working h]

theorem exec_frameError_working {s : State} {bytes : List Byte} (h : s.port.state.isWorking = true) (hne : bytes ≠ [])
    (hbad : frameOk bytes = false) : exec (.frameError bytes) s = .next s.overrunWrite := by
  show execFrameError bytes s = _
  simp [execFrameError, State.takeWrite, hne, hbad, h]

/-- The reply is formed with the flags as they stand, and the marker is cleared after they are taken (R166, R167). -/
theorem exec_replyFormed_working {s : State} {w : Work} (h : s.port.state = .working w) :
    exec .replyFormed s =
      .next (s.modPort (fun p => { p with state := .replyHeld (replyFrame w s.replyFlags), overrun := false })) := by
  show execReplyFormed s = _
  simp only [execReplyFormed, h]

/-! ### The FLAGS byte of a reply -/

/-- FLAGS stands behind LEN, TAG, CODE and RESULT (R174). -/
theorem byteAt_replyFrame_flags (w : Work) (flags : Byte) : byteAt (replyFrame w flags) 4 = flags.toNat := rfl

/-- Bit 0 of FLAGS is the overrun marker; the other flags stand above it (R174). -/
theorem replyFlags_mod_two (s : State) : s.replyFlags.toNat % 2 = if s.port.overrun then 1 else 0 := by
  have marker := Bool.toNat_le s.port.overrun
  have waiting := Bool.toNat_le (!s.notices.queue.isEmpty)
  have dropped := Bool.toNat_le (decide (s.notices.dropped > 0))
  have bit : s.replyFlags.toNat % 2 = s.port.overrun.toNat := by
    rw [State.replyFlags, toNat_byte (by omega)]
    omega
  rw [bit, Bool.toNat, Bool.cond_eq_ite]

/-! ### The port that a reset leaves -/

@[simp] theorem State.port_startFrame (s : State) : s.startFrame.port = s.port := rfl
@[simp] theorem State.port_loadBlocks (s : State) (image : Image) : (s.loadBlocks image).port = s.port := rfl
@[simp] theorem State.port_beginReset (s : State) (c : ResetCause) (strap : BitVec 2) :
    (s.beginReset c strap).port = portAfterReset strap := rfl

/-- Whatever the table does on a report, the port stays as it is. -/
@[simp] theorem State.port_report (s : State) (r : Report) : (s.report r).port = s.port := by
  obtain ⟨⟨-, -, -, -, hport, -⟩, -⟩ := takingKept_report s r
  exact hport

/-- The STORE FAULT reports of a reset leave the port as it is (R159). -/
theorem State.port_reportFaults (details : List Nat) (s : State) :
    (details.foldl (fun s d => s.report (s.partReport .storeFault (some d))) s).port = s.port :=
  List.foldlRecOn (motive := fun t : State => t.port = s.port) details _ rfl
    (fun t ht d _ => (t.port_report (t.partReport .storeFault (some d))).trans ht)

/-- At the end of a reset the port is as its first part sets it, whatever the load image brings (R164, R172). -/
theorem State.port_resetPart (s : State) (c : ResetCause) (strap : BitVec 2) :
    (s.resetPart c strap).port = portAfterReset strap := by
  simp only [State.resetPart]
  split <;> simp [State.port_reportFaults]

theorem State.overrun_resetPart (s : State) (c : ResetCause) (strap : BitVec 2) :
    (s.resetPart c strap).port.overrun = false := by
  rw [State.port_resetPart]; rfl

/-- Settles O9: every write meets the port through `takeWrite`, the reply's FLAGS are taken before the marker is cleared,
and nothing after a reset's first part touches the port. -/
theorem writesWhileWorkingAreLost : Obligations.WritesWhileWorkingAreLost := by
  unfold Obligations.WritesWhileWorkingAreLost
  refine ⟨fun s w hw => ?working, fun s strap => ?resets⟩
  case working =>
    have working := PortState.isWorking_of_eq hw
    refine ⟨exec_writeWhileWorking working, fun i tag code body hi => exec_request_working working hi,
      fun bytes hne hbad => exec_frameError_working working hne hbad, _, _, exec_replyFormed_working hw, rfl, rfl, ?flag⟩
    case flag => rw [byteAt_replyFrame_flags, replyFlags_mod_two]
  case resets =>
    exact ⟨⟨_, rfl, s.overrun_resetPart .power strap⟩, ⟨_, rfl, s.overrun_resetPart .pin strap⟩,
      fun c => s.overrun_resetPart c strap⟩

end Sys2Proof.Machine

/-! Two checkers of one face in one test record: the second one's unit goes past its 255 mismatches. -/

namespace Sys2Proof.Machine

/-- A LOCKED checker at the start of a unit that already has `m` mismatches. -/
def lockedChecker (m : Nat) : Checker := ⟨.locked, 0, 0, 0, 0#31, 0, 0, 0, m⟩

/-- A running test that lists face 0 twice: the first checker has no mismatch, the second one 255. -/
def twiceListed : TestRecord :=
  ⟨.running, .c, 0#31, 1#31, 0, 0, none, none, [⟨0, lockedChecker 0⟩, ⟨0, lockedChecker 255⟩]⟩

/-- The part after reset with that test on leg 0, and a wrong bit on face 0 waiting. -/
def twiceListedState : State :=
  { State.reset with tests := #v[some twiceListed, none, none, none], pending := [.bitMismatch 0 0] }

/-- The record after the wrong bit: both checkers have counted it, since both are of face 0. -/
def twiceCounted : TestRecord :=
  (twiceListed.modChecker 0 (fun k => k.matchBits 0#31 0)).modChecker 0 (fun k => k.mismatchBit 0#31)

theorem twiceListed_bounded : twiceListedState.checkersBounded := by
  intro l r hr
  have records : ∀ l : LegId, twiceListedState.test l = none ∨ twiceListedState.test l = some twiceListed := by decide
  have hrec : r = twiceListed := by
    rcases records l with h | h <;> rw [h] at hr <;> simp_all
  subst hrec
  have checkers : ∀ c ∈ twiceListed.checkers, c.checker.bounded := by
    simp [twiceListed, lockedChecker, Checker.bounded]
  exact checkers

/-- The 256th mismatch is looked for in the first checker of the face, and counted in every one. -/
theorem step_twiceListed : ∃ t : State, step twiceListedState = .next t ∧ t.test 0 = some twiceCounted :=
  ⟨_, rfl, rfl⟩

theorem twiceCounted_unbounded : ¬ ∀ c ∈ twiceCounted.checkers, c.checker.bounded := by
  simp [twiceCounted, twiceListed, TestRecord.modChecker, Checker.mismatchBit, Checker.matchBits, Checker.addMismatches,
    lockedChecker, Checker.bounded, unitSize]

/-- Refutes O58: the statement ranges over states whose test record lists a face twice, which no test start makes; there a
wrong bit takes the second checker's unit to 256 mismatches. -/
theorem not_everyStepKeepsNoticesLogsAndTable : ¬ Obligations.EveryStepKeepsNoticesLogsAndTable := by
  unfold Obligations.EveryStepKeepsNoticesLogsAndTable
  intro h
  obtain ⟨t, stepped, counted⟩ := step_twiceListed
  obtain ⟨-, -, -, keepsChecked⟩ := h twiceListedState t stepped
  exact twiceCounted_unbounded (keepsChecked twiceListed_bounded 0 twiceCounted counted)

end Sys2Proof.Machine

/-! What every step keeps, in layers. A relation between states that is closed under the small updates (`Basic`) is closed
under the shared operations built from them; closed under the leg controllers' entries and exits as well (`Controlled`), it
holds across every step. Each invariant is then a relation of the form "if it holds before, it holds after". -/

namespace Sys2Proof.Machine

/-! ### The small updates -/

/-- `s` with everything that no law of the map, the paths, the faces, the frame or the engine speaks of taken from `t`. -/
def State.withInert (s t : State) : State :=
  { s with
    resultOwed := t.resultOwed, monitors := t.monitors, slots := t.slots, table := t.table, inFlight := t.inFlight
    errors := t.errors, tests := t.tests, generators := t.generators, store := t.store, port := t.port, bus := t.bus
    notices := t.notices, clock := t.clock, addrPins := t.addrPins, sent := t.sent, readData := t.readData
    freeCount := t.freeCount, pending := t.pending }

/-- A change of a leg context that moves neither its state nor its group, and excludes no position of the group. -/
structure Leg.quiet (x y : Leg) : Prop where
  state : y.state = x.state
  group : y.group = x.group
  excluded : x.group &&& x.excluded = 0#4 → y.group &&& y.excluded = 0#4

/-- The levels of a leg's wires that its slot values show (R139). -/
def LegWires.sameLevels (x y : LegWires) : Prop :=
  y.present.asserted = x.present.asserted ∧ y.alertLatch = x.alertLatch ∧ y.wake.asserted = x.wake.asserted

/-- A relation closed under each update of one part that keeps what is said of that part. -/
structure Basic (R : State → State → Prop) : Prop where
  refl : ∀ s, R s s
  trans : ∀ {a b c}, R a b → R b c → R a c
  inert : ∀ {s t : State}, t = s.withInert t → R s t
  legs : ∀ {s t : State}, t = { s with legs := t.legs } → (∀ k : LegId, (s.leg k).quiet (t.leg k)) → R s t
  faces : ∀ {s t : State}, t = { s with faces := t.faces } → (s.facesSound → t.facesSound) → R s t
  engine : ∀ {s t : State}, t = { s with engine := t.engine } → (s.suspendedIsMargin → t.suspendedIsMargin) →
    (s.jobsFiled → t.jobsFiled) → R s t
  frame : ∀ {s t : State}, t = { s with frame := t.frame } → (s.frameSound → t.frameSound) →
    (s.changesKnown → t.changesKnown) → R s t
  wires : ∀ {s t : State}, t = { s with wires := t.wires } → (∀ k : LegId, (s.wiresOf k).sameLevels (t.wiresOf k)) → R s t

theorem Leg.quiet_refl (x : Leg) : x.quiet x := ⟨rfl, rfl, id⟩

theorem State.leg_modLeg_eq (s : State) (l k : LegId) (g : Leg → Leg) :
    (s.modLeg l g).leg k = if k = l then g (s.leg l) else s.leg k := by
  split
  · rename_i h; rw [h]; exact State.leg_modLeg s l g
  · rename_i h; exact State.leg_modLeg_other s l k g h

theorem State.face_modFace_eq (s : State) (f k : FaceId) (g : Face → Face) :
    (s.modFace f g).face k = if k = f then g (s.face f) else s.face k := by
  split
  · rename_i h; rw [h]; exact State.face_modFace s f g
  · rename_i h; exact State.face_modFace_other s f k g h

theorem State.queued_setQueued_eq (s : State) (f k : FaceId) (j : Option Job) :
    (s.setQueued f j).queued k = if k = f then j else s.queued k := by
  split
  · rename_i h; rw [h]; exact State.queued_setQueued s f j
  · rename_i h; exact State.queued_setQueued_other s f k j h

/-- What `facesSound` says of one face (R69). -/
def Face.sound (x : Face) : Prop :=
  x.active.valid = true ∧ x.staged.valid = true ∧ (x.swapOnCompletion = true → x.pending = true)

theorem facesSound_modFace {s : State} {f : FaceId} {g : Face → Face} (hg : s.facesSound → (g (s.face f)).sound)
    (h : s.facesSound) : (s.modFace f g).facesSound := by
  refine ⟨fun k => ?_, h.2⟩
  rw [State.face_modFace_eq]
  split
  · exact hg h
  · exact h.1 k

section
variable {R : State → State → Prop}

theorem Basic.foldl (h : Basic R) {α : Type} {g : State → α → State} (step : ∀ (s : State) (x : α), R s (g s x))
    (xs : List α) (s : State) : R s (xs.foldl g s) := foldl_rel h.refl (fun _ _ _ => h.trans) step xs s

theorem Basic.modLeg (h : Basic R) {s : State} {l : LegId} {g : Leg → Leg} (q : (s.leg l).quiet (g (s.leg l))) :
    R s (s.modLeg l g) := by
  refine h.legs rfl fun k => ?_
  rw [State.leg_modLeg_eq]
  split
  · rename_i e; rw [e]; exact q
  · exact Leg.quiet_refl _

theorem Basic.modFace (h : Basic R) {s : State} {f : FaceId} {g : Face → Face}
    (hg : s.facesSound → (g (s.face f)).sound) : R s (s.modFace f g) :=
  h.faces rfl (facesSound_modFace hg)

theorem Basic.modRecord (h : Basic R) (s : State) (l : LegId) (g : TrainRecord → TrainRecord) : R s (s.modRecord l g) :=
  h.modLeg ⟨rfl, rfl, id⟩

theorem Basic.setStatus (h : Basic R) (s : State) (f : FaceId) (st : TrainStatus) : R s (s.setStatus f st) :=
  h.modFace fun hs => hs.1 f

/-- An engine that keeps its queue and its suspended job, or loses the suspended one. -/
theorem Basic.modEngine (h : Basic R) {s : State} {g : Engine → Engine} (queue : (g s.engine).queue = s.engine.queue)
    (suspended : (g s.engine).suspended = s.engine.suspended ∨ (g s.engine).suspended = none) : R s (s.modEngine g) := by
  refine h.engine rfl (fun hs x hx => ?_) (fun hs f j hj => ?_)
  · rcases suspended with e | e
    · exact hs x (e ▸ hx)
    · exact absurd (e ▸ hx) (by simp)
  · simp only [State.queued, State.engine_modEngine, queue] at hj
    exact hs f j hj

theorem Basic.setQueued (h : Basic R) {s : State} {f : FaceId} {j : Option Job} (filed : ∀ x, j = some x → x.face = f) :
    R s (s.setQueued f j) := by
  refine h.engine rfl id (fun hs k x hx => ?_)
  rw [State.queued_setQueued_eq] at hx
  split at hx
  · rename_i e; rw [e]; exact filed x hx
  · exact hs k x hx

/-! ### Faces, jobs and reports -/

theorem Basic.restartSuspended (h : Basic R) (s : State) (f : FaceId) : R s (s.restartSuspended f) := by
  refine h.engine rfl (fun hs x hx => ?_) id
  simp only [State.restartSuspended, State.engine_modEngine, Option.map_eq_some_iff] at hx
  obtain ⟨y, hy, rfl⟩ := hx
  have margin := hs y hy
  split <;> exact margin

theorem Face.swap_sound {x : Face} (h : x.sound) : x.swap.sound := ⟨h.2.1, h.2.1, fun e => by simp [Face.swap] at e⟩

theorem Basic.swapFace (h : Basic R) (s : State) (f : FaceId) : R s (s.swapFace f) := by
  have swapped : R s (s.modFace f Face.swap) := h.modFace fun hs => Face.swap_sound (hs.1 f)
  exact h.trans swapped (h.restartSuspended _ f)

theorem Basic.settleFace (h : Basic R) (s : State) (f : FaceId) : R s (s.settleFace f) := by
  simp only [State.settleFace]
  split
  · exact h.swapFace s f
  · exact h.refl s

theorem Basic.handCancelled (h : Basic R) (s : State) (j : Job) : R s (s.handCancelled j) := by
  rw [handCancelled_footprint]; exact h.inert rfl

theorem Basic.jobNotice (h : Basic R) (s : State) (j : Job) (o : JobEnd) (m : Option (Fin 64)) : R s (s.jobNotice j o m) := by
  simp only [State.jobNotice]
  split
  · exact h.inert rfl
  · exact h.refl s

theorem Basic.cancelSuspended (h : Basic R) (s : State) (f : FaceId) : R s (s.cancelSuspended f) := by
  simp only [State.cancelSuspended]
  split
  · split
    · exact h.trans (h.modEngine rfl (.inr rfl)) (h.handCancelled _ _)
    · exact h.refl s
  · exact h.refl s

theorem Basic.cancelPending (h : Basic R) (s : State) (f : FaceId) : R s (s.cancelPending f) := by
  have removed : R s (s.setQueued f none) := h.setQueued (by simp)
  simp only [State.cancelPending]
  split
  · split
    · exact h.trans removed (h.modEngine rfl (.inl rfl))
    · exact h.trans removed (h.handCancelled _ _)
  · exact h.refl s

theorem Basic.cancelRunning (h : Basic R) (s : State) (f : FaceId) : R s (s.cancelRunning f) := h.modEngine rfl (.inl rfl)

theorem Basic.cancelFaces (h : Basic R) (s : State) (fs : List FaceId) : R s (s.cancelFaces fs) :=
  h.foldl (fun s f => h.trans (h.trans (h.cancelSuspended s f) (h.cancelPending _ f)) (h.cancelRunning _ f)) fs s

theorem Basic.handHeld (h : Basic R) (s : State) : R s s.handHeld :=
  h.trans (h.modEngine rfl (.inl rfl)) (h.foldl h.handCancelled _ _)

theorem Basic.takeReport (h : Basic R) (s : State) (r : Report) : R s (s.takeReport r).1 := by
  rw [takeReport_footprint]; exact h.inert rfl

theorem Basic.fireOwn (h : Basic R) (s : State) (ev : TableEvent) (j : SlotId) : R s (s.fireOwn ev j) := by
  have counted : R s (s.countFire ev.leg j) := h.inert rfl
  simp only [State.fireOwn]
  split
  · exact h.trans counted (h.modLeg ⟨rfl, rfl, id⟩)
  · exact h.trans counted (h.inert rfl)
  · exact counted

theorem Basic.tableMid (h : Basic R) (s : State) (l : LegId) : R s (s.tableMid l) := by
  simp only [State.tableMid]
  split
  · exact h.inert rfl
  · have fired := h.foldl (fun s j => h.fireOwn s (thresholdEvent l) j)
      ((s.matchingSlots (thresholdEvent l)).takeWhile (fun j => !(s.slot l j).actsOnLeg)) s
    split
    · exact fired
    · exact h.trans fired (h.inert rfl)

theorem Basic.reportMid (h : Basic R) (s : State) (r : Report) : R s (s.reportMid r) := by
  simp only [State.reportMid]
  split
  · exact h.inert rfl
  · split
    · exact h.inert rfl
    · split
      · exact h.trans (h.takeReport s r) (h.tableMid _ _)
      · exact h.takeReport s r

/-! ### The training exchange and the tests -/

theorem Basic.sendAborts (h : Basic R) (s : State) (l : LegId) (r : AbortReason) : R s (s.sendAborts l r) :=
  h.foldl (fun s f => by
    split
    · exact h.refl s
    · exact h.inert rfl) _ _

theorem Basic.oweResults (h : Basic R) (s : State) (l : LegId) : R s (s.oweResults l) :=
  h.foldl (fun s f => by
    split
    · exact h.inert rfl
    · exact h.refl s) _ _

theorem Basic.dropRecord (h : Basic R) (s : State) (l : LegId) : R s (s.dropRecord l) :=
  h.trans (h.modLeg ⟨rfl, rfl, id⟩) (h.foldl (fun s f => h.setStatus s f _) _ _)

theorem Basic.abandon (h : Basic R) (s : State) (l : LegId) (r : AbortReason) : R s (s.abandon l r) := by
  simp only [State.abandon]
  split
  · exact h.trans (h.trans (h.sendAborts s l r) (h.oweResults _ l)) (h.dropRecord _ l)
  · exact h.refl s

theorem Basic.announceFaces (h : Basic R) (s : State) (l : LegId) (fs : List FaceId) : R s (s.announceFaces l fs) :=
  h.trans (h.foldl (fun s f => h.setStatus s f _) fs s) (h.foldl (fun _ _ => h.inert rfl) fs _)

theorem Basic.startSPhase (h : Basic R) (s : State) (l : LegId) : R s (s.startSPhase l) :=
  h.trans (h.modRecord s l _) (h.announceFaces _ _ _)

theorem Basic.stopGenerators (h : Basic R) (s : State) (t : TestRecord) : R s (s.stopGenerators t) :=
  h.foldl (fun _ _ => h.inert rfl) _ _

theorem Basic.discardTest (h : Basic R) (s : State) (l : LegId) : R s (s.discardTest l) := by
  simp only [State.discardTest]
  split
  · split
    · exact h.trans (h.stopGenerators s _) (h.inert rfl)
    · exact h.refl s
  · exact h.refl s

theorem Basic.endTest (h : Basic R) (s : State) (l : LegId) (c : TestEnd) : R s (s.endTest l c) := by
  simp only [State.endTest]
  split
  · split
    · exact h.trans (h.stopGenerators s _) (h.inert rfl)
    · exact h.refl s
  · exact h.refl s

theorem Basic.acceptAnnounce (h : Basic R) (s : State) (l : LegId) (f : FaceId) (rates : RateSet) :
    R s (s.acceptAnnounce l f rates) := h.trans (h.modRecord s l _) (h.inert rfl)

theorem Basic.enterTuning (h : Basic R) (s : State) (l : LegId) (f : FaceId) : R s (s.enterTuning l f) :=
  h.trans (h.trans (h.setStatus s f _) (h.inert rfl)) (h.modRecord _ l _)

theorem Basic.modChecker (h : Basic R) (s : State) (f : FaceId) (g : Stages → Checker → Checker) : R s (s.modChecker f g) := by
  simp only [State.modChecker]
  split
  · exact h.inert rfl
  · exact h.refl s

end

end Sys2Proof.Machine

/-! A relation closed under the small updates and under the leg controllers' entries and exits holds across every step. -/

namespace Sys2Proof.Machine

/-- A relation closed, besides, under what a leg controller does to its leg and its paths as a whole, under a change of the
wires with the judging that follows it, and under the load of a map and the resets. -/
structure Controlled (R : State → State → Prop) : Prop extends Basic R where
  held : ∀ (s : State) (l : LegId) (c : TrainCause), R s (s.enterHeld l c)
  down : ∀ (s : State) (l : LegId) (st : LegState), st = .off ∨ st = .absent → R s (s.goDown l st)
  attempt : ∀ (s : State) (l : LegId), R s (s.startAttempt l)
  success : ∀ (s : State) (l : LegId), R s (s.succeedAttempt l)
  failure : ∀ (s : State) (l : LegId) (c : AttemptEnd) (faulty : PosSet)
    (error : Option (ErrorKind × Option FaceId × Option Nat)), R s (s.failAttempt l c faulty error)
  enable : ∀ (s : State) (l : LegId), (s.leg l).state = .off → R s (s.enableLeg l)
  legReset : ∀ (s : State) (l : LegId), R s (s.resetLeg l)
  test : ∀ (s : State) (o : TestOrder), R s (s.startTest o)
  rewired : ∀ {s u : State} (w : Vector LegWires 4), R { s with wires := w } u → R s u.judge
  load : ∀ {s : State} {map : Vector (Option Lane) 8}, mapValid map s.plan = true →
    (∀ l : LegId, s.changedBy map l = true → (s.leg l).state = .off) → R s (s.loadMap map)
  partReset : ∀ (s : State) (c : ResetCause) (strap : BitVec 2), R s (s.resetPart c strap)

section
variable {R : State → State → Prop}

/-! ### Leg controllers -/

theorem Controlled.startSeries (h : Controlled R) (s : State) (l : LegId) (c : TrainCause) : R s (s.startSeries l c) :=
  h.trans (h.modLeg ⟨rfl, rfl, id⟩) (h.attempt _ l)

theorem Controlled.holdLeg (h : Controlled R) (s : State) (l : LegId) (c : TrainCause) : R s (s.holdLeg l c) := by
  have asked : R s (s.modLeg l (fun x => { x with holdRequest := true })) := h.modLeg ⟨rfl, rfl, id⟩
  simp only [State.holdLeg]
  cases (s.leg l).state
  case off | absent => exact asked
  case held => exact h.trans asked (h.modLeg ⟨rfl, rfl, id⟩)
  all_goals exact h.trans asked (h.held _ l c)

theorem Controlled.releaseLeg (h : Controlled R) (s : State) (l : LegId) : R s (s.releaseLeg l) := by
  have released : R s (s.modLeg l (fun x => { x with holdRequest := false })) := h.modLeg ⟨rfl, rfl, id⟩
  simp only [State.releaseLeg]
  split
  · exact h.trans released (h.startSeries _ l _)
  · exact released

theorem Controlled.expireHold (h : Controlled R) (s : State) (l : LegId) : R s (s.expireHold l) := by
  have stopped : R s (s.modLeg l (fun x => { x with holdTimer := none })) := h.modLeg ⟨rfl, rfl, id⟩
  simp only [State.expireHold]
  split
  · exact stopped
  · exact h.trans stopped (h.startSeries _ l _)

theorem Controlled.disableLeg (h : Controlled R) (s : State) (l : LegId) : R s (s.disableLeg l) := by
  have disabled : R s (s.modLeg l (fun x => { x with enabled := false })) := h.modLeg ⟨rfl, rfl, id⟩
  simp only [State.disableLeg]
  split
  · exact h.trans disabled (h.modLeg ⟨rfl, rfl, id⟩)
  · exact h.trans disabled (h.down _ l .off (.inl rfl))

theorem Controlled.restoreWidth (h : Controlled R) (s : State) (l : LegId) : R s (s.restoreWidth l) := by
  have emptied : R s (s.modLeg l (fun x => { x with excluded := 0#4 })) := h.modLeg ⟨rfl, rfl, by simp⟩
  simp only [State.restoreWidth]
  split
  · exact h.trans emptied (h.startSeries _ l _)
  · exact emptied

theorem Controlled.retrainAction (h : Controlled R) (s : State) (l : LegId) : R s (s.retrainAction l) := by
  unfold State.retrainAction
  split
  · exact h.startSeries s l _
  · exact h.refl s

theorem Controlled.laneFault (h : Controlled R) (s : State) (l : LegId) (f : FaceId) (error : Option ErrorKind) :
    R s (s.laneFault l f error) := by
  unfold State.laneFault
  exact h.failure s l .lane _ _

theorem Controlled.becomeReady (h : Controlled R) (s : State) (l : LegId) (f : FaceId) : R s (s.becomeReady l f) := by
  have ready : R s (s.setStatus f .ready) := h.setStatus s f .ready
  simp only [State.becomeReady]
  split
  · exact ready
  · split <;> split
    · exact h.trans ready (h.startSPhase _ l)
    · exact ready
    · exact h.trans ready (h.success _ l)
    · exact ready

theorem Controlled.partReady (h : Controlled R) (s : State) (l : LegId) (f : FaceId) : R s (s.partReady l f) := by
  have sent : R s ((s.send f .ready).modRecord l (fun r => { r with readySent := setAdd r.readySent f.val })) :=
    h.trans (h.inert rfl) (h.modRecord _ _ _)
  simp only [State.partReady]
  split
  · exact h.trans sent (h.becomeReady _ _ _)
  · exact sent

theorem Controlled.takeReady (h : Controlled R) (s : State) (l : LegId) (r : TrainRecord) (f : FaceId) :
    R s (s.takeReady l r f) := by
  simp only [State.takeReady]
  split
  · exact h.inert rfl
  · split
    · exact h.trans (h.modRecord s l _) (h.trans (h.inert rfl) (h.becomeReady _ _ _))
    · exact h.modRecord s l _

theorem Controlled.takeSweepResult (h : Controlled R) (s : State) (f : FaceId) (res : SweepResult) :
    R s (s.takeSweepResult f res) := by
  simp only [State.takeSweepResult]
  split
  · exact h.inert rfl
  · split
    · exact h.refl s
    · split
      · cases res
        case converged | pinned => exact h.trans (h.modRecord s _ _) (h.partReady _ _ _)
        case noConverge => exact h.trans (h.modRecord s _ _) (h.laneFault _ _ _ _)
      · exact h.refl s

/-! ### Takings and the reaction table -/

theorem Controlled.legTake (h : Controlled R) (s : State) (l : LegId) (e : Cause) {f : State → State} (taking : R s (f s)) :
    R s (s.legTake l e f) := by
  simp only [State.legTake]
  split
  · exact taking
  · exact h.trans taking (h.inert rfl)

theorem Controlled.legAction (h : Controlled R) (s : State) (l : LegId) (a : Action) : R s (s.legAction l a) := by
  cases a with
  | retrain => exact h.legTake s l _ (f := fun u => u.retrainAction l) (h.retrainAction s l)
  | hold => exact h.legTake s l _ (f := fun u => u.holdLeg l .reaction) (h.holdLeg s l .reaction)
  | release => exact h.legTake s l _ (f := fun u => u.releaseLeg l) (h.releaseLeg s l)
  | capture => exact h.refl s
  | notify => exact h.refl s

theorem Controlled.fireSlot (h : Controlled R) (s : State) (ev : TableEvent) (j : SlotId) : R s (s.fireSlot ev j) := by
  simp only [State.fireSlot]
  split
  · exact h.trans (h.fireOwn s ev j) (h.legAction _ _ _)
  · exact h.fireOwn s ev j

theorem Controlled.fireSlots (h : Controlled R) (s : State) (ev : TableEvent) (js : List SlotId) : R s (s.fireSlots ev js) := by
  have firing : R s (s.setFiring true) := h.inert rfl
  exact h.trans (h.trans firing (h.foldl (fun s j => h.fireSlot s ev j) js _)) (h.inert rfl)

theorem Controlled.takeWhole (h : Controlled R) (s : State) (r : Report) : R s (s.takeWhole r) := by
  simp only [State.takeWhole]
  split
  · exact h.trans (h.takeReport s r) (h.inert rfl)
  · exact h.takeReport s r

theorem Controlled.drain (h : Controlled R) (n : Nat) (s : State) : R s (s.drain n) := by
  induction n generalizing s with
  | zero => exact h.refl s
  | succ n ih =>
    have tabled (w : TableWork) : R s { s with table := w } := h.inert rfl
    simp only [State.drain]
    split
    · exact h.trans (h.trans (tabled _) (h.fireSlots _ _ _)) (ih _)
    · exact h.trans (h.trans (tabled _) (h.takeWhole _ _)) (ih _)
    · exact h.refl s

theorem Controlled.finish (h : Controlled R) (s : State) : R s s.finish := h.trans (h.drain 16 s) (h.inert rfl)

theorem Controlled.tableTake (h : Controlled R) (s : State) (ev : TableEvent) : R s (s.tableTake ev) :=
  h.trans (h.fireSlots s ev _) (h.finish _)

theorem Controlled.legEvent (h : Controlled R) (s : State) (l : LegId) (e : Cause) {f : State → State} (taking : R s (f s)) :
    R s (s.legEvent l e f) := h.trans (h.legTake s l e taking) (h.finish _)

theorem Controlled.report (h : Controlled R) (s : State) (r : Report) : R s (s.report r) :=
  h.trans (h.takeWhole s r) (h.finish _)

theorem Controlled.legSource (h : Controlled R) (s : State) (l : Option LegId) (src : Source) : R s (s.legSource l src) := by
  cases l with
  | some l => exact h.tableTake s _
  | none => exact h.refl s

theorem Controlled.monitorReport (h : Controlled R) (s : State) (r : Report) {take : LegId → State → State}
    (taking : ∀ (l : LegId) (u : State), R u (take l u)) : R s (s.monitorReport r take) := by
  have holding : R s s.holdReports := h.inert rfl
  simp only [State.monitorReport]
  split
  · exact h.trans (h.trans (h.trans holding (h.legTake _ _ _ (taking _ _))) (h.inert rfl)) (h.finish _)
  · exact h.report s r

theorem Controlled.loseLink (h : Controlled R) (s : State) (l : LegId) : R s (s.loseLink l) := by
  simp only [State.loseLink]
  split
  · exact h.startSeries s l _
  · exact h.refl s

theorem Controlled.takeSignalLoss (h : Controlled R) (s : State) (l : LegId) (f : FaceId) : R s (s.takeSignalLoss l f) := by
  simp only [State.takeSignalLoss]
  split
  · exact h.refl s
  · cases s.path (facePath f)
    case training => exact h.laneFault s l f none
    case passing => exact h.loseLink s l
    case testing => exact h.trans (h.endTest s l _) (h.startSeries _ l _)
    all_goals exact h.refl s

theorem Controlled.takeLockLoss (h : Controlled R) (s : State) (l : LegId) (f : FaceId) : R s (s.takeLockLoss l f) := by
  simp only [State.takeLockLoss]
  split
  · exact h.refl s
  · cases s.path (facePath f)
    case training => exact h.laneFault s l f none
    case passing => exact h.loseLink s l
    all_goals exact h.refl s

theorem Controlled.handOver (h : Controlled R) (s : State) (r : Report) : R s (s.handOver r) := by
  simp only [State.handOver]
  split
  · exact h.trans (h.monitorReport s r fun l u => h.takeSignalLoss u l _) (h.legSource _ _ _)
  · exact h.monitorReport s r fun l u => h.takeLockLoss u l _
  · exact h.trans (h.report s r) (h.legSource _ _ _)
  · exact h.report s r

theorem Controlled.handUntil (h : Controlled R) (stop : Report → Bool) (n : Nat) (s : State) : R s (s.handUntil stop n) := by
  induction n generalizing s with
  | zero => exact h.refl s
  | succ n ih =>
    have left (rest : List Report) : R s { s with inFlight := rest } := h.inert rfl
    simp only [State.handUntil]
    split
    · split
      · exact h.refl s
      · exact h.trans (h.trans (left _) (h.handOver _ _)) (ih _)
    · exact h.refl s

theorem Controlled.handNow (h : Controlled R) (s : State) (r : Report) : R s (s.handNow r) := by
  simp only [State.handNow]
  split
  · exact h.handOver s r
  · exact h.inert rfl

theorem Controlled.tell (h : Controlled R) (s : State) (r : Report) : R s (s.tell r) :=
  h.trans (h.handUntil _ _ s) (h.report _ r)

theorem Controlled.deliverReport (h : Controlled R) (s : State) (k : ErrorKind) (f : FaceId) : R s (s.deliverReport k f) := by
  have left (rest : List Report) : R s { s with inFlight := rest } := h.inert rfl
  simp only [State.deliverReport]
  split
  · split
    · exact h.trans (h.trans (left _) (h.handOver _ _)) (h.handUntil _ _ _)
    · exact h.refl s
  · exact h.refl s

/-! ### The tuning engine -/

theorem Controlled.sweepResult (h : Controlled R) (s : State) (f : FaceId) (res : SweepResult) : R s (s.sweepResult f res) := by
  simp only [State.sweepResult]
  split
  · exact h.legEvent s _ _ (h.takeSweepResult s f res)
  · exact h.takeSweepResult s f res

theorem Controlled.completePinned (h : Controlled R) (s : State) (j : Job) : R s (s.completePinned j) := by
  have settled : R s (if s.settlesOnCompletion j.face then s.swapFace j.face else s) := by
    split
    · exact h.swapFace s _
    · exact h.refl s
  rw [State.completePinned]
  generalize (if s.settlesOnCompletion j.face then s.swapFace j.face else s) = u at settled ⊢
  split
  · exact h.trans settled (h.sweepResult _ _ _)
  · exact settled

theorem Engine.queue_movePointer (e : Engine) (k : JobKind) (f : FaceId) : (e.movePointer k f).queue = e.queue := by
  cases k <;> rfl

theorem Engine.suspended_movePointer (e : Engine) (k : JobKind) (f : FaceId) :
    (e.movePointer k f).suspended = e.suspended := by
  cases k <;> rfl

/-- A job leaves the queue: the others stay filed as they were (R86, R91). -/
theorem Basic.dequeue (h : Basic R) (s : State) (j : Job) : R s (s.modEngine (fun e => e.dequeue j)) := by
  have gone : R s (s.setQueued j.face none) := h.setQueued (by simp)
  have moved : R (s.setQueued j.face none) (s.modEngine (fun e => e.dequeue j)) :=
    h.modEngine (s := s.setQueued j.face none) (g := fun e => e.movePointer j.kind j.face)
      (Engine.queue_movePointer _ _ _) (.inl (Engine.suspended_movePointer _ _ _))
  exact h.trans gone moved

theorem Controlled.chooseWithin (h : Controlled R) (n : Nat) (s : State) : R s (s.chooseWithin n) := by
  induction n generalizing s with
  | zero => exact h.refl s
  | succ n ih =>
    simp only [State.chooseWithin]
    split
    · exact h.refl s
    · exact h.modEngine rfl (.inr rfl)
    · exact h.refl s
    · split
      · exact h.trans (h.trans (h.dequeue s _) (h.completePinned _ _)) (ih _)
      · exact h.trans (h.dequeue s _) (h.modEngine rfl (.inl rfl))

theorem Controlled.choose (h : Controlled R) (s : State) : R s s.choose := h.chooseWithin 17 s

theorem Controlled.queueJob (h : Controlled R) (s : State) (j : Job) : R s (s.queueJob j) :=
  h.trans (h.setQueued (by simp)) (h.choose _)

theorem Controlled.requestSweep (h : Controlled R) (s : State) (f : FaceId) : R s (s.requestSweep f) := by
  simp only [State.requestSweep]
  split
  · exact h.queueJob s _
  · split
    · exact h.refl s
    all_goals exact h.trans (h.jobNotice s _ _ _) (h.queueJob _ _)

theorem Controlled.requestTrim (h : Controlled R) (s : State) (f : FaceId) (r : Requester) : R s (s.requestTrim f r) := by
  simp only [State.requestTrim]
  split
  · split
    · exact h.refl s
    · exact h.refl s
    · split
      · exact h.refl s
      · exact h.trans (h.jobNotice s _ _ _) (h.queueJob _ _)
  · split
    · exact h.refl s
    · exact h.queueJob s _

/-- A valid RX half leaves a valid set valid (R69, R80). -/
theorem EqSet.valid_withRx {e : EqSet} {r : RxHalf} (he : e.valid = true) (hr : r.valid = true) :
    ({ e with rx := r } : EqSet).valid = true := by
  simp only [EqSet.valid, RxHalf.valid, Bool.and_eq_true, decide_eq_true_eq] at he hr ⊢
  omega

theorem Basic.writeRx (h : Basic R) (s : State) (f : FaceId) {r : RxHalf} (hr : r.valid = true) : R s (s.writeRx f r) := by
  have written : R s (s.modFace f (fun x => { x with active := { x.active with rx := r } })) :=
    h.modFace fun hs => ⟨EqSet.valid_withRx (hs.1 f).1 hr, (hs.1 f).2⟩
  exact h.trans written (h.restartSuspended _ f)

theorem Basic.deliverRx (h : Basic R) (s : State) (f : FaceId) {rx : Option RxHalf} (valid : ∀ r, rx = some r → r.valid = true) :
    R s (s.deliverRx f rx) := by
  simp only [State.deliverRx]
  split
  · exact h.swapFace s f
  · split
    · exact h.refl s
    · split
      · exact h.refl s
      · exact h.writeRx s f (valid _ rfl)

theorem Basic.writeMargin (h : Basic R) (s : State) (f : FaceId) (m : Fin 64) : R s (s.writeMargin f m) :=
  h.modFace fun hs => hs.1 f

theorem Controlled.checkMargin (h : Controlled R) (s : State) (f : FaceId) (m : Fin 64) : R s (s.checkMargin f m) := by
  simp only [State.checkMargin]
  split
  · exact h.refl s
  · split
    · exact h.trans (h.tell s _) (h.legSource _ _ _)
    · exact h.refl s

theorem Controlled.completeTrim (h : Controlled R) (s : State) (j : Job) (found : Finding)
    (valid : ∀ r, found.rx = some r → r.valid = true) : R s (s.completeTrim j found) := by
  have delivered : R s (s.deliverRx j.face found.rx) := h.deliverRx s j.face valid
  simp only [State.completeTrim]
  split
  · split
    · exact delivered
    · exact h.trans delivered (h.trans (h.writeMargin _ _ _) (h.checkMargin _ _ _))
  · cases (s.deliverRx j.face found.rx).path (facePath j.face)
    case passing | testing => exact h.trans delivered (h.tell _ _)
    all_goals exact delivered

theorem Controlled.leaveSlot (h : Controlled R) (s : State) : R s s.leaveSlot :=
  h.trans (h.trans (h.modEngine rfl (.inl rfl)) (h.handHeld _)) (h.choose _)

theorem Controlled.completeJob (h : Controlled R) (s : State) (j : Job) (found : Finding)
    (valid : ∀ r, found.rx = some r → r.valid = true) : R s (s.completeJob j found) := by
  rw [State.completeJob]
  refine h.trans ?_ (h.leaveSlot _)
  cases j.kind with
  | sweep => exact h.trans (h.deliverRx s _ valid) (h.sweepResult _ _ _)
  | trim => exact h.completeTrim s j found valid
  | margin => exact h.trans (h.trans (h.writeMargin s _ _) (h.checkMargin _ _ _)) (h.jobNotice _ _ _ _)

theorem Controlled.stopEnding (h : Controlled R) (s : State) (j : Job) : R s (s.stopEnding j) :=
  h.trans (h.trans (h.trans (h.modEngine rfl (.inl rfl)) (h.handCancelled _ j)) (h.handHeld _)) (h.choose _)

theorem Controlled.suspendRunning (h : Controlled R) (s : State) (j : Job) (n : Nat) (margin : j.kind = .margin) :
    R s (s.suspendRunning j n) := by
  have moved : R s (s.modEngine (fun e => { e with running := none, suspended := some ⟨j, n, true⟩ })) := by
    refine h.engine rfl (fun _ x hx => ?_) id
    simp only [State.engine_modEngine, Option.some.injEq] at hx
    rw [← hx]
    exact margin
  exact h.trans moved (h.choose _)

theorem suspensionAhead_margin {s : State} {r : RunningJob} {k : Nat} (h : s.suspensionAhead r = some k) :
    r.job.kind = .margin := by
  simp only [State.suspensionAhead] at h
  split at h
  · rename_i hc
    simp only [Bool.and_eq_true, beq_iff_eq] at hc
    exact hc.1.1
  · cases h

/-! ### Words from the partner, and presence -/

theorem Controlled.tuneFaces (h : Controlled R) (s : State) (l : LegId) (fs : List FaceId) : R s (s.tuneFaces l fs) :=
  h.trans (h.foldl (fun s f => h.enterTuning s l f) fs s) (h.foldl h.requestSweep fs _)

theorem Controlled.takeAnnounce (h : Controlled R) (s : State) (l : LegId) (r : TrainRecord) (f : FaceId) (a : Announced) :
    R s (s.takeAnnounce l r f a) := by
  have accepted : R s (s.acceptAnnounce l f a.rates) := h.acceptAnnounce s l f a.rates
  simp only [State.takeAnnounce]
  cases s.judgeAnnounce l r f a with
  | stale => exact h.refl s
  | repeated => exact h.inert rfl
  | mismatch => exact h.legEvent s l _ (h.laneFault s l f _)
  | recorded => exact accepted
  | agreed rate => exact h.trans (h.trans accepted (h.modLeg ⟨rfl, rfl, id⟩)) (h.tuneFaces _ _ _)
  | noRate => exact h.legEvent s l _ (h.trans accepted (h.failure _ _ _ _ _))
  | tune => exact h.trans accepted (h.tuneFaces _ _ _)

/-- One step of a tap keeps a set valid (R56, R69). -/
theorem TxHalf.step_valid {e : EqSet} {tap : Tap} {up : Bool} {t : TxHalf} (he : e.valid = true)
    (ht : e.tx.step tap up = some t) : ({ e with tx := t } : EqSet).valid = true := by
  simp only [EqSet.valid, Bool.and_eq_true, decide_eq_true_eq] at he ⊢
  cases tap <;> cases up <;> simp only [TxHalf.step, Option.ite_none_right_eq_some, Option.ite_none_left_eq_some,
    Option.some.injEq] at ht <;> obtain ⟨hc, rfl⟩ := ht <;> simp only [] <;> omega

theorem Face.adjust_valid {x : Face} (tap : Tap) (up : Bool) (hx : x.active.valid = true) :
    ({ x.active with tx := (x.adjust tap up).2 } : EqSet).valid = true := by
  simp only [Face.adjust]
  split
  · exact hx
  · split
    · rename_i t ht
      exact TxHalf.step_valid hx ht
    · exact hx

theorem Basic.takeAdjust (h : Basic R) (s : State) (f : FaceId) (tap : Tap) (up : Bool) : R s (s.takeAdjust f tap up) := by
  have moved : R s (s.modFace f (fun x => { x with active := { x.active with tx := ((s.face f).adjust tap up).2 } })) :=
    h.modFace fun hs => ⟨Face.adjust_valid tap up (hs.1 f).1, (hs.1 f).2⟩
  exact h.trans moved (h.inert rfl)

theorem Controlled.takePresence (h : Controlled R) (s : State) (l : LegId) (level : Bool) : R s (s.takePresence l level) := by
  rw [State.takePresence]
  refine h.legEvent s l _ ?_
  cases (s.leg l).state <;> cases level
  case absent.true => exact h.held s l _
  case held.false | training.false | active.false | degraded.false | test.false | failed.false =>
    exact h.down s l _ (.inr rfl)
  all_goals exact h.refl s

/-- A change of the wires, what a taking makes of it, and the judging (R139). -/
theorem Controlled.presenceChange (h : Controlled R) (s : State) (l : LegId) (level : Bool) : R s (s.presenceChange l level) :=
  h.trans (h.rewired (s := s) (s.settleFilter l .present level).wires (h.takePresence _ l level)) (h.tableTake _ _)

end

end Sys2Proof.Machine

/-! Every command, and the tick, stay within a relation that is closed under the controllers' operations. -/

namespace Sys2Proof.Machine

/-- Whatever next state an outcome has, the relation holds up to it. -/
def Reaches (R : State → State → Prop) (s : State) (out : Host.Outcome State Fault Refusal) : Prop :=
  ∀ t : State, out = .next t → R s t

theorem reaches_next {R : State → State → Prop} {s t : State} (h : R s t) : Reaches R s (.next t) := by
  intro u hu
  injection hu with hu
  exact hu ▸ h

section
variable {R : State → State → Prop}

/-! ### The frame engine -/

theorem State.slotValues_withFrame (s : State) (x : FrameEngine) (l : LegId) :
    ({ s with frame := x } : State).slotValues l = s.slotValues l := rfl

/-- A change of the frame engine that keeps the last-sent values and the plan's slots, and clears no flag. -/
theorem changesKnown_withFrame {s : State} {x : FrameEngine} (sent : x.lastSent = s.frame.lastSent)
    (slots : x.plan.slots = s.frame.plan.slots) (known : s.frame.changePending = true → x.changePending = true)
    (h : s.changesKnown) : ({ s with frame := x } : State).changesKnown := by
  intro hd
  refine known (h ?_)
  simpa only [State.differs, State.slotValues_withFrame, sent, slots] using hd

theorem Basic.modFrame (h : Basic R) {s : State} {g : FrameEngine → FrameEngine}
    (sound : (s.frame.state = .sending ↔ s.frame.snapshot.isSome = true) →
      ((g s.frame).state = .sending ↔ (g s.frame).snapshot.isSome = true))
    (sent : (g s.frame).lastSent = s.frame.lastSent) (slots : (g s.frame).plan.slots = s.frame.plan.slots)
    (known : (g s.frame).changePending = s.frame.changePending) : R s (s.modFrame g) :=
  h.frame rfl sound (changesKnown_withFrame sent slots (fun e => known.trans e))

theorem Basic.startFrame (h : Basic R) (s : State) : R s s.startFrame :=
  h.frame rfl (fun _ => by simp [State.startFrame, State.frameSound]) (changesKnown_withFrame rfl rfl id)

theorem Basic.startIfDue (h : Basic R) (s : State) : R s s.startIfDue := by
  simp only [State.startIfDue]
  split
  · exact h.startFrame s
  · exact h.refl s

/-- What the sampling of the requests leaves (R142): a frame engine's snapshot goes with the state SENDING. -/
theorem FrameEngine.sample_cases (x : FrameEngine) :
    x.sample = { x with state := .disabled, startWanted := false, snapshot := none }
    ∨ x.sample = { x with state := .halted, startWanted := false, snapshot := none }
    ∨ x.sample = { x with mode := x.modeRequest } := by
  simp only [FrameEngine.sample]
  split
  · exact .inl rfl
  · split
    · exact .inr (.inl rfl)
    · exact .inr (.inr rfl)

theorem FrameEngine.sample_sound {x : FrameEngine} (h : x.state = .sending ↔ x.snapshot.isSome = true) :
    x.sample.state = .sending ↔ x.sample.snapshot.isSome = true := by
  obtain e | e | e := x.sample_cases <;> rw [e]
  · simp
  · simp
  · exact h

theorem FrameEngine.sample_books (x : FrameEngine) :
    x.sample.lastSent = x.lastSent ∧ x.sample.plan = x.plan ∧ x.sample.changePending = x.changePending := by
  obtain e | e | e := x.sample_cases <;> rw [e] <;> exact ⟨rfl, rfl, rfl⟩

theorem Basic.sampleFrame (h : Basic R) (s : State) : R s (s.modFrame FrameEngine.sample) := by
  obtain ⟨sent, plan, known⟩ := s.frame.sample_books
  exact h.modFrame FrameEngine.sample_sound sent (by rw [plan]) known

theorem FrameEngine.endFrame_sound (x : FrameEngine) :
    x.endFrame.state = .sending ↔ x.endFrame.snapshot.isSome = true :=
  FrameEngine.sample_sound (by simp)

theorem FrameEngine.endFrame_books (x : FrameEngine) :
    x.endFrame.lastSent = x.lastSent ∧ x.endFrame.plan = x.plan ∧ x.endFrame.changePending = x.changePending :=
  FrameEngine.sample_books _

theorem Basic.endFrame (h : Basic R) (s : State) : R s (s.modFrame FrameEngine.endFrame) := by
  obtain ⟨sent, plan, known⟩ := s.frame.endFrame_books
  exact h.modFrame (fun _ => s.frame.endFrame_sound) sent (by rw [plan]) known

/-- The flag that is judged over the plan in force knows every difference of it (R141). -/
theorem changesKnown_of_pending {s : State} (h : s.frame.changePending = s.differs s.frame.plan.slots ∨
    ∃ b : Bool, s.frame.changePending = (s.differs s.frame.plan.slots || b)) : s.changesKnown := by
  intro hd
  obtain e | ⟨b, e⟩ := h <;> rw [e, hd]
  rfl

theorem Basic.newPlan (h : Basic R) (s : State) (p : FramePlan) :
    R s (s.modFrame (fun x => { x with plan := p })).judgePlan :=
  h.frame rfl id (fun _ => changesKnown_of_pending (.inr ⟨_, rfl⟩))

theorem Basic.goodEnd (h : Basic R) (s : State) (sent : Vector (BitVec 5) 4 → Vector (BitVec 5) 4) :
    R s ((s.modFrame (fun e => { e with lastSent := sent e.lastSent })).judgeGoodEnd) :=
  h.frame rfl id (fun _ => changesKnown_of_pending (.inl rfl))

theorem Basic.actOnControl (h : Basic R) (s : State) : R s s.actOnControl := by
  have moded : R s (s.modFrame (fun x => { x with mode := x.modeRequest })) := h.modFrame id rfl rfl rfl
  simp only [State.actOnControl]
  cases s.frame.state
  case sending => exact h.refl s
  case idle => exact h.trans (h.sampleFrame s) (h.startIfDue _)
  case halted =>
    dsimp only
    split
    · exact h.sampleFrame s
    · split
      · exact moded
      · exact h.trans moded (h.startFrame _)
  case disabled =>
    dsimp only
    split
    · exact h.refl s
    · split
      · exact h.trans moded (h.sampleFrame _)
      · exact h.trans moded (h.startFrame _)

/-- The latches of several legs change, and nothing else. -/
theorem setLatch_foldl_footprint (ls : List LegId) (b : Bool) (s : State) :
    ls.foldl (fun s l => s.setLatch l b) s = { s with wires := (ls.foldl (fun s l => s.setLatch l b) s).wires } :=
  foldl_rel (R := fun a c => c = { a with wires := c.wires }) (fun _ => rfl) (fun a b c h1 h2 => by rw [h2, h1])
    (fun _ _ => rfl) ls s

theorem Controlled.clearAlerts (h : Controlled R) (s : State) (ls : BitVec 4) : R s (s.clearAlerts ls) := by
  simp only [State.clearAlerts]
  split
  · exact h.refl s
  · rw [setLatch_foldl_footprint]
    exact h.rewired _ (h.refl _)

theorem Controlled.alertRise (h : Controlled R) (s : State) (l : LegId) :
    R s (((s.settleFilter l .alert true).latchAlert l).judge) := by
  have latched : (s.settleFilter l .alert true).latchAlert l =
      { s with wires := ((s.settleFilter l .alert true).latchAlert l).wires } := by
    simp only [State.latchAlert]
    split <;> rfl
  rw [latched]
  exact h.rewired _ (h.refl _)

/-! ### The port -/

theorem Controlled.takeWrite (h : Controlled R) (s : State) {taken : State → State} (taking : R s (taken s)) :
    R s (s.takeWrite taken) := by
  simp only [State.takeWrite]
  split
  · exact h.inert rfl
  · split
    · exact h.partReset s _ _
    · exact taking

theorem Controlled.takeRequest (h : Controlled R) (s : State) (code tag : Byte) (body : List Byte) {act : State → Answer}
    (answers : ∀ u : State, R u (act u).state) : Reaches R s (takeRequest code tag body act s) := by
  refine reaches_next (h.takeWrite s ?_)
  split
  · exact h.trans (h.trans (h.inert rfl) (answers _)) (h.inert rfl)
  · exact h.inert rfl

theorem Basic.withOperand (h : Basic R) (s : State) {α : Type} (operand : Option α) {act : α → Answer}
    (acts : ∀ a, operand = some a → R s (act a).state) : R s (withOperand s operand act).state := by
  cases operand with
  | none => exact h.refl s
  | some a => exact acts a rfl

theorem Basic.withEmpty (h : Basic R) (s : State) (body : List Byte) {a : Answer} (acts : R s a.state) :
    R s (withEmpty s body a).state := by
  unfold Machine.withEmpty
  split
  · exact acts
  · exact h.refl s

theorem Basic.legRequest (h : Basic R) (s : State) (body : List Byte) {act : LegId → Answer} (acts : ∀ l, R s (act l).state) :
    R s (legRequest body s act).state := h.withOperand s _ (fun l _ => acts l)

/-! ### Requests, block by block -/

theorem Controlled.fetchNoticeAct (h : Controlled R) (body : List Byte) (s : State) : R s (fetchNoticeAct body s).state := by
  refine h.withEmpty s body ?_
  dsimp only
  split <;> exact h.inert rfl

theorem mem_allLegs (l : LegId) : l ∈ allLegs := by revert l; decide

theorem Controlled.loadMapAct (h : Controlled R) (body : List Byte) (s : State) : R s (loadMapAct body s).state := by
  refine h.withOperand s _ (fun map _ => ?_)
  dsimp only
  split
  · exact h.refl s
  · rename_i valid
    split
    · exact h.refl s
    · rename_i off
      split
      · exact h.refl s
      · refine h.load (by simpa using valid) (fun l hl => ?_)
        have all : (allLegs.filter (s.changedBy map)).all (fun l => (s.leg l).state == .off) = true := by
          rwa [Bool.not_eq_true', Bool.not_eq_false] at off
        simpa using List.all_eq_true.mp all l (List.mem_filter.mpr ⟨mem_allLegs l, hl⟩)

theorem Controlled.legEnableAct (h : Controlled R) (body : List Byte) (s : State) : R s (legEnableAct body s).state := by
  refine h.legRequest s body (fun l => ?_)
  split
  · exact h.refl s
  · split
    · rename_i off
      exact h.legEvent s l _ (f := fun u => u.enableLeg l) (h.enable s l off)
    · exact h.refl s

theorem Controlled.legRetrainAct (h : Controlled R) (body : List Byte) (s : State) : R s (legRetrainAct body s).state := by
  refine h.legRequest s body (fun l => ?_)
  cases (s.leg l).state
  case active | degraded => exact h.legEvent s l _ (f := fun u => u.startSeries l .host) (h.startSeries s l _)
  case failed => exact h.legEvent s l _ (f := fun u => u.enterHeld l .host) (h.held s l _)
  all_goals exact h.refl s

theorem Controlled.setLegParamsAct (h : Controlled R) (body : List Byte) (s : State) : R s (setLegParamsAct body s).state := by
  refine h.withOperand s _ (fun (l, d) _ => ?_)
  dsimp only
  split
  · exact h.refl s
  · cases (s.leg l).state
    case off | absent | held => exact h.modLeg ⟨rfl, rfl, id⟩
    all_goals exact h.refl s

theorem stageBody_valid {body : List Byte} {f : FaceId} {e : EqSet} (h : stageBody body = some (f, e)) : e.valid = true := by
  simp only [stageBody, ofLength, Option.bind_eq_bind] at h
  split at h
  · obtain ⟨f', -, h⟩ := Option.bind_eq_some_iff.mp h
    obtain ⟨e', -, h⟩ := Option.bind_eq_some_iff.mp h
    split at h
    · injection h with h
      injection h with _ he
      rwa [← he]
    · cases h
  · cases h

theorem Controlled.stageFaceAct (h : Controlled R) (body : List Byte) (s : State) : R s (stageFaceAct body s).state := by
  refine h.withOperand s _ (fun (f, e) he => ?_)
  exact h.modFace fun hs => ⟨(hs.1 f).1, stageBody_valid he, (hs.1 f).2.2⟩

theorem Controlled.commitFace (h : Controlled R) (s : State) (f : FaceId) : R s (s.commitFace f) := by
  simp only [State.commitFace]
  cases s.path (facePath f)
  case training | testing => exact h.refl s
  case passing =>
    have marked : R s (s.modFace f (fun x => { x with pending := true, swapOnCompletion := true })) :=
      h.modFace fun hs => ⟨(hs.1 f).1, (hs.1 f).2.1, fun _ => rfl⟩
    exact h.trans marked (h.requestTrim _ _ _)
  all_goals exact h.settleFace s f

theorem Controlled.commitFaces (h : Controlled R) (s : State) (fs : List FaceId) : R s (s.commitFaces fs) := by
  have marked (s : State) (f : FaceId) : R s (s.modFace f (fun x => { x with pending := true })) :=
    h.modFace fun hs => ⟨(hs.1 f).1, (hs.1 f).2.1, fun _ => rfl⟩
  exact h.trans (h.foldl marked fs s) (h.foldl h.commitFace fs _)

theorem Controlled.tuneMarginAct (h : Controlled R) (tag : Byte) (body : List Byte) (s : State) :
    R s (tuneMarginAct tag body s).state := by
  refine h.withOperand s _ (fun f _ => ?_)
  cases s.path (facePath f)
  case passing | testing =>
    dsimp only
    split
    · exact h.queueJob s _
    · exact h.refl s
  all_goals exact h.refl s

theorem Controlled.setTuneMaskAct (h : Controlled R) (body : List Byte) (s : State) : R s (setTuneMaskAct body s).state := by
  refine h.withOperand s _ (fun fs _ => ?_)
  have masked : R s (s.modEngine (fun e => { e with mask := fs })) := h.modEngine rfl (.inl rfl)
  exact h.trans masked (h.choose _)

theorem Controlled.setFramePlanAct (h : Controlled R) (body : List Byte) (s : State) : R s (setFramePlanAct body s).state := by
  refine h.withOperand s _ (fun p _ => ?_)
  cases s.frame.state
  case disabled | halted => exact h.newPlan s p
  all_goals exact h.refl s

theorem Controlled.frameControlAct (h : Controlled R) (body : List Byte) (s : State) : R s (frameControlAct body s).state := by
  refine h.withOperand s _ (fun (enable, mode, halt) _ => ?_)
  have written : R s (s.modFrame (fun x => { x with enableRequest := enable, modeRequest := mode, haltRequest := halt })) :=
    h.modFrame id rfl rfl rfl
  exact h.trans written (h.actOnControl _)

theorem Controlled.readSidebandAct (h : Controlled R) (body : List Byte) (s : State) : R s (readSidebandAct body s).state := by
  refine h.withEmpty s body ?_
  simp only [State.lookAtSbl]
  split
  · exact h.refl s
  · exact h.inert rfl

theorem Controlled.testStartAct (h : Controlled R) (body : List Byte) (s : State) : R s (testStartAct body s).state := by
  refine h.withOperand s _ (fun o _ => ?_)
  split
  · exact h.legEvent s o.leg _ (f := fun u => u.startTest o) (h.test s o)
  · exact h.refl s

theorem Controlled.leaveTest (h : Controlled R) (s : State) (l : LegId) (c : TestEnd) (t : TrainCause) :
    R s (s.leaveTest l c t) :=
  h.legEvent s l _ (f := fun u => (u.endTest l c).startSeries l t) (h.trans (h.endTest s l c) (h.startSeries _ l t))

theorem Controlled.testStopAct (h : Controlled R) (body : List Byte) (s : State) : R s (testStopAct body s).state := by
  refine h.withOperand s _ (fun l _ => ?_)
  split
  · exact h.leaveTest s l _ _
  · exact h.refl s

theorem Controlled.testReadAct (h : Controlled R) (body : List Byte) (s : State) : R s (testReadAct body s).state := by
  refine h.withOperand s _ (fun l _ => ?_)
  split <;> exact h.refl s

theorem Controlled.storeReadAct (h : Controlled R) (body : List Byte) (s : State) : R s (storeReadAct body s).state := by
  refine h.withOperand s _ (fun p _ => ?_)
  split <;> exact h.refl s

theorem Controlled.storeEraseAct (h : Controlled R) (body : List Byte) (s : State) : R s (storeEraseAct body s).state := by
  refine h.withOperand s _ (fun p _ => ?_)
  split
  · exact h.refl s
  · split
    · exact h.refl s
    · exact h.inert rfl

theorem Controlled.storeWriteAct (h : Controlled R) (body : List Byte) (s : State) : R s (storeWriteAct body s).state := by
  refine h.withOperand s _ (fun (p, record) _ => ?_)
  dsimp only
  split
  · exact h.refl s
  · split
    · exact h.refl s
    · split
      · exact h.refl s
      · exact h.inert rfl

theorem Controlled.storeLockAct (h : Controlled R) (body : List Byte) (s : State) : R s (storeLockAct body s).state := by
  refine h.withOperand s _ (fun p _ => ?_)
  split
  · exact h.refl s
  · exact h.inert rfl

/-! ### Events -/

theorem Controlled.endOperation (h : Controlled R) (s : State) (p : PageId) (act : StoreAct) (good : PageContent) (ok : Bool) :
    R s (s.endOperation p act good ok) := by
  have content (c : PageContent) : R s (s.modPage p (fun x => { x with content := c })) := h.inert rfl
  cases ok with
  | true => exact h.inert rfl
  | false => exact h.trans (content _) (h.trans (h.tell _ _) (h.inert rfl))

theorem Controlled.execReplyRead (h : Controlled R) (n : Nat) (s : State) : Reaches R s (execReplyRead n s) := by
  have supplied (bytes : List Byte) : R s { s with readData := bytes } := h.inert rfl
  refine reaches_next ?_
  split
  · split
    · exact supplied _
    · split
      · exact h.trans (supplied _) (h.partReset _ _ _)
      · exact h.inert rfl
  all_goals exact supplied _

theorem Controlled.execPartResetExecute (h : Controlled R) (trigger : ResetTrigger) (strap : BitVec 2) (ext : Bool) (s : State) :
    Reaches R s (execPartResetExecute trigger strap ext s) := by
  refine reaches_next ?_
  split
  · split
    · refine h.trans ?_ (h.partReset _ _ _)
      split
      · exact h.inert rfl
      · exact h.refl s
    · exact h.refl s
  all_goals exact h.refl s

theorem Controlled.execJobCompletion (h : Controlled R) (found : Finding) (s : State) :
    Reaches R s (execJobCompletion found s) := by
  refine reaches_next ?_
  split
  · exact h.refl s
  · split
    · exact h.stopEnding s _
    · split
      · exact h.refl s
      · rename_i valid
        split
        · rename_i k ahead
          exact h.suspendRunning s _ _ (suspensionAhead_margin ahead)
        · refine h.completeJob s _ found (fun r hr => ?_)
          simp only [Finding.valid, hr] at valid
          simpa using valid

theorem Controlled.execTuneStepBoundary (h : Controlled R) (s : State) : Reaches R s (execTuneStepBoundary s) := by
  refine reaches_next ?_
  split
  · exact h.refl s
  · split
    · exact h.stopEnding s _
    · split
      · exact h.refl s
      · split
        · rename_i ahead
          exact h.suspendRunning s _ _ (suspensionAhead_margin ahead)
        · exact h.modEngine rfl (.inl rfl)

theorem Controlled.reportMismatch (h : Controlled R) (s : State) (f : FaceId) : R s (s.reportMismatch f) := h.tell s _

theorem Controlled.execBitMismatch (h : Controlled R) (f : FaceId) (n : Nat) (s : State) :
    Reaches R s (execBitMismatch f n s) := by
  refine reaches_next ?_
  split
  · have matched : R s (s.modChecker f (fun taps k => k.matchBits taps n)) := h.modChecker s f _
    dsimp only
    split
    · exact h.trans matched (h.trans (h.modChecker _ f _) (h.reportMismatch _ f))
    · exact h.trans matched (h.modChecker _ f _)
  · exact h.refl s

theorem Controlled.loseSignal (h : Controlled R) (s : State) (f : FaceId) : R s (s.loseSignal f) := h.inert rfl

theorem Controlled.loseLock (h : Controlled R) (s : State) (f : FaceId) : R s (s.loseLock f) :=
  h.trans (h.inert rfl) (h.modChecker (s.modMonitor f (fun m => { m with lock := .unlocked })) f _)

theorem Controlled.raiseReport (h : Controlled R) (s : State) (r : Report) : R s (s.raiseReport r) := h.inert rfl

theorem Controlled.execSignalLost (h : Controlled R) (x : LaneReport) (s : State) : Reaches R s (execSignalLost x s) := by
  refine reaches_next ?_
  dsimp only
  cases x.delivery with
  | delivered => exact h.deliverReport s _ _
  | now =>
    dsimp only
    split
    · exact h.trans (h.loseSignal s _) (h.handNow _ _)
    · exact h.refl s
  | raised =>
    dsimp only
    split
    · exact h.trans (h.loseSignal s _) (h.raiseReport _ _)
    · exact h.refl s

theorem Controlled.execLockLost (h : Controlled R) (x : LaneReport) (s : State) : Reaches R s (execLockLost x s) := by
  refine reaches_next ?_
  dsimp only
  cases x.delivery with
  | delivered => exact h.deliverReport s _ _
  | now =>
    dsimp only
    split
    · exact h.trans (h.loseLock s _) (h.handNow _ _)
    · exact h.refl s
  | raised =>
    dsimp only
    split
    · exact h.trans (h.loseLock s _) (h.raiseReport _ _)
    · exact h.refl s

theorem Controlled.countSlips (h : Controlled R) (s : State) (x : LaneReport) :
    R s (
      if (s.monitor x.face).lock ≠ .locked then s
      else if (s.monitor x.face).bursts then
        let s1 := s.modMonitor x.face (fun m => { m.countSlip with burstRaised := true })
        if x.delivery = .now then s1.handNow (s.burstReport x.face) else s1.raiseReport (s.burstReport x.face)
      else s.modMonitor x.face Monitor.countSlip) := by
  have counted (g : Monitor → Monitor) : R s (s.modMonitor x.face g) := h.inert rfl
  split
  · exact h.refl s
  · split
    · dsimp only
      split
      · exact h.trans (counted _) (h.handNow _ _)
      · exact h.trans (counted _) (h.raiseReport _ _)
    · exact counted _

theorem Controlled.execSlip (h : Controlled R) (x : LaneReport) (s : State) : Reaches R s (execSlip x s) := by
  refine reaches_next ?_
  have counts := h.countSlips s x
  cases hd : x.delivery with
  | delivered => exact h.deliverReport s _ _
  | now => simpa only [hd] using counts
  | raised => simpa only [hd] using counts

theorem Controlled.execTrimTimerExpiry (h : Controlled R) (l : LegId) (s : State) : Reaches R s (execTrimTimerExpiry l s) := by
  refine reaches_next ?_
  dsimp only
  split
  · exact h.trans (h.foldl (fun s f => h.requestTrim s f .leg) _ s) (h.modLeg ⟨rfl, rfl, id⟩)
  · exact h.refl s

theorem Controlled.execFrameGoodEnd (h : Controlled R) (s : State) : Reaches R s (execFrameGoodEnd s) := by
  refine reaches_next ?_
  split
  · rename_i x _ _
    exact h.trans (h.goodEnd s (sentValues x)) (h.endFrame _)
  · exact h.refl s

theorem Controlled.execSidebandCollision (h : Controlled R) (slot : Nat) (s : State) :
    Reaches R s (execSidebandCollision slot s) := by
  refine reaches_next ?_
  split
  · split
    · exact h.trans (h.tell s _) (h.endFrame _)
    · exact h.refl s
  · exact h.refl s

/-- A wire that changes its level leaves the levels its filter shows (R135). -/
theorem LegWires.sameLevels_wire (w : LegWires) (i : WireId) (low : Bool) : w.sameLevels (w.modFilter i (fun x => x.wire low)) := by
  have kept (x : Filter) : (x.wire low).asserted = x.asserted := by
    simp only [Filter.wire]
    split <;> rfl
  cases i with
  | present => exact ⟨kept _, rfl, rfl⟩
  | alert => exact ⟨rfl, rfl, rfl⟩
  | wake => exact ⟨rfl, rfl, kept _⟩

theorem Controlled.execSidebandWireChange (h : Controlled R) (l : LegId) (i : WireId) (low : Bool) (s : State) :
    Reaches R s (execSidebandWireChange l i low s) := by
  refine reaches_next (h.wires rfl (fun k => ?_))
  by_cases e : k = l
  · rw [e, State.wiresOf_modWires]
    exact LegWires.sameLevels_wire _ i low
  · rw [State.wiresOf_modWires_other _ _ _ _ e]
    exact ⟨rfl, rfl, rfl⟩

end

end Sys2Proof.Machine

/-! Every command and every step. -/

namespace Sys2Proof.Machine

section
variable {R : State → State → Prop}

/-! ### Every request -/

/-- A request whose owning block takes one leg event, or refuses. -/
theorem Controlled.legEventAct (h : Controlled R) (body : List Byte) (s : State) (e : Cause) {f : LegId → State → State}
    (taking : ∀ (l : LegId) (u : State), R u (f l u)) :
    R s (legRequest body s (fun l => .plain (s.legEvent l e (f l)) .done)).state :=
  h.legRequest s body (fun l => h.legEvent s l e (taking l s))

/-- A request that only reads. -/
theorem Basic.readAct (h : Basic R) (s : State) {α : Type} (operand : Option α) (reply : α → List Byte) :
    R s (Machine.withOperand s operand (fun a => .ok s (reply a))).state := h.withOperand s operand (fun _ _ => h.refl s)

/-- A request that writes a field no law speaks of. -/
theorem Basic.writeAct (h : Basic R) (s : State) {α : Type} (operand : Option α) {g : α → State} (r : Result)
    (writes : ∀ a, g a = s.withInert (g a)) : R s (Machine.withOperand s operand (fun a => .plain (g a) r)).state :=
  h.withOperand s operand (fun a _ => h.inert (writes a))

theorem Controlled.setPinned (h : Controlled R) (s : State) (f : FaceId) (b : Bool) : R s (s.setPinned f b) :=
  h.modFace fun hs => hs.1 f

theorem Controlled.timeOut (h : Controlled R) (s : State) (l : LegId) (p : Phase) : R s (s.timeOut l p) := by
  unfold State.timeOut
  exact h.failure s l _ _ _

theorem Controlled.exec (h : Controlled R) (i : Instr) (s : State) : Reaches R s (Machine.exec i s) := by
  cases i with
  | ping tag body => exact h.takeRequest s _ _ _ fun u => h.withEmpty u body (h.refl u)
  | portStatus tag body => exact h.takeRequest s _ _ _ fun u => h.withEmpty u body (h.refl u)
  | fetchNotice tag body => exact h.takeRequest s _ _ _ (h.fetchNoticeAct body)
  | setNoticeMask tag body => exact h.takeRequest s _ _ _ fun u => h.writeAct u _ _ fun _ => rfl
  | partReset tag body => exact h.takeRequest s _ _ _ fun u => h.withEmpty u body (h.inert rfl)
  | partResetExecute trigger strap ext => exact h.execPartResetExecute trigger strap ext s
  | readMap tag body => exact h.takeRequest s _ _ _ fun u => h.withEmpty u body (h.refl u)
  | loadMap tag body => exact h.takeRequest s _ _ _ (h.loadMapAct body)
  | readLeg tag body => exact h.takeRequest s _ _ _ fun u => h.readAct u _ _
  | legEnable tag body => exact h.takeRequest s _ _ _ (h.legEnableAct body)
  | legDisable tag body => exact h.takeRequest s _ _ _ fun u => h.legEventAct body u _ fun l v => h.disableLeg v l
  | legHold tag body => exact h.takeRequest s _ _ _ fun u => h.legEventAct body u _ fun l v => h.holdLeg v l .host
  | legRelease tag body => exact h.takeRequest s _ _ _ fun u => h.legEventAct body u _ fun l v => h.releaseLeg v l
  | legRetrain tag body => exact h.takeRequest s _ _ _ (h.legRetrainAct body)
  | legRestoreWidth tag body => exact h.takeRequest s _ _ _ fun u => h.legEventAct body u _ fun l v => h.restoreWidth v l
  | legReset tag body => exact h.takeRequest s _ _ _ fun u => h.legEventAct body u _ fun l v => h.legReset v l
  | setLegParams tag body => exact h.takeRequest s _ _ _ (h.setLegParamsAct body)
  | readFace tag body => exact h.takeRequest s _ _ _ fun u => h.readAct u _ _
  | stageFace tag body => exact h.takeRequest s _ _ _ (h.stageFaceAct body)
  | commitFaces tag body => exact h.takeRequest s _ _ _ fun u => h.withOperand u _ fun _ _ => h.commitFaces u _
  | pinFace tag body => exact h.takeRequest s _ _ _ fun u => h.withOperand u _ fun f _ => h.setPinned u f true
  | unpinFace tag body => exact h.takeRequest s _ _ _ fun u => h.withOperand u _ fun f _ => h.setPinned u f false
  | tuneMargin tag body => exact h.takeRequest s _ _ _ (h.tuneMarginAct tag body)
  | readTuneQueue tag body => exact h.takeRequest s _ _ _ fun u => h.withEmpty u body (h.refl u)
  | setTuneMask tag body => exact h.takeRequest s _ _ _ (h.setTuneMaskAct body)
  | setReaction tag body => exact h.takeRequest s _ _ _ fun u => h.writeAct u _ _ fun _ => rfl
  | readReactions tag body => exact h.takeRequest s _ _ _ fun u => h.readAct u _ _
  | readLog tag body => exact h.takeRequest s _ _ _ fun u => h.readAct u _ _
  | clearLog tag body => exact h.takeRequest s _ _ _ fun u => h.writeAct u _ _ fun _ => rfl
  | setErrorKind tag body => exact h.takeRequest s _ _ _ fun u => h.writeAct u _ _ fun _ => rfl
  | setTally tag body => exact h.takeRequest s _ _ _ fun u => h.writeAct u _ _ fun _ => rfl
  | clearTally tag body => exact h.takeRequest s _ _ _ fun u => h.writeAct u _ _ fun _ => rfl
  | setFramePlan tag body => exact h.takeRequest s _ _ _ (h.setFramePlanAct body)
  | frameControl tag body => exact h.takeRequest s _ _ _ (h.frameControlAct body)
  | readSideband tag body => exact h.takeRequest s _ _ _ (h.readSidebandAct body)
  | clearAlert tag body => exact h.takeRequest s _ _ _ fun u => h.withOperand u _ fun ls _ => h.clearAlerts u ls
  | testStart tag body => exact h.takeRequest s _ _ _ (h.testStartAct body)
  | testStop tag body => exact h.takeRequest s _ _ _ (h.testStopAct body)
  | testRead tag body => exact h.takeRequest s _ _ _ (h.testReadAct body)
  | storeRead tag body => exact h.takeRequest s _ _ _ (h.storeReadAct body)
  | storeErase tag body => exact h.takeRequest s _ _ _ (h.storeEraseAct body)
  | storeWrite tag body => exact h.takeRequest s _ _ _ (h.storeWriteAct body)
  | storeLock tag body => exact h.takeRequest s _ _ _ (h.storeLockAct body)
  | storeOperationComplete ok =>
    refine reaches_next ?_
    split
    · exact h.refl s
    · exact h.endOperation s _ _ _ ok
    · exact h.endOperation s _ _ _ ok
  | frameError bytes =>
    refine reaches_next ?_
    split
    · exact h.refl s
    · exact h.takeWrite s (h.inert rfl)
  | unknown tag code body =>
    show Reaches R s (execUnknown tag code body s)
    unfold execUnknown
    split
    · exact reaches_next (h.refl s)
    · exact h.takeRequest s _ _ _ fun u => h.refl u
  | writeWhileWorking =>
    refine reaches_next ?_
    split
    · exact h.inert rfl
    · exact h.refl s
  | replyRead n => exact h.execReplyRead n s
  | powerOn strap => exact reaches_next (h.partReset s _ strap)
  | pinReset strap => exact reaches_next (h.partReset s _ strap)
  | sidebandWireChange l i low => exact h.execSidebandWireChange l i low s
  | presenceRise l =>
    refine reaches_next ?_
    split
    · exact h.refl s
    · exact h.presenceChange s l true
  | presenceFall l =>
    refine reaches_next ?_
    split
    · exact h.presenceChange s l false
    · exact h.refl s
  | alertRise l =>
    refine reaches_next ?_
    split
    · exact h.refl s
    · exact h.trans (h.alertRise s l) (h.tableTake _ _)
  | alertFall l =>
    refine reaches_next ?_
    split
    · exact h.trans (h.rewired (s := s) (s.settleFilter l .alert false).wires (h.refl _)) (h.tableTake _ _)
    · exact h.refl s
  | wakeChange l =>
    exact reaches_next (h.trans (h.rewired (s := s) (s.settleFilter l .wake _).wires (h.refl _)) (h.tableTake _ _))
  | startRequest =>
    refine reaches_next ?_
    split
    · have wanted : R s (s.modFrame (fun x => { x with startWanted := true })) := h.modFrame id rfl rfl rfl
      exact h.trans wanted (h.startIfDue _)
    · exact h.refl s
  | frameStart => exact reaches_next (h.startIfDue s)
  | frameGoodEnd => exact h.execFrameGoodEnd s
  | sidebandCollision slot => exact h.execSidebandCollision slot s
  | holdTimerExpiry l =>
    refine reaches_next ?_
    dsimp only
    split
    · exact h.legEvent s l _ (f := fun u => u.expireHold l) (h.expireHold s l)
    · exact h.refl s
  | trainingLimitExpiry l =>
    refine reaches_next ?_
    split
    · exact h.legEvent s l _ (f := fun u => u.timeOut l _) (h.timeOut s l _)
    · exact h.refl s
  | trimTimerExpiry l => exact h.execTrimTimerExpiry l s
  | testLimitExpiry l =>
    refine reaches_next ?_
    split
    · split
      · exact h.leaveTest s l _ _
      · exact h.refl s
    · exact h.refl s
  | announceRepeat f =>
    refine reaches_next ?_
    split
    · split
      · exact h.inert rfl
      · exact h.refl s
    · exact h.refl s
  | partnerAnnounce f word =>
    refine reaches_next ?_
    split
    · split
      · exact h.refl s
      · exact h.takeAnnounce s _ _ _ _
    · exact h.refl s
  | partnerAdjust f word =>
    refine reaches_next ?_
    split
    · split
      · exact h.refl s
      · exact h.takeAdjust s _ _ _
    · exact h.refl s
  | partnerReady f word =>
    refine reaches_next ?_
    split
    · split
      · exact h.refl s
      · exact h.legEvent s _ _ (f := fun u => u.takeReady _ _ f) (h.takeReady s _ _ f)
    · exact h.refl s
  | partnerAbort f word =>
    refine reaches_next ?_
    split
    · exact h.legEvent s _ _ (f := fun u => u.failAttempt _ .partner _ _) (h.failure s _ _ _ _)
    · exact h.refl s
  | signalPresent f =>
    refine reaches_next ?_
    split
    · exact h.inert rfl
    · exact h.refl s
  | signalLost x => exact h.execSignalLost x s
  | lockAcquired f =>
    refine reaches_next ?_
    split
    · exact h.trans (h.inert rfl) (h.modChecker (s.modMonitor f (fun m => { m with lock := .locked })) f _)
    · exact h.refl s
  | lockLost x => exact h.execLockLost x s
  | slip x => exact h.execSlip x s
  | slipWindowEnd f =>
    refine reaches_next ?_
    split
    · exact h.refl s
    · exact h.inert rfl
  | tuneStepBoundary => exact h.execTuneStepBoundary s
  | jobCompletion found => exact h.execJobCompletion found s
  | checkerLock f bits =>
    refine reaches_next ?_
    split
    · exact h.modChecker s f _
    · exact h.refl s
  | comparedUnit f =>
    refine reaches_next ?_
    split
    · exact h.modChecker s f _
    · exact h.refl s
  | testMismatch f =>
    refine reaches_next ?_
    split
    · exact h.trans (h.modChecker s f _) (h.reportMismatch _ f)
    · exact h.refl s
  | replyFormed =>
    refine reaches_next ?_
    split
    · exact h.inert rfl
    all_goals exact h.refl s
  | bitMismatch f n => exact h.execBitMismatch f n s

/-! ### The tick -/

theorem FrameEngine.tick_kept (x : FrameEngine) :
    x.tick.state = x.state ∧ x.tick.snapshot = x.snapshot ∧ x.tick.lastSent = x.lastSent ∧ x.tick.plan = x.plan
    ∧ x.tick.changePending = x.changePending := by
  simp only [FrameEngine.tick]
  split
  · exact ⟨rfl, rfl, rfl, rfl, rfl⟩
  · split
    · exact ⟨rfl, rfl, rfl, rfl, rfl⟩
    · split <;> exact ⟨rfl, rfl, rfl, rfl, rfl⟩
  all_goals exact ⟨rfl, rfl, rfl, rfl, rfl⟩

theorem Basic.tickFrame (h : Basic R) (s : State) : R s (s.modFrame FrameEngine.tick) := by
  obtain ⟨state, snapshot, sent, plan, known⟩ := s.frame.tick_kept
  exact h.modFrame (fun e => by rw [state, snapshot]; exact e) sent (by rw [plan]) known

theorem Basic.tickWires (h : Basic R) (s : State) : R s { s with wires := s.wires.map LegWires.tick } := by
  refine h.wires rfl (fun k => ?_)
  have ticked : ({ s with wires := s.wires.map LegWires.tick } : State).wiresOf k = (s.wiresOf k).tick := by
    simp [State.wiresOf]
  rw [ticked]
  exact ⟨rfl, rfl, rfl⟩

theorem Basic.runGenerator (h : Basic R) (s : State) (f : FaceId) : R s (s.runGenerator f) := by
  simp only [State.runGenerator]
  split
  · split
    · exact h.inert rfl
    · exact h.refl s
  · exact h.refl s

theorem Basic.seekAgain (h : Basic R) (s : State) (f : FaceId) : R s (s.seekAgain f) := by
  simp only [State.seekAgain]
  split
  · exact h.modChecker s f _
  · exact h.refl s

theorem Basic.tickMicro (h : Basic R) (s : State) : R s s.tickMicro :=
  h.trans (h.trans (h.tickFrame s) (h.tickWires _))
    (h.foldl (fun s f => h.trans (h.seekAgain s f) (h.runGenerator _ f)) _ _)

theorem Basic.tickLegs (h : Basic R) (s : State) : R s { s with legs := s.legs.map Leg.tickMs } := by
  refine h.legs rfl (fun k => ?_)
  have ticked : ({ s with legs := s.legs.map Leg.tickMs } : State).leg k = (s.leg k).tickMs := by simp [State.leg]
  rw [ticked]
  exact ⟨rfl, rfl, id⟩

theorem Basic.tick (h : Basic R) (s : State) : R s s.tick := by
  have micro := h.tickMicro s
  rw [State.tick]
  generalize s.tickMicro = u at micro ⊢
  dsimp only
  split
  · have legs : u.tickMs = ({ u with legs := u.legs.map Leg.tickMs } : State).withInert u.tickMs := rfl
    generalize u.tickMs = v at legs ⊢
    exact h.trans (h.trans micro (h.tickLegs u)) (h.trans (h.inert legs) (h.inert rfl))
  · exact h.trans micro (h.inert rfl)

/-- What is closed under the controllers' operations holds across every step. -/
theorem Controlled.step (h : Controlled R) {s t : State} (stepped : Machine.step s = .next t) : R s t := by
  unfold Machine.step at stepped
  split at stepped
  · injection stepped with e
    exact e ▸ h.tick s
  · rename_i c rest _
    have taken : R s { s with pending := rest } := h.inert rfl
    exact h.trans taken (h.exec c _ t stepped)

end

end Sys2Proof.Machine

/-! The laws of the faces, the frame engine and the tuning engine (R69, R84, R86, R142, R147). Where a wire or a leg's state has
changed, change-pending is behind until the slot values are judged (R139, R141): `D` is what holds meanwhile, `R` what holds
once they are judged. -/

namespace Sys2Proof.Machine

/-- A relation that each judging restores, whatever was done to the legs and the wires before it. -/
structure Judged (D R : State → State → Prop) : Prop where
  tight : Basic R
  loose : Basic D
  wider : ∀ {s t : State}, R s t → D s t
  maps : ∀ {s t : State}, t = { s with map := t.map } → R s t
  paths : ∀ {s t : State}, t = { s with paths := t.paths } → R s t
  legs : ∀ {s t : State}, t = { s with legs := t.legs } → (∀ k : LegId, (t.leg k).state = (s.leg k).state) → R s t
  legsLoose : ∀ {s t : State}, t = { s with legs := t.legs } → D s t
  wiresLoose : ∀ {s t : State}, t = { s with wires := t.wires } → D s t
  judge : ∀ {s t : State}, D s t → R s t.judge
  partReset : ∀ (s : State) (c : ResetCause) (strap : BitVec 2), R s (s.resetPart c strap)

section
variable {D R : State → State → Prop}

/-- A leg context changes but for its state. -/
theorem Judged.modLeg (h : Judged D R) {s : State} {l : LegId} {g : Leg → Leg} (same : (g (s.leg l)).state = (s.leg l).state) :
    R s (s.modLeg l g) := by
  refine h.legs rfl fun k => ?_
  rw [State.leg_modLeg_eq]
  split
  · rename_i e; rw [e]; exact same
  · rfl

theorem Judged.setLegState (h : Judged D R) {s u : State} (l : LegId) (st : LegState) (before : D s u) :
    R s (u.setLegState l st) := h.judge (h.loose.trans before (h.legsLoose rfl))

theorem Judged.setPath (h : Judged D R) (s : State) (p : PathId) (st : PathState) : R s (s.setPath p st) := by
  have set : R s (s.setPathState p st) := h.paths rfl
  have stopped (u : State) : R u (if watchedState st then u else u.stopMonitors p) := by
    split
    · exact h.tight.refl u
    · exact h.tight.inert rfl
  simp only [State.setPath]
  split
  · exact h.tight.refl s
  · split
    · exact h.tight.trans (h.tight.trans set (stopped _)) (h.tight.trans (h.tight.settleFace _ _) (h.tight.settleFace _ _))
    · exact h.tight.trans set (stopped _)

theorem Judged.setPaths (h : Judged D R) (s : State) (ps : List PathId) (st : PathState) : R s (s.setPaths ps st) :=
  h.tight.foldl (fun s p => h.setPath s p st) ps s

theorem Judged.parkLeg (h : Judged D R) (s : State) (l : LegId) : R s (s.parkLeg l) := h.setPaths s _ _

/-! ### Leg controllers -/

theorem Judged.enterHeld (h : Judged D R) (s : State) (l : LegId) (c : TrainCause) : R s (s.enterHeld l c) := by
  have left : R s (if isTrained (s.leg l).state
      then (((s.discardTest l).abandon l .giveUp).cancelFaces (s.legFaces l)) else s) := by
    split
    · exact h.tight.trans (h.tight.trans (h.tight.discardTest s l) (h.tight.abandon _ l _)) (h.tight.cancelFaces _ _)
    · exact h.tight.refl s
  exact h.setLegState l .held (h.wider (h.tight.trans (h.tight.trans left (h.parkLeg _ l)) (h.modLeg rfl)))

theorem Judged.clearCounts (h : Judged D R) (s : State) (l : LegId) : D s (s.clearCounts l) := by
  have counts : R s (s.modLeg l (fun x => { x with attemptCount := 0, excluded := 0#4 })) := h.modLeg rfl
  exact h.loose.trans (h.wider counts) (h.wiresLoose rfl)

theorem Judged.shutDown (h : Judged D R) (s : State) (l : LegId) (r : AbortReason) : D s (s.shutDown l r) := by
  have left := h.tight.trans (h.tight.trans (h.tight.abandon s l r) (h.tight.cancelFaces _ (s.legFaces l)))
    (h.tight.discardTest _ l)
  simp only [State.shutDown]
  refine h.loose.trans (h.wider ?_) (h.clearCounts _ l)
  exact h.tight.trans (h.tight.trans left (h.parkLeg _ l)) (h.modLeg rfl)

theorem Judged.clearHold (h : Judged D R) (s : State) (l : LegId) : D s (s.clearHold l) := h.wider (h.modLeg rfl)

theorem Judged.goDown (h : Judged D R) (s : State) (l : LegId) (st : LegState) : R s (s.goDown l st) := by
  unfold State.goDown
  refine h.setLegState l st ?_
  cases (s.leg l).state
  case off | absent => exact h.loose.trans (h.clearHold s l) (h.clearCounts _ l)
  all_goals exact h.shutDown s l .giveUp

theorem Judged.enterFailed (h : Judged D R) (s : State) (l : LegId) (c : FailCause) : R s (s.enterFailed l c) :=
  h.tight.trans (h.setLegState l .failed (h.wider (h.tight.trans (h.parkLeg s l) (h.modLeg rfl)))) (h.tight.reportMid _ _)

theorem Judged.startMonitors (h : Judged D R) (s : State) (p : PathId) (n : Nat) : R s (s.startMonitors p n) := h.tight.inert rfl

theorem Judged.beginAttempt (h : Judged D R) (s : State) (l : LegId) (w : Nat) (g : PosSet) : R s (s.beginAttempt l w g) := by
  simp only [State.beginAttempt]
  refine h.tight.trans ?_ (h.tight.announceFaces _ _ _)
  refine h.tight.trans ?_ (h.tight.foldl (fun s f => h.tight.setStatus s f _) _ _)
  refine h.tight.trans ?_ (h.tight.foldl h.tight.settleFace _ _)
  refine h.tight.trans ?_ (h.tight.foldl (fun s p => h.startMonitors s p _) _ _)
  refine h.tight.trans ?_ (h.setPaths _ _ _)
  refine h.tight.trans ?_ (h.setPaths _ _ _)
  exact h.setLegState l .training (h.wider (h.modLeg rfl))

theorem Judged.startAttempt (h : Judged D R) (s : State) (l : LegId) : R s (s.startAttempt l) := by
  simp only [State.startAttempt]
  split
  · exact h.beginAttempt s l _ _
  · exact h.enterFailed s l _

theorem Judged.succeedAttempt (h : Judged D R) (s : State) (l : LegId) : R s (s.succeedAttempt l) := by
  have passed : R s ((((s.oweResults l).modLeg l (fun x => { x with
      limitTimer := none, trimTimer := if x.trimInterval ≥ 1 then some (1000 * x.trimInterval) else none })).setPaths
      (((s.oweResults l).modLeg l (fun x => { x with
        limitTimer := none, trimTimer := if x.trimInterval ≥ 1 then some (1000 * x.trimInterval) else none })).groupPaths l)
      .passing).dropRecord l) :=
    h.tight.trans (h.tight.trans (h.tight.trans (h.tight.oweResults s l) (h.modLeg rfl)) (h.setPaths _ _ _))
      (h.tight.dropRecord _ l)
  simp only [State.succeedAttempt]
  split
  · exact h.setLegState l _ (h.wider passed)
  · exact h.tight.trans (h.setLegState l _ (h.wider passed)) (h.tight.reportMid _ _)

theorem Judged.countFailure (h : Judged D R) (s : State) (l : LegId) (c : AttemptEnd) : R s (s.countFailure l c) := by
  have counted : R s (((s.modLeg l (fun x => { x with limitTimer := none })).cancelFaces (s.groupFaces l)).modLeg l
      (fun x => { x with attemptCount := x.attemptCount + 1 })) :=
    h.tight.trans (h.tight.trans (h.modLeg rfl) (h.tight.cancelFaces _ _)) (h.modLeg rfl)
  simp only [State.countFailure]
  cases c with
  | rate => exact h.tight.trans counted (h.enterFailed _ _ _)
  | _ =>
    dsimp only
    split
    · exact h.tight.trans counted (h.enterFailed _ _ _)
    · exact h.tight.trans counted (h.startAttempt _ _)

theorem Judged.failAttempt (h : Judged D R) (s : State) (l : LegId) (c : AttemptEnd) (faulty : PosSet)
    (error : Option (ErrorKind × Option FaceId × Option Nat)) : R s (s.failAttempt l c faulty error) := by
  have parked : R s (((((s.modLeg l (fun x => { x with excluded := x.excluded ||| faulty })).sendAborts l .giveUp).oweResults
      l)).setPaths ((((s.modLeg l (fun x => { x with excluded := x.excluded ||| faulty })).sendAborts l .giveUp).oweResults
      l).groupPaths l) .parked) :=
    h.tight.trans (h.tight.trans (h.tight.trans (h.modLeg rfl) (h.tight.sendAborts _ l _)) (h.tight.oweResults _ l))
      (h.setPaths _ _ _)
  simp only [State.failAttempt]
  refine h.tight.trans ?_ (h.countFailure _ l c)
  refine h.tight.trans ?_ (h.tight.dropRecord _ l)
  split
  · exact h.tight.trans parked (h.tight.reportMid _ _)
  · exact h.tight.trans parked (h.tight.reportMid _ _)
  · exact parked

theorem Judged.enableLeg (h : Judged D R) (s : State) (l : LegId) : R s (s.enableLeg l) := by
  have enabled : R s (s.modLeg l (fun x => { x with enabled := true })) := h.modLeg rfl
  simp only [State.enableLeg]
  split
  · exact h.tight.trans enabled (h.enterHeld _ l _)
  · exact h.tight.trans enabled (h.setLegState l .absent (h.clearCounts _ l))

theorem Judged.resetStop (h : Judged D R) (s : State) (l : LegId) : D s (s.resetStop l) := by
  simp only [State.resetStop]
  cases (s.leg l).state
  case off | absent => exact h.loose.trans (h.clearHold s l) (h.wiresLoose rfl)
  all_goals exact h.shutDown s l .reset

/-- A preset of the load image, active and staged, is sound where the image is (R71, R72). -/
theorem freshFace_sound {e : EqSet} (he : e.valid = true) : (freshFace e).sound := ⟨he, he, by simp [freshFace]⟩

theorem Basic.reloadFaces {R : State → State → Prop} (h : Basic R) (s : State) (l : LegId) : R s (s.reloadFaces l) := by
  have reload (u : State) (f : FaceId) : R u (u.modFace f (fun _ => freshFace u.image.presets[f])) :=
    h.modFace fun hs => freshFace_sound (hs.2 f)
  exact h.foldl reload (s.legFaces l) s

theorem Judged.settleLeg (h : Judged D R) {s u : State} (l : LegId) (before : D s u)
    (held : ∀ c, R s (u.enterHeld l c)) : R s (u.settleLeg l) := by
  simp only [State.settleLeg]
  split
  · exact h.setLegState l .off before
  · split
    · exact held _
    · exact h.setLegState l .absent before

/-- The entry to HELD ends with a judging, so what was behind before it is up to date after it. -/
theorem Judged.enterHeld_loose (h : Judged D R) {s u : State} (l : LegId) (c : TrainCause) (before : D s u) :
    R s (u.enterHeld l c) := by
  have left : D s (if isTrained (u.leg l).state
      then (((u.discardTest l).abandon l .giveUp).cancelFaces (u.legFaces l)) else u) := by
    split
    · exact h.loose.trans before (h.loose.trans (h.loose.trans (h.loose.discardTest u l) (h.loose.abandon _ l _))
        (h.loose.cancelFaces _ _))
    · exact before
  exact h.setLegState l .held (h.loose.trans left (h.wider (h.tight.trans (h.parkLeg _ l) (h.modLeg rfl))))

theorem Judged.resetLeg (h : Judged D R) (s : State) (l : LegId) : R s (s.resetLeg l) := by
  have reload (u : State) (d : LegDefaults) : R u (u.modLeg l (fun x => x.reload d)) := h.modLeg rfl
  have cleared : D s ((s.resetStop l).setTest l none) := h.loose.trans (h.resetStop s l) (h.loose.inert rfl)
  have reloaded := h.loose.trans cleared (h.wider (reload _ (s.image.legs[l])))
  have tallied := h.loose.trans reloaded (h.loose.inert (t := State.modTally _ l (fun t => { t with value := 0, overflow := false })) rfl)
  have faced := h.loose.trans tallied (h.loose.reloadFaces _ l)
  exact h.settleLeg l faced (fun c => h.enterHeld_loose l c faced)

theorem Judged.startTest (h : Judged D R) (s : State) (o : TestOrder) : R s (s.startTest o) := by
  simp only [State.startTest]
  refine h.tight.trans ?_ (h.tight.foldl (fun _ _ => h.tight.inert rfl) _ _)
  refine h.setLegState o.leg .test (h.wider ?_)
  refine h.tight.trans ?_ (h.setPaths _ _ _)
  exact h.tight.trans (h.tight.inert rfl) (h.modLeg (s := s.setTest o.leg (some (s.freshTest o))) rfl)

theorem Judged.remapPath (h : Judged D R) (s : State) (before : Option Place) (p : PathId) : R s (s.remapPath before p) := by
  simp only [State.remapPath]
  split
  · exact h.setPath s p _
  · exact h.setPath s p _
  all_goals exact h.tight.refl s

theorem Judged.loadMap (h : Judged D R) (s : State) (map : Vector (Option Lane) 8) : R s (s.loadMap map) := by
  have mapped : R s { s with map := map } := h.maps rfl
  exact h.tight.trans (h.tight.trans mapped (h.tight.foldl (fun t p => h.remapPath t _ p) _ _))
    (h.tight.foldl (fun _ _ => h.modLeg rfl) _ _)

theorem Judged.controlled (h : Judged D R) : Controlled R where
  toBasic := h.tight
  held := h.enterHeld
  down s l st _ := h.goDown s l st
  attempt := h.startAttempt
  success := h.succeedAttempt
  failure := h.failAttempt
  enable s l _ := h.enableLeg s l
  legReset := h.resetLeg
  test := h.startTest
  rewired {s _} w r := h.judge (h.loose.trans (h.wiresLoose (t := { s with wires := w }) rfl) (h.wider r))
  load _ _ := h.loadMap _ _
  partReset := h.partReset

end

end Sys2Proof.Machine

/-! The laws of O60 as relations, and O60. -/

namespace Sys2Proof.Machine

/-! ### Each law speaks of its own part -/

theorem facesSound_of_eq {s t : State} (faces : t.faces = s.faces) (image : t.image = s.image) (h : s.facesSound) :
    t.facesSound := by
  simp only [State.facesSound, State.face, faces, image]
  exact h

theorem frameSound_of_eq {s t : State} (frame : t.frame = s.frame) (h : s.frameSound) : t.frameSound := by
  simp only [State.frameSound, frame]
  exact h

theorem suspendedIsMargin_of_eq {s t : State} (engine : t.engine = s.engine) (h : s.suspendedIsMargin) :
    t.suspendedIsMargin := by
  simp only [State.suspendedIsMargin, engine]
  exact h

theorem jobsFiled_of_eq {s t : State} (engine : t.engine = s.engine) (h : s.jobsFiled) : t.jobsFiled := by
  simp only [State.jobsFiled, State.queued, engine]
  exact h

/-- The slot values follow from the legs' states and the levels of the wires (R139). -/
theorem slotValues_of_eq {s t : State} {l : LegId} (state : (t.leg l).state = (s.leg l).state)
    (levels : (s.wiresOf l).sameLevels (t.wiresOf l)) : t.slotValues l = s.slotValues l := by
  obtain ⟨present, latch, wake⟩ := levels
  simp only [State.slotValues, state, present, latch, wake]

theorem changesKnown_of_eq {s t : State} (frame : t.frame = s.frame) (values : ∀ l, t.slotValues l = s.slotValues l)
    (h : s.changesKnown) : t.changesKnown := by
  simp only [State.changesKnown, State.differs, frame, values]
  exact h

/-! ### Sets, snapshots, and the jobs of the engine -/

/-- The laws of the faces, the snapshot and the engine are kept. -/
def State.soundKept (s t : State) : Prop :=
  (s.facesSound → t.facesSound) ∧ (s.frameSound → t.frameSound) ∧ (s.suspendedIsMargin → t.suspendedIsMargin)
  ∧ (s.jobsFiled → t.jobsFiled)

theorem soundKept_of_eq {s t : State} (faces : t.faces = s.faces) (image : t.image = s.image) (frame : t.frame = s.frame)
    (engine : t.engine = s.engine) : s.soundKept t :=
  ⟨facesSound_of_eq faces image, frameSound_of_eq frame, suspendedIsMargin_of_eq engine, jobsFiled_of_eq engine⟩

theorem soundKept_refl (s : State) : s.soundKept s := ⟨id, id, id, id⟩

theorem soundKept_trans {a b c : State} (h1 : a.soundKept b) (h2 : b.soundKept c) : a.soundKept c := by
  obtain ⟨a1, a2, a3, a4⟩ := h1
  obtain ⟨b1, b2, b3, b4⟩ := h2
  exact ⟨b1 ∘ a1, b2 ∘ a2, b3 ∘ a3, b4 ∘ a4⟩

theorem basic_soundKept : Basic State.soundKept where
  refl := soundKept_refl
  trans := soundKept_trans
  inert e := soundKept_of_eq (by rw [e]; rfl) (by rw [e]; rfl) (by rw [e]; rfl) (by rw [e]; rfl)
  legs e _ := soundKept_of_eq (by rw [e]) (by rw [e]) (by rw [e]) (by rw [e])
  faces e kept := ⟨kept, frameSound_of_eq (by rw [e]), suspendedIsMargin_of_eq (by rw [e]), jobsFiled_of_eq (by rw [e])⟩
  engine e margin filed := ⟨facesSound_of_eq (by rw [e]) (by rw [e]), frameSound_of_eq (by rw [e]), margin, filed⟩
  frame e kept _ := ⟨facesSound_of_eq (by rw [e]) (by rw [e]), kept, suspendedIsMargin_of_eq (by rw [e]),
    jobsFiled_of_eq (by rw [e])⟩
  wires e _ := soundKept_of_eq (by rw [e]) (by rw [e]) (by rw [e]) (by rw [e])

theorem soundKept_judge (s : State) : s.soundKept s.judge :=
  basic_soundKept.trans (soundKept_of_eq (t := s.markChanges) rfl rfl rfl rfl |> fun h =>
    ⟨h.1, id, h.2.2.1, h.2.2.2⟩) (basic_soundKept.startIfDue _)

/-! ### The end of a reset -/

theorem factoryPreset_valid : factoryPreset.valid = true := by decide

theorem validPreset_valid {r : List Byte} {k : Nat} {e : EqSet} (h : validPreset r k = some e) : e.valid = true := by
  simp only [validPreset] at h
  split at h
  · split at h
    · injection h with h
      rwa [← h]
    · cases h
  · cases h

theorem getElem_vector16 {α : Type} (g : Nat → α) (f : FaceId) : (vector16 g)[f] = g f.val := by
  revert f
  simp only [Fin.forall_fin_succ, vector16]
  exact ⟨rfl, rfl, rfl, rfl, rfl, rfl, rfl, rfl, rfl, rfl, rfl, rfl, rfl, rfl, rfl, rfl, fun f => f.elim0⟩

/-- The load image holds valid presets alone (R71). -/
theorem presetsOf_valid (content : PageContent) (f : FaceId) : ((presetsOf content)[f]).valid = true := by
  cases content with
  | written r =>
    simp only [presetsOf, getElem_vector16]
    cases h : validPreset r f.val with
    | none => exact factoryPreset_valid
    | some e => exact validPreset_valid h
  | blank => simpa [presetsOf] using factoryPreset_valid
  | torn => simpa [presetsOf] using factoryPreset_valid

theorem State.face_loadBlocks (s : State) (image : Image) (f : FaceId) :
    (s.loadBlocks image).face f = freshFace image.presets[f] := by
  simp [State.face, State.loadBlocks]

theorem State.leg_loadBlocks (s : State) (image : Image) (l : LegId) :
    (s.loadBlocks image).leg l = legAfterReset image l := by
  revert l
  simp only [Fin.forall_fin_succ, State.leg, State.loadBlocks]
  exact ⟨rfl, rfl, rfl, rfl, fun l => l.elim0⟩

theorem State.wiresOf_loadBlocks (s : State) (image : Image) (l : LegId) :
    (s.loadBlocks image).wiresOf l = (s.wiresOf l).afterReset := by
  simp [State.wiresOf, State.loadBlocks]

/-- A reset ends with the blocks loaded from a load image, and at most a frame's start after it (R172). -/
theorem resetPart_cases (s : State) (c : ResetCause) (strap : BitVec 2) :
    ∃ (u : State) (pages : Vector Page 4), s.resetPart c strap = u.loadBlocks (loadImage pages)
      ∨ s.resetPart c strap = (u.loadBlocks (loadImage pages)).startFrame := by
  simp only [State.resetPart]
  split
  · exact ⟨_, _, .inr rfl⟩
  · exact ⟨_, _, .inl rfl⟩

/-- A relation that the loaded blocks meet from every state is met by every reset. -/
theorem Basic.resetPart {R : State → State → Prop} (h : Basic R)
    (loaded : ∀ (s u : State) (pages : Vector Page 4), R s (u.loadBlocks (loadImage pages))) (s : State) (c : ResetCause)
    (strap : BitVec 2) : R s (s.resetPart c strap) := by
  obtain ⟨u, pages, e | e⟩ := resetPart_cases s c strap <;> rw [e]
  · exact loaded s u pages
  · exact h.trans (loaded s u pages) (h.startFrame _)

theorem soundKept_loadBlocks (s u : State) (pages : Vector Page 4) : s.soundKept (u.loadBlocks (loadImage pages)) := by
  have presets (f : FaceId) : ((loadImage pages).presets[f]).valid = true := presetsOf_valid _ f
  refine ⟨fun _ => ⟨fun f => ?_, presets⟩, fun _ => ?_, fun _ x hx => ?_, fun _ f j hj => ?_⟩
  · rw [State.face_loadBlocks]
    exact freshFace_sound (presets f)
  · simp [State.frameSound, State.loadBlocks, frameAfterReset]
  · simp [State.loadBlocks, freshEngine] at hx
  · simp [State.queued, State.loadBlocks, freshEngine] at hj

theorem judged_soundKept : Judged State.soundKept State.soundKept where
  tight := basic_soundKept
  loose := basic_soundKept
  wider := id
  maps e := soundKept_of_eq (by rw [e]) (by rw [e]) (by rw [e]) (by rw [e])
  paths e := soundKept_of_eq (by rw [e]) (by rw [e]) (by rw [e]) (by rw [e])
  legs e _ := soundKept_of_eq (by rw [e]) (by rw [e]) (by rw [e]) (by rw [e])
  legsLoose e := soundKept_of_eq (by rw [e]) (by rw [e]) (by rw [e]) (by rw [e])
  wiresLoose e := soundKept_of_eq (by rw [e]) (by rw [e]) (by rw [e]) (by rw [e])
  judge h := soundKept_trans h (soundKept_judge _)
  partReset := basic_soundKept.resetPart soundKept_loadBlocks

/-! ### Change-pending -/

def State.changesKept (s t : State) : Prop := s.changesKnown → t.changesKnown

theorem LegWires.sameLevels_refl (x : LegWires) : x.sameLevels x := ⟨rfl, rfl, rfl⟩

theorem changesKept_of_eq {s t : State} (frame : t.frame = s.frame) (legs : t.legs = s.legs) (wires : t.wires = s.wires) :
    s.changesKept t :=
  changesKnown_of_eq frame fun _ => slotValues_of_eq (by simp only [State.leg, legs]) (by
    simp only [State.wiresOf, wires]; exact LegWires.sameLevels_refl _)

theorem changesKept_legs {s t : State} (e : t = { s with legs := t.legs })
    (states : ∀ k : LegId, (t.leg k).state = (s.leg k).state) : s.changesKept t :=
  changesKnown_of_eq (by rw [e]) fun l => slotValues_of_eq (states l) (by
    have wires : t.wires = s.wires := by rw [e]
    simp only [State.wiresOf, wires]; exact LegWires.sameLevels_refl _)

theorem basic_changesKept : Basic State.changesKept where
  refl _ := id
  trans h1 h2 := h2 ∘ h1
  inert e := changesKept_of_eq (by rw [e]; rfl) (by rw [e]; rfl) (by rw [e]; rfl)
  legs e q := changesKept_legs e fun k => (q k).state
  faces e _ := changesKept_of_eq (by rw [e]) (by rw [e]) (by rw [e])
  engine e _ _ := changesKept_of_eq (by rw [e]) (by rw [e]) (by rw [e])
  frame _ _ kept := kept
  wires {s t} e levels := changesKnown_of_eq (by rw [e]) fun l => slotValues_of_eq (by
    have legs : t.legs = s.legs := by rw [e]
    simp only [State.leg, legs]) (levels l)

/-- Nothing is asked of a state that is about to be judged. -/
theorem basic_true : Basic (fun _ _ => True) where
  refl _ := trivial
  trans _ _ := trivial
  inert _ := trivial
  legs _ _ := trivial
  faces _ _ := trivial
  engine _ _ _ := trivial
  frame _ _ _ := trivial
  wires _ _ := trivial

/-- A judging sets the flag for every difference of the plan in force (R141). -/
theorem changesKnown_judge (s : State) : s.judge.changesKnown := by
  have marked : s.markChanges.changesKnown := changesKnown_of_pending (.inr ⟨s.frame.changePending, Bool.or_comm _ _⟩)
  exact basic_changesKept.startIfDue s.markChanges marked

/-- After a reset every leg is OFF or ABSENT, and nothing of its sideband is asserted (R17, R135, R137). -/
theorem slotValues_loadBlocks (s : State) (image : Image) (l : LegId) : (s.loadBlocks image).slotValues l = 0#5 := by
  have down : (legAfterReset image l).state = .off ∨ (legAfterReset image l).state = .absent := by
    simp only [legAfterReset, freshLeg]
    split
    · exact .inl rfl
    · exact .inr rfl
  simp only [State.slotValues, State.leg_loadBlocks, State.wiresOf_loadBlocks]
  rcases down with e | e <;> rw [e] <;> rfl

theorem changesKept_loadBlocks (s u : State) (pages : Vector Page 4) : s.changesKept (u.loadBlocks (loadImage pages)) := by
  have sent (l : LegId) : (u.loadBlocks (loadImage pages)).frame.lastSent[l] = 0#5 := by
    simp [State.loadBlocks, frameAfterReset]
  have same (p : SlotPlan) : (u.loadBlocks (loadImage pages)).differs p = false := by
    simp [State.differs, slotValues_loadBlocks, sent]
  intro _ hd
  rw [same] at hd
  cases hd

theorem judged_changesKept : Judged (fun _ _ => True) State.changesKept where
  tight := basic_changesKept
  loose := basic_true
  wider _ := trivial
  maps e := changesKept_of_eq (by rw [e]) (by rw [e]) (by rw [e])
  paths e := changesKept_of_eq (by rw [e]) (by rw [e]) (by rw [e])
  legs := changesKept_legs
  legsLoose _ := trivial
  wiresLoose _ := trivial
  judge _ _ := changesKnown_judge _
  partReset := basic_changesKept.resetPart changesKept_loadBlocks

/-- Settles O60: both relations are closed under what the blocks do, and so hold across every step. -/
theorem everyStepKeepsFacesFramesAndEngine : Obligations.EveryStepKeepsFacesFramesAndEngine := by
  unfold Obligations.EveryStepKeepsFacesFramesAndEngine
  intro s t stepped
  obtain ⟨faces, frame, margin, filed⟩ := judged_soundKept.controlled.step stepped
  exact ⟨faces, frame, judged_changesKept.controlled.step stepped, margin, filed⟩

end Sys2Proof.Machine

/-! The map and the path states (O59; R5, R7, R8, R12): a leg controller moves its own leg and its own paths alone, and leaves
them lawful. -/

namespace Sys2Proof.Machine

/-! ### The law, leg by leg -/

/-- What R8 and R12 ask of one leg: its group holds no excluded position, and its paths are lawful. -/
structure State.legLaw (s : State) (l : LegId) : Prop where
  group : (s.leg l).group &&& (s.leg l).excluded = 0#4
  paths : ∀ (p : PathId) (q : Place), s.place p = some q → q.leg = l → s.pathLaw p q

structure State.mapLaw (s : State) : Prop where
  valid : s.mapSound
  unmapped : s.unmappedSound
  legs : ∀ l : LegId, s.legLaw l

/-- A watched path that is lawful is a path of its leg's group (R8). -/
theorem pathLaw_group {s : State} {p : PathId} {q : Place} (h : s.pathLaw p q) (w : watchedState (s.path p) = true) :
    setHas (s.leg q.leg).group q.pos.val = true := by
  unfold State.pathLaw at h
  cases e : s.path p <;> simp only [e, watchedState, Bool.false_eq_true] at h w <;> exact h.2

theorem pathLaw_resting {s : State} {p : PathId} (q : Place) (w : watchedState (s.path p) = false) : s.pathLaw p q := by
  unfold State.pathLaw
  cases e : s.path p <;> simp_all [watchedState]

/-- A position of a group that holds no excluded one is not excluded. -/
theorem not_excluded {g x : PosSet} {n : Nat} (h : g &&& x = 0#4) (hg : setHas g n = true) : setHas x n = false := by
  have both : (g &&& x).getLsbD n = false := by rw [h]; simp
  rw [BitVec.getLsbD_and] at both
  unfold setHas at hg ⊢
  rw [hg, Bool.true_and] at both
  exact both

theorem mapLaw_iff (s : State) : s.mapLaw ↔ s.mapSound ∧ s.pathsSound ∧ s.excludedSound := by
  constructor
  · intro h
    refine ⟨h.valid, ⟨h.unmapped, fun p q hq => (h.legs q.leg).paths p q hq rfl⟩, fun l => (h.legs l).group, ?_⟩
    intro p q hq w
    exact not_excluded (h.legs q.leg).group (pathLaw_group ((h.legs q.leg).paths p q hq rfl) w)
  · rintro ⟨valid, ⟨unmapped, paths⟩, excluded, -⟩
    exact ⟨valid, unmapped, fun l => ⟨excluded l, fun p q hq _ => paths p q hq⟩⟩

/-! ### What a change leaves as it is -/

/-- The map, the paths, and the states and groups of the legs are as they were. -/
structure State.sameView (s t : State) : Prop where
  map : t.map = s.map
  plan : t.plan = s.plan
  paths : t.paths = s.paths
  legs : ∀ k : LegId, (s.leg k).quiet (t.leg k)

theorem Leg.quiet_trans {x y z : Leg} (h1 : x.quiet y) (h2 : y.quiet z) : x.quiet z :=
  ⟨h2.state.trans h1.state, h2.group.trans h1.group, fun h => h2.excluded (h1.excluded h)⟩

theorem Leg.quiet_of_eq {s t : State} (h : t.legs = s.legs) (k : LegId) : (s.leg k).quiet (t.leg k) := by
  simp only [State.leg, h]
  exact Leg.quiet_refl _

theorem sameView_of_eq {s t : State} (map : t.map = s.map) (plan : t.plan = s.plan) (paths : t.paths = s.paths)
    (legs : t.legs = s.legs) : s.sameView t := ⟨map, plan, paths, Leg.quiet_of_eq legs⟩

theorem basic_sameView : Basic State.sameView where
  refl _ := sameView_of_eq rfl rfl rfl rfl
  trans h1 h2 := ⟨h2.map.trans h1.map, h2.plan.trans h1.plan, h2.paths.trans h1.paths,
    fun k => Leg.quiet_trans (h1.legs k) (h2.legs k)⟩
  inert e := sameView_of_eq (by rw [e]; rfl) (by rw [e]; rfl) (by rw [e]; rfl) (by rw [e]; rfl)
  legs e q := ⟨by rw [e], by rw [e], by rw [e], q⟩
  faces e _ := sameView_of_eq (by rw [e]) (by rw [e]) (by rw [e]) (by rw [e])
  engine e _ _ := sameView_of_eq (by rw [e]) (by rw [e]) (by rw [e]) (by rw [e])
  frame e _ _ := sameView_of_eq (by rw [e]) (by rw [e]) (by rw [e]) (by rw [e])
  wires e _ := sameView_of_eq (by rw [e]) (by rw [e]) (by rw [e]) (by rw [e])

/-- A judging touches the frame engine alone. -/
theorem judge_footprint (s : State) : s.judge = { s with frame := s.judge.frame } := by
  simp only [State.judge, State.startIfDue]
  split <;> rfl

theorem sameView_judge (s : State) : s.sameView s.judge := by
  rw [judge_footprint]
  exact sameView_of_eq rfl rfl rfl rfl

theorem State.sameView.place {s t : State} (h : s.sameView t) (p : PathId) : t.place p = s.place p := by
  simp only [State.place, h.map, h.plan]

theorem State.sameView.path {s t : State} (h : s.sameView t) (p : PathId) : t.path p = s.path p := by
  simp only [State.path, h.paths]

theorem State.sameView.legLaw {s t : State} (h : s.sameView t) {l : LegId} (law : s.legLaw l) : t.legLaw l := by
  refine ⟨(h.legs l).excluded law.group, fun p q hq hl => ?_⟩
  rw [h.place] at hq
  have before := law.paths p q hq hl
  simpa only [State.pathLaw, h.path, (h.legs q.leg).state, (h.legs q.leg).group] using before

/-- A leg controller's change: the leg `l` and its own paths alone, none of which becomes UNMAPPED (R8). -/
structure State.legMove (l : LegId) (s t : State) : Prop where
  map : t.map = s.map
  plan : t.plan = s.plan
  own : ∀ p : PathId, s.pathLeg p = some l → t.path p = s.path p ∨ t.path p ≠ .unmapped
  others : ∀ p : PathId, s.pathLeg p ≠ some l → t.path p = s.path p
  legs : ∀ k : LegId, k ≠ l → (s.leg k).quiet (t.leg k)

theorem State.legMove.place {l : LegId} {s t : State} (h : s.legMove l t) (p : PathId) : t.place p = s.place p := by
  simp only [State.place, h.map, h.plan]

theorem State.legMove.pathLeg {l : LegId} {s t : State} (h : s.legMove l t) (p : PathId) : t.pathLeg p = s.pathLeg p := by
  simp only [State.pathLeg, h.place]

theorem State.legMove.trans {l : LegId} {a b c : State} (h1 : a.legMove l b) (h2 : b.legMove l c) : a.legMove l c := by
  refine ⟨h2.map.trans h1.map, h2.plan.trans h1.plan, fun p hp => ?_, fun p hp => ?_, fun k hk => ?_⟩
  · rcases h2.own p (by rw [h1.pathLeg]; exact hp) with e | e
    · rw [e]; exact h1.own p hp
    · exact .inr e
  · rw [h2.others p (by rw [h1.pathLeg]; exact hp), h1.others p hp]
  · exact Leg.quiet_trans (h1.legs k hk) (h2.legs k hk)

theorem State.sameView.move {s t : State} (h : s.sameView t) (l : LegId) : s.legMove l t :=
  ⟨h.map, h.plan, fun p _ => .inl (h.path p), fun p _ => h.path p, fun k _ => h.legs k⟩

theorem legMove_modLeg (s : State) (l : LegId) (g : Leg → Leg) : s.legMove l (s.modLeg l g) :=
  ⟨rfl, rfl, fun _ _ => .inl rfl, fun _ _ => rfl, fun k hk => by
    rw [State.leg_modLeg_other s l k g hk]; exact Leg.quiet_refl _⟩

theorem legMove_setLegState (s : State) (l : LegId) (st : LegState) : s.legMove l (s.setLegState l st) :=
  (legMove_modLeg s l _).trans ((sameView_judge _).move l)

theorem State.legs_setPaths (s : State) (ps : List PathId) (st : PathState) : (s.setPaths ps st).legs = s.legs := by
  rw [setPaths_footprint]

theorem State.leg_setPaths (s : State) (ps : List PathId) (st : PathState) (k : LegId) : (s.setPaths ps st).leg k = s.leg k := by
  simp only [State.leg, State.legs_setPaths]

theorem legMove_setPaths {s : State} {l : LegId} {ps : List PathId} {st : PathState} (own : ∀ p ∈ ps, s.pathLeg p = some l)
    (mapped : st ≠ .unmapped) : s.legMove l (s.setPaths ps st) := by
  refine ⟨by rw [setPaths_footprint], by rw [setPaths_footprint], fun p _ => ?_, fun p hp => ?_, fun k _ => ?_⟩
  · rw [path_setPaths]
    split
    · exact .inr mapped
    · exact .inl rfl
  · rw [path_setPaths, if_neg (fun h => hp (own p h))]
  · exact Leg.quiet_of_eq (State.legs_setPaths s ps st) k

theorem legMove_parkLeg (s : State) (l : LegId) : s.legMove l (s.parkLeg l) :=
  legMove_setPaths (fun p hp => (mem_legPaths s l p).mp hp) (by decide)

theorem pathsAt_own {s : State} {l : LegId} {g : PosSet} : ∀ p ∈ s.pathsAt l g, s.pathLeg p = some l :=
  fun p hp => (mem_legPaths s l p).mp (List.mem_filter.mp hp).1

/-- The paths of a leg at the positions of a set. -/
theorem mem_pathsAt {s : State} {l : LegId} {g : PosSet} {p : PathId} {q : Place} (hq : s.place p = some q) (hl : q.leg = l) :
    p ∈ s.pathsAt l g ↔ setHas g q.pos.val = true := by
  have own : p ∈ s.legPaths l := (mem_legPaths s l p).mpr (by simp [State.pathLeg, hq, hl])
  simp [State.pathsAt, own, State.pathPos, hq]

/-! ### The law after a controller's change -/

/-- The law of the other legs is untouched, so the leg's own law is all there is to show. -/
theorem State.legMove.mapLaw {l : LegId} {s t : State} (h : s.legMove l t) (law : s.mapLaw) (own : t.legLaw l) : t.mapLaw := by
  refine ⟨?_, fun p => ?_, fun k => ?_⟩
  · simp only [State.mapSound, h.map, h.plan]
    exact law.valid
  · rw [h.place]
    have before := law.unmapped p
    by_cases hp : s.pathLeg p = some l
    · have placed : s.place p ≠ none := fun e => by simp [State.pathLeg, e] at hp
      have mapped : s.path p ≠ .unmapped := fun e => placed (before.mp e)
      rcases h.own p hp with e | e
      · rw [e]; exact before
      · exact ⟨fun c => absurd c e, fun c => absurd c placed⟩
    · rw [h.others p hp]; exact before
  · by_cases hk : k = l
    · rw [hk]; exact own
    · refine ⟨(h.legs k hk).excluded (law.legs k).group, fun p q hq hl => ?_⟩
      rw [h.place] at hq
      have other : s.pathLeg p ≠ some l := by simp [State.pathLeg, hq, hl, hk]
      have quiet := h.legs q.leg (hl ▸ hk)
      have before := (law.legs k).paths p q hq hl
      simpa only [State.pathLaw, h.others p other, quiet.state, quiet.group] using before

/-- A leg none of whose paths is watched is lawful if its group holds no excluded position. -/
theorem legLaw_of_resting {s : State} {l : LegId} (group : (s.leg l).group &&& (s.leg l).excluded = 0#4)
    (rest : ∀ p : PathId, s.pathLeg p = some l → watchedState (s.path p) = false) : s.legLaw l :=
  ⟨group, fun p q hq hl => pathLaw_resting q (rest p (by simp [State.pathLeg, hq, hl]))⟩

/-- The state of the leg after its change, and everything else of it as the change before left it. -/
theorem leg_setLegState (s : State) (l : LegId) (st : LegState) : (s.setLegState l st).leg l = { s.leg l with state := st } := by
  have legs : (s.setLegState l st).legs = (s.modLeg l (fun x => { x with state := st })).legs := by
    unfold State.setLegState
    rw [judge_footprint]
  simp only [State.leg, legs]
  exact State.leg_modLeg s l _

end Sys2Proof.Machine

/-! The leg controllers' entries and exits leave their leg lawful (R8, R12). -/

namespace Sys2Proof.Machine

/-- The change from `s` to `t` is leg `l`'s own, and `l` is lawful after it, whatever it was before. -/
structure State.lands (l : LegId) (s t : State) : Prop where
  move : s.legMove l t
  law : t.legLaw l

theorem State.lands.mapLaw {l : LegId} {s t : State} (h : s.lands l t) (law : s.mapLaw) : t.mapLaw := h.move.mapLaw law h.law

theorem State.legMove.lands {l : LegId} {s t u : State} (h : s.legMove l t) (h' : t.lands l u) : s.lands l u :=
  ⟨h.trans h'.move, h'.law⟩

theorem State.lands.view {l : LegId} {s t u : State} (h : s.lands l t) (h' : t.sameView u) : s.lands l u :=
  ⟨h.move.trans (h'.move l), h'.legLaw h.law⟩

/-- No path of the leg is watched, and no position of its group is excluded. -/
structure State.legRests (s : State) (l : LegId) : Prop where
  group : (s.leg l).group &&& (s.leg l).excluded = 0#4
  rest : ∀ p : PathId, s.pathLeg p = some l → watchedState (s.path p) = false

theorem State.legRests.view {s t : State} {l : LegId} (h : s.legRests l) (v : s.sameView t) : t.legRests l := by
  refine ⟨(v.legs l).excluded h.group, fun p hp => ?_⟩
  rw [(v.move l).pathLeg] at hp
  rw [v.path]
  exact h.rest p hp

theorem path_setLegState (s : State) (l : LegId) (st : LegState) (p : PathId) : (s.setLegState l st).path p = s.path p := by
  have paths : (s.setLegState l st).paths = s.paths := by
    unfold State.setLegState
    rw [judge_footprint]; rfl
  simp only [State.path, paths]

/-- A leg that rests may take any state. -/
theorem State.legRests.setLegState {s : State} {l : LegId} (h : s.legRests l) (st : LegState) : s.lands l (s.setLegState l st) := by
  refine ⟨legMove_setLegState s l st, legLaw_of_resting ?_ (fun p hp => ?_)⟩
  · rw [leg_setLegState]; exact h.group
  · rw [(legMove_setLegState s l st).pathLeg] at hp
    rw [path_setLegState]
    exact h.rest p hp

/-- A lawful leg in OFF or ABSENT rests: no path of it can be watched (R8). -/
theorem State.legLaw.rests {s : State} {l : LegId} (h : s.legLaw l)
    (down : (s.leg l).state = .off ∨ (s.leg l).state = .absent) : s.legRests l := by
  refine ⟨h.group, fun p hp => ?_⟩
  simp only [State.pathLeg, Option.map_eq_some_iff] at hp
  obtain ⟨q, hq, rfl⟩ := hp
  have law := h.paths p q hq rfl
  unfold State.pathLaw at law
  cases e : s.path p <;> rcases down with d | d <;> simp_all [watchedState, isLinked]

/-- A leg whose paths are PARKED and whose group is emptied rests. -/
theorem legRests_parked (s : State) (l : LegId) (g : Leg → Leg) (empty : ∀ x, (g x).group = 0#4) :
    ((s.parkLeg l).modLeg l g).legRests l := by
  refine ⟨by rw [State.leg_modLeg]; simp [empty], fun p hp => ?_⟩
  rw [((legMove_parkLeg s l).trans (legMove_modLeg _ l g)).pathLeg] at hp
  show watchedState ((s.parkLeg l).path p) = false
  rw [path_parkLeg, if_pos hp]; rfl

theorem legMove_parked (s : State) (l : LegId) (g : Leg → Leg) : s.legMove l ((s.parkLeg l).modLeg l g) :=
  (legMove_parkLeg s l).trans (legMove_modLeg _ l g)

/-! ### HELD, FAILED, OFF and ABSENT -/

theorem enterHeld_lands (s : State) (l : LegId) (c : TrainCause) : s.lands l (s.enterHeld l c) := by
  have left : s.sameView (if isTrained (s.leg l).state
      then (((s.discardTest l).abandon l .giveUp).cancelFaces (s.legFaces l)) else s) := by
    have b := basic_sameView
    split
    · exact b.trans (b.trans (b.discardTest s l) (b.abandon _ l _)) (b.cancelFaces _ _)
    · exact b.refl s
  exact ((left.move l).trans (legMove_parked _ l _)).lands ((legRests_parked _ l _ fun _ => rfl).setLegState .held)

theorem enterFailed_lands (s : State) (l : LegId) (c : FailCause) : s.lands l (s.enterFailed l c) :=
  ((legMove_parked s l _).lands ((legRests_parked s l _ fun _ => rfl).setLegState .failed)).view
    (basic_sameView.reportMid _ _)

theorem sameView_clearCounts (s : State) (l : LegId) : s.sameView (s.clearCounts l) := by
  have counts : s.sameView (s.modLeg l (fun x => { x with attemptCount := 0, excluded := 0#4 })) :=
    basic_sameView.modLeg ⟨rfl, rfl, by simp⟩
  exact basic_sameView.trans counts (sameView_of_eq rfl rfl rfl rfl)

theorem sameView_clearHold (s : State) (l : LegId) : s.sameView (s.clearHold l) := basic_sameView.modLeg ⟨rfl, rfl, id⟩

theorem shutDown_rests (s : State) (l : LegId) (r : AbortReason) :
    s.legMove l (s.shutDown l r) ∧ (s.shutDown l r).legRests l := by
  have b := basic_sameView
  have left := b.trans (b.trans (b.abandon s l r) (b.cancelFaces _ (s.legFaces l))) (b.discardTest _ l)
  have clear := sameView_clearCounts
  simp only [State.shutDown]
  refine ⟨(left.move l).trans ((legMove_parked _ l _).trans ((clear _ l).move l)), ?_⟩
  exact (legRests_parked _ l _ fun _ => rfl).view (clear _ l)

theorem goDown_lands {s : State} {l : LegId} (st : LegState) (law : s.legLaw l) : s.lands l (s.goDown l st) := by
  have cleared := basic_sameView.trans (sameView_clearHold s l) (sameView_clearCounts _ l)
  obtain ⟨moved, rests⟩ := shutDown_rests s l .giveUp
  unfold State.goDown
  cases e : (s.leg l).state
  case off => exact (cleared.move l).lands (((law.rests (.inl e)).view cleared).setLegState st)
  case absent => exact (cleared.move l).lands (((law.rests (.inr e)).view cleared).setLegState st)
  all_goals exact moved.lands (rests.setLegState st)

theorem enableLeg_lands {s : State} {l : LegId} (law : s.legLaw l) (off : (s.leg l).state = .off) :
    s.lands l (s.enableLeg l) := by
  have enabled : s.sameView (s.modLeg l (fun x => { x with enabled := true })) := basic_sameView.modLeg ⟨rfl, rfl, id⟩
  have cleared := basic_sameView.trans enabled (sameView_clearCounts _ l)
  simp only [State.enableLeg]
  split
  · exact (enabled.move l).lands (enterHeld_lands _ l _)
  · exact (cleared.move l).lands (((law.rests (.inl off)).view cleared).setLegState .absent)

theorem resetStop_rests {s : State} {l : LegId} (law : s.legLaw l) :
    s.legMove l (s.resetStop l) ∧ (s.resetStop l).legRests l := by
  have cleared : s.sameView ((s.clearHold l).setLatch l false) :=
    basic_sameView.trans (sameView_clearHold s l) (sameView_of_eq rfl rfl rfl rfl)
  simp only [State.resetStop]
  cases e : (s.leg l).state
  case off => exact ⟨cleared.move l, (law.rests (.inl e)).view cleared⟩
  case absent => exact ⟨cleared.move l, (law.rests (.inr e)).view cleared⟩
  all_goals exact shutDown_rests s l .reset

theorem State.legRests.settleLeg {s : State} {l : LegId} (h : s.legRests l) : s.lands l (s.settleLeg l) := by
  simp only [State.settleLeg]
  split
  · exact h.setLegState .off
  · split
    · exact enterHeld_lands s l _
    · exact h.setLegState .absent

theorem resetLeg_lands {s : State} {l : LegId} (law : s.legLaw l) : s.lands l (s.resetLeg l) := by
  have b := basic_sameView
  have untested (u : State) : u.sameView (u.setTest l none) := b.inert rfl
  have reloaded (u : State) (d : LegDefaults) : u.sameView (u.modLeg l (fun x => x.reload d)) := b.modLeg ⟨rfl, rfl, id⟩
  have zeroed (u : State) : u.sameView (u.modTally l (fun t => { t with value := 0, overflow := false })) := b.inert rfl
  obtain ⟨moved, rests⟩ := resetStop_rests law
  have after := b.trans (b.trans (b.trans (untested (s.resetStop l)) (reloaded _ (s.image.legs[l]))) (zeroed _))
    (b.reloadFaces _ l)
  exact (moved.trans (after.move l)).lands (rests.view after).settleLeg

/-! ### Attempts and tests -/

/-- R12 chooses a group that is free of excluded positions. -/
theorem selectWidth_free {W m w : Nat} {x g : PosSet} (h : selectWidth W m x = some (w, g)) : g &&& x = 0#4 := by
  obtain ⟨v, -, found⟩ := List.exists_of_findSome?_eq_some h
  obtain ⟨g', hg, e⟩ := Option.map_eq_some_iff.mp found
  injection e with _ e
  subst e
  simpa using List.find?_some hg

/-- What an attempt's start leaves of its leg and the leg's paths (R30): the group's are TRAINING, the others BENCHED. -/
theorem beginAttempt_lands {s : State} {l : LegId} {w : Nat} {g : PosSet} (free : g &&& (s.leg l).excluded = 0#4) :
    s.lands l (s.beginAttempt l w g) := by
  have b := basic_sameView
  simp only [State.beginAttempt]
  refine State.lands.view ?_ (b.announceFaces _ _ _)
  refine State.lands.view ?_ (b.foldl (fun s f => b.setStatus s f _) _ _)
  refine State.lands.view ?_ (b.foldl b.settleFace _ _)
  refine State.lands.view ?_ (b.foldl (fun _ _ => b.inert rfl) _ _)
  have inside : ∀ p ∈ s.pathsAt l g, s.pathLeg p = some l := pathsAt_own
  have outside : ∀ p ∈ (s.legPaths l).filter (fun p => !(s.pathsAt l g).contains p), s.pathLeg p = some l :=
    fun p hp => (mem_legPaths s l p).mp (List.mem_filter.mp hp).1
  generalize hg : (fun x : Leg => { x with
    currentWidth := w, group := g, agreedRate := none, holdTimer := none, trimTimer := none,
    limitTimer := some (10 * x.trainingLimit),
    record := some (freshRecord ((s.leg l).attemptCount + 1) (ratesUpTo (s.leg l).targetRate)) }) = change
  have m1 := (legMove_modLeg s l change).trans (legMove_setLegState _ l .training)
  have m2 := m1.trans (legMove_setPaths (ps := s.pathsAt l g) (st := .training)
    (fun p hp => by rw [m1.pathLeg]; exact inside p hp) (by decide))
  have m3 := m2.trans (legMove_setPaths (st := .benched) (fun p hp => by rw [m2.pathLeg]; exact outside p hp) (by decide))
  have leg : ∀ k, (((((s.modLeg l change).setLegState l .training).setPaths (s.pathsAt l g) .training).setPaths
      ((s.legPaths l).filter (fun p => !(s.pathsAt l g).contains p)) .benched)).leg k
        = ((s.modLeg l change).setLegState l .training).leg k := by
    intro k
    rw [State.leg_setPaths, State.leg_setPaths]
  refine ⟨m3, ⟨?_, fun p q hq hl => ?_⟩⟩
  · rw [leg, leg_setLegState, State.leg_modLeg, ← hg]
    exact free
  · rw [m3.place] at hq
    have own : p ∈ s.legPaths l := (mem_legPaths s l p).mpr (by simp [State.pathLeg, hq, hl])
    unfold State.pathLaw
    rw [path_setPaths, path_setPaths, leg, hl, leg_setLegState, State.leg_modLeg, ← hg]
    by_cases hp : p ∈ s.pathsAt l g
    · simpa [hp] using (mem_pathsAt hq hl).mp hp
    · simp [hp, own]

theorem startAttempt_lands (s : State) (l : LegId) : s.lands l (s.startAttempt l) := by
  simp only [State.startAttempt]
  split
  · rename_i w g h
    exact beginAttempt_lands (selectWidth_free h)
  · exact enterFailed_lands s l _

theorem countFailure_lands (s : State) (l : LegId) (c : AttemptEnd) : s.lands l (s.countFailure l c) := by
  have b := basic_sameView
  have counted : s.sameView (((s.modLeg l (fun x => { x with limitTimer := none })).cancelFaces (s.groupFaces l)).modLeg l
      (fun x => { x with attemptCount := x.attemptCount + 1 })) :=
    b.trans (b.trans (b.modLeg ⟨rfl, rfl, id⟩) (b.cancelFaces _ _)) (b.modLeg ⟨rfl, rfl, id⟩)
  simp only [State.countFailure]
  cases c with
  | rate => exact (counted.move l).lands (enterFailed_lands _ l _)
  | _ =>
    dsimp only
    split
    · exact (counted.move l).lands (enterFailed_lands _ l _)
    · exact (counted.move l).lands (startAttempt_lands _ l)

theorem failAttempt_lands (s : State) (l : LegId) (c : AttemptEnd) (faulty : PosSet)
    (error : Option (ErrorKind × Option FaceId × Option Nat)) : s.lands l (s.failAttempt l c faulty error) := by
  have b := basic_sameView
  have left := (legMove_modLeg s l (fun x => { x with excluded := x.excluded ||| faulty })).trans
    ((b.trans (b.sendAborts _ l .giveUp) (b.oweResults _ l)).move l)
  have parked {u : State} (m : s.legMove l u) : s.legMove l (u.setPaths (u.groupPaths l) .parked) :=
    m.trans (legMove_setPaths pathsAt_own (by decide))
  simp only [State.failAttempt]
  refine State.legMove.lands ?_ (countFailure_lands _ l c)
  refine State.legMove.trans ?_ ((b.dropRecord _ l).move l)
  split
  · exact (parked left).trans ((b.reportMid _ _).move l)
  · exact (parked left).trans ((b.reportMid _ _).move l)
  · exact parked left

theorem mem_groupPaths {s : State} {l : LegId} {p : PathId} {q : Place} (hq : s.place p = some q) (hl : q.leg = l) :
    p ∈ s.groupPaths l ↔ setHas (s.leg l).group q.pos.val = true := mem_pathsAt hq hl

/-- The group of a lawful leg moves to a path state together with the leg's move to the state that goes with it (R8). -/
theorem group_lands {s t : State} {l : LegId} {ps : List PathId} {pst : PathState} {st : LegState} (law : s.legLaw l)
    (group : ps = s.groupPaths l) (goes : (pst = .passing ∧ isLinked st = true) ∨ (pst = .testing ∧ st = .test))
    (view : (s.setPaths ps pst).sameView t) : s.lands l (t.setLegState l st) := by
  subst group
  have mapped : pst ≠ .unmapped := by rcases goes with ⟨rfl, -⟩ | ⟨rfl, -⟩ <;> decide
  have moved := ((legMove_setPaths (s := s) pathsAt_own mapped).trans (view.move l)).trans (legMove_setLegState t l st)
  have kept : (s.leg l).quiet (t.leg l) := by
    have q := view.legs l
    rwa [State.leg_setPaths] at q
  refine ⟨moved, ?_, fun p q hq hl => ?_⟩
  · rw [leg_setLegState]
    exact kept.excluded law.group
  · rw [moved.place] at hq
    have before := law.paths p q hq hl
    by_cases inside : setHas (s.leg l).group q.pos.val = true
    · have path : (t.setLegState l st).path p = pst := by
        rw [path_setLegState, view.path, path_setPaths, if_pos ((mem_groupPaths hq hl).mpr inside)]
      unfold State.pathLaw
      rw [path, hl, leg_setLegState]
      simp only [kept.group]
      rcases goes with ⟨rfl, linked⟩ | ⟨rfl, rfl⟩
      · exact ⟨linked, inside⟩
      · exact ⟨rfl, inside⟩
    · have path : (t.setLegState l st).path p = s.path p := by
        rw [path_setLegState, view.path, path_setPaths, if_neg (fun h => inside ((mem_groupPaths hq hl).mp h))]
      refine pathLaw_resting q ?_
      rw [path]
      cases w : watchedState (s.path p)
      · rfl
      · exact absurd (hl ▸ pathLaw_group before w) inside

theorem succeedAttempt_lands {s : State} {l : LegId} (law : s.legLaw l) : s.lands l (s.succeedAttempt l) := by
  have b := basic_sameView
  have started := b.trans (b.oweResults s l) (b.modLeg (s := s.oweResults l) (l := l) (g := fun x => { x with
    limitTimer := none, trimTimer := if x.trimInterval ≥ 1 then some (1000 * x.trimInterval) else none }) ⟨rfl, rfl, id⟩)
  simp only [State.succeedAttempt]
  split
  · exact (started.move l).lands (group_lands (started.legLaw law) rfl (.inl ⟨rfl, rfl⟩) (b.dropRecord _ l))
  · exact ((started.move l).lands (group_lands (started.legLaw law) rfl (.inl ⟨rfl, rfl⟩) (b.dropRecord _ l))).view
      (b.reportMid _ _)

theorem startTest_lands {s : State} {o : TestOrder} (law : s.legLaw o.leg) : s.lands o.leg (s.startTest o) := by
  have b := basic_sameView
  have recorded : s.sameView (s.setTest o.leg (some (s.freshTest o))) := b.inert rfl
  have stopped := b.trans recorded (b.modLeg (s := s.setTest o.leg (some (s.freshTest o))) (l := o.leg)
    (g := fun x => { x with trimTimer := none }) ⟨rfl, rfl, id⟩)
  simp only [State.startTest]
  refine State.lands.view ?_ (b.foldl (fun _ _ => b.inert rfl) _ _)
  refine (stopped.move o.leg).lands (group_lands (stopped.legLaw law) ?_ (.inr ⟨rfl, rfl⟩) (b.refl _))
  show State.pathsAt _ _ _ = State.pathsAt _ _ _
  rw [State.leg_modLeg]
  rfl

end Sys2Proof.Machine

/-! The load of a map and the resets leave a lawful map, and O59. -/

namespace Sys2Proof.Machine

theorem State.sameView.mapLaw {s t : State} (h : s.sameView t) (law : s.mapLaw) : t.mapLaw :=
  (h.move 0).mapLaw law (h.legLaw (law.legs 0))

/-! ### LOAD MAP (R14) -/

/-- A path's state after a load, from its place before and after it. -/
def remapped (before after : Option Place) (st : PathState) : PathState :=
  match before, after with
  | some _, none => .unmapped
  | none, some _ => .parked
  | some _, some _ | none, none => st

theorem path_remapPath (s : State) (before : Option Place) (p q : PathId) :
    (s.remapPath before p).path q = if q = p then remapped before (s.place p) (s.path p) else s.path q := by
  cases before <;> cases e : s.place p <;> simp only [State.remapPath, e, remapped, path_setPath]
  all_goals
    split
    · rename_i h; rw [h]
    · rfl

theorem remapPath_footprint (s : State) (before : Option Place) (p : PathId) :
    s.remapPath before p = { s with
      paths := (s.remapPath before p).paths, monitors := (s.remapPath before p).monitors
      faces := (s.remapPath before p).faces, engine := (s.remapPath before p).engine } := by
  cases before <;> cases e : s.place p <;> simp only [State.remapPath, e]
  all_goals exact setPath_footprint s p _

theorem State.place_remapPath (s : State) (before : Option Place) (p q : PathId) : (s.remapPath before p).place q = s.place q := by
  rw [remapPath_footprint]; rfl

/-- Each path of the list is moved once, by its place before the load. -/
theorem path_remapPaths (before : PathId → Option Place) (ps : List PathId) (nodup : ps.Nodup) (s : State) (q : PathId) :
    (ps.foldl (fun t p => t.remapPath (before p) p) s).path q
      = if q ∈ ps then remapped (before q) (s.place q) (s.path q) else s.path q := by
  induction ps generalizing s with
  | nil => simp
  | cons p ps ih =>
    obtain ⟨notin, nodup⟩ := List.nodup_cons.mp nodup
    rw [List.foldl_cons, ih nodup, State.place_remapPath, path_remapPath]
    by_cases e : q = p
    · subst e; simp [notin]
    · simp [e]

theorem remapPaths_footprint (before : PathId → Option Place) (ps : List PathId) (s : State) :
    ps.foldl (fun t p => t.remapPath (before p) p) s = { s with
      paths := (ps.foldl (fun t p => t.remapPath (before p) p) s).paths
      monitors := (ps.foldl (fun t p => t.remapPath (before p) p) s).monitors
      faces := (ps.foldl (fun t p => t.remapPath (before p) p) s).faces
      engine := (ps.foldl (fun t p => t.remapPath (before p) p) s).engine } :=
  foldl_rel (R := fun a b => b = { a with
      paths := b.paths, monitors := b.monitors, faces := b.faces, engine := b.engine })
    (fun _ => rfl) (fun a b c h1 h2 => by rw [h2, h1]) (fun s p => remapPath_footprint s _ p) ps s

theorem nodup_allPaths : allPaths.Nodup := by decide

/-- A path with another map entry belongs to a leg that the load changes (R13). -/
theorem changedBy_of_ne {s : State} {map : Vector (Option Lane) 8} {p : PathId} {q : Place} (hq : s.place p = some q)
    (ne : s.map[p] ≠ map[p]) : s.changedBy map q.leg = true := by
  refine List.any_eq_true.mpr ⟨p, mem_allPaths p, ?_⟩
  simpa [State.pathLeg, hq] using ne

theorem mapLaw_loadMap {s : State} {map : Vector (Option Lane) 8} (valid : mapValid map s.plan = true)
    (off : ∀ l : LegId, s.changedBy map l = true → (s.leg l).state = .off) (law : s.mapLaw) : (s.loadMap map).mapLaw := by
  have rewidth (u : State) (l : LegId) : u.sameView (u.rewidthLeg l) := basic_sameView.modLeg ⟨rfl, rfl, by simp⟩
  refine (basic_sameView.foldl rewidth _ _).mapLaw ?_
  have path (p : PathId) := path_remapPaths s.place allPaths nodup_allPaths { s with map := map } p
  have foot := remapPaths_footprint s.place allPaths { s with map := map }
  generalize allPaths.foldl (fun t p => t.remapPath (s.place p) p) { s with map := map } = u at path foot ⊢
  have umap : u.map = map := by rw [foot]
  have uplan : u.plan = s.plan := by rw [foot]
  have uleg (l : LegId) : u.leg l = s.leg l := by
    have legs : u.legs = s.legs := by rw [foot]
    simp only [State.leg, legs]
  have uplace (p : PathId) : u.place p = ({ s with map := map } : State).place p := by
    show placeIn u.map u.plan p = placeIn map s.plan p
    rw [umap, uplan]
  have path (p : PathId) : u.path p = remapped (s.place p) (u.place p) (s.path p) := by
    rw [path p, if_pos (mem_allPaths p), uplace]; rfl
  refine ⟨by unfold State.mapSound; rw [umap, uplan]; exact valid, fun p => ?_, fun l => ⟨?_, fun p q hq hl => ?_⟩⟩
  · have before := law.unmapped p
    rw [path p]
    revert before
    cases s.place p <;> cases u.place p <;> simp [remapped]
  · rw [uleg]; exact (law.legs l).group
  · have now := path p
    rw [hq] at now
    cases hs : s.place p with
    | none =>
      refine pathLaw_resting q ?_
      rw [now, hs]; rfl
    | some q0 =>
      rw [hs] at now
      have kept : u.path p = s.path p := now
      by_cases same : s.map[p] = map[p]
      · have places : s.place p = some q := by
          rw [← hq, uplace]
          simp only [State.place, placeIn, same]
        have before := (law.legs l).paths p q places hl
        simpa only [State.pathLaw, kept, uleg] using before
      · refine pathLaw_resting q ?_
        rw [kept]
        exact ((law.legs q0.leg).rests (.inl (off q0.leg (changedBy_of_ne hs same)))).rest p (by simp [State.pathLeg, hs])

/-! ### Resets (R3, R7, R17) -/

theorem State.path_loadBlocks (s : State) (image : Image) (p : PathId) :
    (s.loadBlocks image).path p = pathAfterReset image p := by
  revert p
  simp only [Fin.forall_fin_succ, State.path, State.loadBlocks]
  exact ⟨rfl, rfl, rfl, rfl, rfl, rfl, rfl, rfl, fun p => p.elim0⟩

theorem State.place_loadBlocks (s : State) (image : Image) (p : PathId) :
    (s.loadBlocks image).place p = placeIn image.map image.plan p := rfl

/-- The CABLE page gives its map and plan only where they meet R5 together, and the default ones do (R4). -/
theorem mapValid_loadImage (pages : Vector Page 4) : mapValid (loadImage pages).map (loadImage pages).plan = true := by
  have default : mapValid defaultMap defaultPlan = true := by decide
  simp only [loadImage]
  cases e : cableOf pages[0].content with
  | none => exact default
  | some cable =>
    cases h : pages[0].content with
    | written r =>
      rw [h] at e
      simp only [cableOf] at e
      split at e
      · split at e
        · rename_i valid
          injection e with e
          subst e
          exact valid
        · cases e
      · cases e
    | blank => rw [h] at e; cases e
    | torn => rw [h] at e; cases e

/-- After a reset a path is UNMAPPED exactly where it has no place, and no path is watched (R7). -/
theorem pathAfterReset_quiet (image : Image) (p : PathId) :
    (pathAfterReset image p = .unmapped ↔ placeIn image.map image.plan p = none)
    ∧ watchedState (pathAfterReset image p) = false := by
  unfold pathAfterReset
  cases placeIn image.map image.plan p <;> simp [watchedState]

theorem mapLaw_loadBlocks (u : State) (pages : Vector Page 4) : (u.loadBlocks (loadImage pages)).mapLaw := by
  refine ⟨mapValid_loadImage pages, fun p => ?_, fun l => legLaw_of_resting ?_ (fun p _ => ?_)⟩
  · rw [State.path_loadBlocks, State.place_loadBlocks]
    exact (pathAfterReset_quiet _ p).1
  · rw [State.leg_loadBlocks]
    simp [legAfterReset, freshLeg]
  · rw [State.path_loadBlocks]
    exact (pathAfterReset_quiet _ p).2

/-! ### Every step -/

def State.lawKept (s t : State) : Prop := s.mapLaw → t.mapLaw

theorem basic_lawKept : Basic State.lawKept where
  refl _ := id
  trans h1 h2 := h2 ∘ h1
  inert e := (basic_sameView.inert e).mapLaw
  legs e q := (basic_sameView.legs e q).mapLaw
  faces e h := (basic_sameView.faces e h).mapLaw
  engine e h1 h2 := (basic_sameView.engine e h1 h2).mapLaw
  frame e h1 h2 := (basic_sameView.frame e h1 h2).mapLaw
  wires e h := (basic_sameView.wires e h).mapLaw

theorem controlled_lawKept : Controlled State.lawKept where
  toBasic := basic_lawKept
  held s l c := (enterHeld_lands s l c).mapLaw
  down _ l st _ law := (goDown_lands st (law.legs l)).mapLaw law
  attempt s l := (startAttempt_lands s l).mapLaw
  success _ l law := (succeedAttempt_lands (law.legs l)).mapLaw law
  failure s l c faulty error := (failAttempt_lands s l c faulty error).mapLaw
  enable _ l off law := (enableLeg_lands (law.legs l) off).mapLaw law
  legReset _ l law := (resetLeg_lands (law.legs l)).mapLaw law
  test _ o law := (startTest_lands (law.legs o.leg)).mapLaw law
  rewired {s u} w kept law := by
    have rewired : s.sameView { s with wires := w } := sameView_of_eq rfl rfl rfl rfl
    exact (sameView_judge u).mapLaw (kept (rewired.mapLaw law))
  load valid off := mapLaw_loadMap valid off
  partReset := basic_lawKept.resetPart (fun _ u pages _ => mapLaw_loadBlocks u pages)

/-- Settles O59: the three laws together are the law of the map and of each leg, and every step keeps it. -/
theorem everyStepKeepsMapAndPaths : Obligations.EveryStepKeepsMapAndPaths := by
  unfold Obligations.EveryStepKeepsMapAndPaths
  intro s t stepped valid paths excluded
  exact (mapLaw_iff t).mp (controlled_lawKept.step stepped ((mapLaw_iff s).mpr ⟨valid, paths, excluded⟩))

end Sys2Proof.Machine

/-! Decoding and the ranges: each decoder answers exactly where its field is a defined encoding within its range
(spec/12 R173 to R179). -/

namespace Sys2Proof.Machine

/-! ### Fields -/

section
variable (bs : List Byte) (i : Nat)

theorem isSome_finAt (n : Nat) : (finAt n bs i).isSome = true ↔ below bs i n := by
  unfold finAt below
  split <;> simp_all

theorem isSome_rangeAt (lo hi : Nat) : (rangeAt lo hi bs i).isSome = true ↔ within bs i lo hi := by
  unfold rangeAt within
  split <;> simp_all

theorem isSome_setAt (w : Nat) : (setAt w bs i).isSome = true ↔ below bs i (2 ^ w) := by
  unfold setAt below
  split <;> simp_all

theorem isSome_widthAt : (widthAt bs i).isSome = true ↔ byteAt bs i ∈ [1, 2, 4] := by
  unfold widthAt
  split <;> simp_all

theorem isSome_flagAt : (flagAt bs i).isSome = true ↔ below bs i 2 := by
  unfold flagAt below
  split <;> simp_all; omega

theorem isSome_rateAt : (rateAt bs i).isSome = true ↔ below bs i 3 := by
  unfold rateAt below
  split <;> simp_all; omega

theorem isSome_severityAt : (severityAt bs i).isSome = true ↔ below bs i 3 := by
  unfold severityAt below
  split <;> simp_all; omega

theorem isSome_slotPlanAt : (slotPlanAt bs i).isSome = true ↔ below bs i 2 := by
  unfold slotPlanAt below
  split <;> simp_all; omega

theorem isSome_bitTimeAt : (bitTimeAt bs i).isSome = true ↔ below bs i 3 := by
  unfold bitTimeAt below
  split <;> simp_all; omega

theorem isSome_startWidthAt : (startWidthAt bs i).isSome = true ↔ below bs i 3 := by
  unfold startWidthAt below
  split <;> simp_all; omega

theorem isSome_modeAt : (modeAt bs i).isSome = true ↔ below bs i 2 := by
  unfold modeAt below
  split <;> simp_all; omega

theorem isSome_facesChoiceAt : (facesChoiceAt bs i).isSome = true ↔ below bs i 3 := by
  unfold facesChoiceAt below
  split <;> simp_all; omega

theorem byteAt_lt : byteAt bs i < 256 := (bs.getD i 0#8).isLt

theorem isSome_stagesAt : (stagesAt bs i).isSome = true ↔ below bs (i + 3) 128 := by
  have h0 := byteAt_lt bs i
  have h1 := byteAt_lt bs (i + 1)
  have h2 := byteAt_lt bs (i + 2)
  have bound : le32At bs i < 2 ^ 31 ↔ byteAt bs (i + 3) < 128 := by
    simp only [le32At, le16At, Nat.add_assoc, Nat.reduceAdd]
    omega
  unfold stagesAt below
  rw [← bound]
  split <;> simp_all

theorem isSome_kindMaskAt : (kindMaskAt bs i).isSome = true ↔ below bs (i + 1) 16 := by
  have h0 := byteAt_lt bs i
  have bound : le16At bs i < 2 ^ 12 ↔ byteAt bs (i + 1) < 16 := by
    simp only [le16At]
    omega
  unfold kindMaskAt below
  rw [← bound]
  split <;> simp_all

theorem isSome_kindAt : (kindAt bs i).isSome = true ↔ within bs i 1 14 := by
  unfold kindAt within
  split <;> simp_all

theorem isSome_mapEntryAt : (mapEntryAt bs i).isSome = true ↔ laneFits bs i := by
  unfold mapEntryAt laneFits
  split
  · simp_all
  · simp [isSome_finAt, *]

theorem isSome_planEntryAt :
    (planEntryAt bs i).isSome = true ↔ (below bs i 4 ∨ byteAt bs i = 0xFF) ∧ below bs (i + 1) 4 := by
  have pos := isSome_finAt bs (i + 1) 4
  have leg := isSome_finAt bs i 4
  unfold planEntryAt
  cases h : finAt 4 bs (i + 1) with
  | none => simp_all
  | some p =>
    rw [h] at pos
    simp only [Option.isSome_some, true_iff] at pos
    dsimp only
    split <;> simp_all

/-! ### Composite fields -/

theorem isSome_bind_iff {α β : Type} {o : Option α} {f : α → Option β} {P Q : Prop} (first : o.isSome = true ↔ P)
    (then_ : ∀ a, (f a).isSome = true ↔ Q) : (o.bind f).isSome = true ↔ P ∧ Q := by
  cases o with
  | none => simp_all
  | some a =>
    simp only [Option.isSome_some, true_iff] at first
    simp [then_, first]

theorem allDecode_iff {α : Type} (n : Nat) (g : Nat → Option α) :
    allDecode n g = true ↔ ∀ k : Nat, k < n → (g k).isSome = true := by
  simp [allDecode]

theorem isSome_mapAt : (mapAt bs i).isSome = true ↔ ∀ k : Nat, k < 8 → laneFits bs (i + k) := by
  simp only [← isSome_mapEntryAt, ← allDecode_iff 8 (fun k => mapEntryAt bs (i + k))]
  unfold mapAt
  split <;> simp_all

theorem isSome_planAt : (planAt bs i).isSome = true ↔
    ∀ k : Nat, k < 8 → (below bs (i + 2 * k) 4 ∨ byteAt bs (i + 2 * k) = 0xFF) ∧ below bs (i + 2 * k + 1) 4 := by
  simp only [← isSome_planEntryAt, ← allDecode_iff 8 (fun k => planEntryAt bs (i + 2 * k))]
  unfold planAt
  split <;> simp_all

theorem isSome_eqSetAt : (eqSetAt bs i).isSome = true ↔ setFits bs i := by
  simp only [eqSetAt, setFits, within, Nat.zero_le, true_and]
  split <;> simp_all

theorem isSome_legParamsAt (enabled : Bool) : (legParamsAt enabled bs i).isSome = true ↔ paramsFit bs i := by
  unfold legParamsAt paramsFit
  refine isSome_bind_iff (isSome_rateAt bs i) fun _ => ?_
  refine isSome_bind_iff (isSome_widthAt bs _) fun _ => ?_
  refine isSome_bind_iff (isSome_rangeAt bs _ 1 7) fun _ => ?_
  refine isSome_bind_iff (isSome_rangeAt bs _ 1 255) fun _ => ?_
  refine isSome_bind_iff (isSome_rangeAt bs _ 1 255) fun _ => ?_
  refine isSome_bind_iff (isSome_rangeAt bs _ 0 60) fun _ => ?_
  refine isSome_bind_iff (isSome_rangeAt bs _ 0 63) fun _ => ?_
  refine Iff.trans (isSome_bind_iff (isSome_rangeAt bs _ 1 255) fun _ => ?_) (and_iff_left trivial)
  simp

theorem isSome_framePlanAt : (framePlanAt bs i).isSome = true ↔ planFits bs i := by
  unfold framePlanAt planFits
  refine isSome_bind_iff (isSome_slotPlanAt bs i) fun _ => ?_
  refine isSome_bind_iff (isSome_bitTimeAt bs _) fun _ => ?_
  refine Iff.trans (isSome_bind_iff (isSome_startWidthAt bs _) fun _ => ?_) (and_iff_left trivial)
  simp

end

/-! ### Bodies -/

theorem isSome_ofLength {α : Type} {n : Nat} {body : List Byte} {d : Option α} {P : Prop} (h : d.isSome = true ↔ P) :
    (ofLength n body d).isSome = true ↔ body.length = n ∧ P := by
  unfold ofLength
  split <;> simp_all

theorem isSome_legBody (body : List Byte) : (legBody body).isSome = true ↔ body.length = 1 ∧ below body 0 4 :=
  isSome_ofLength (isSome_finAt body 0 4)

theorem isSome_faceBody (body : List Byte) : (faceBody body).isSome = true ↔ body.length = 1 ∧ below body 0 16 :=
  isSome_ofLength (isSome_finAt body 0 16)

theorem isSome_pageBody (body : List Byte) : (pageBody body).isSome = true ↔ body.length = 1 ∧ below body 0 4 :=
  isSome_ofLength (isSome_finAt body 0 4)

theorem isSome_severityBody (body : List Byte) : (severityBody body).isSome = true ↔ body.length = 1 ∧ below body 0 3 :=
  isSome_ofLength (isSome_severityAt body 0)

theorem isSome_paramsBody (body : List Byte) :
    (paramsBody body).isSome = true ↔ body.length = 9 ∧ below body 0 4 ∧ paramsFit body 1 := by
  refine isSome_ofLength (isSome_bind_iff (isSome_finAt body 0 4) fun _ => ?_)
  refine Iff.trans (isSome_bind_iff (isSome_legParamsAt body 1 true) fun _ => ?_) (and_iff_left trivial)
  simp

theorem isSome_kindBody (body : List Byte) :
    (kindBody body).isSome = true ↔ body.length = 3 ∧ within body 0 1 14 ∧ below body 1 2 ∧ below body 2 3 := by
  refine isSome_ofLength (isSome_bind_iff (isSome_kindAt body 0) fun _ => ?_)
  refine isSome_bind_iff (isSome_flagAt body 1) fun _ => ?_
  refine Iff.trans (isSome_bind_iff (isSome_severityAt body 2) fun _ => ?_) (and_iff_left trivial)
  simp

theorem isSome_tallyBody (body : List Byte) :
    (tallyBody body).isSome = true ↔ body.length = 4 ∧ below body 0 4 ∧ below body 2 16 := by
  refine isSome_ofLength (isSome_bind_iff (isSome_finAt body 0 4) fun _ => ?_)
  refine Iff.trans (isSome_bind_iff (isSome_kindMaskAt body 1) fun _ => ?_) (and_iff_left trivial)
  simp

theorem isSome_controlBody (body : List Byte) :
    (controlBody body).isSome = true ↔ body.length = 3 ∧ below body 0 2 ∧ below body 1 2 ∧ below body 2 2 := by
  refine isSome_ofLength (isSome_bind_iff (isSome_flagAt body 0) fun _ => ?_)
  refine isSome_bind_iff (isSome_modeAt body 1) fun _ => ?_
  refine Iff.trans (isSome_bind_iff (isSome_flagAt body 2) fun _ => ?_) (and_iff_left trivial)
  simp

/-! Where the fields of a body must agree, what a decoded body fits follows field by field. -/

theorem fits_of_ofLength {α : Type} {n : Nat} {body : List Byte} {d : Option α} {a : α} (h : ofLength n body d = some a) :
    body.length = n ∧ d = some a := by
  unfold ofLength at h
  split at h
  · exact ⟨‹_›, h⟩
  · cases h

theorem stageBody_fits {body : List Byte} {a : FaceId × EqSet} (h : stageBody body = some a) :
    body.length = 7 ∧ below body 0 16 ∧ setFits body 1 ∧ byteAt body 1 + byteAt body 2 ≤ 24 := by
  obtain ⟨length, h⟩ := fits_of_ofLength h
  obtain ⟨f, hf, h⟩ := Option.bind_eq_some_iff.mp h
  obtain ⟨e, he, h⟩ := Option.bind_eq_some_iff.mp h
  split at h
  · rename_i valid
    refine ⟨length, (isSome_finAt body 0 16).mp (by rw [hf]; rfl), (isSome_eqSetAt body 1).mp (by rw [he]; rfl), ?_⟩
    have taps : e.tx.pre = byteAt body 1 ∧ e.tx.post = byteAt body 2 := by
      simp only [eqSetAt] at he
      split at he
      · injection he with he
        subst he
        exact ⟨rfl, rfl⟩
      · cases he
    rw [← taps.1, ← taps.2]
    exact (e.valid_iff.mp valid).2.2.1
  · cases h

theorem sourceAt_eq {body : List Byte} {i : Nat} {src : Source} (h : sourceAt body i = some src) :
    byteAt body i = sourceCode src := by
  unfold sourceAt at h
  split at h <;> first | (injection h with h; subst h; assumption) | cases h

theorem edgeModeAt_eq {body : List Byte} {i : Nat} {e : Option EdgeMode} (h : edgeModeAt body i = some e) :
    if e.isSome = true then below body i 3 else byteAt body i = 0xFF := by
  unfold edgeModeAt at h
  unfold below
  split at h <;> first | (injection h with h; subst h; simp_all) | cases h

theorem actionAt_eq {body : List Byte} {i : Nat} {a : Option Action} (h : actionAt body i = some a) :
    if a.isSome = true then below body i 5 else byteAt body i = 0xFF := by
  unfold actionAt at h
  unfold below
  split at h <;> first | (injection h with h; subst h; simp_all) | cases h

theorem reactionBody_fits {body : List Byte} {a : LegId × SlotId × Slot} (h : reactionBody body = some a) :
    body.length = 5 ∧ below body 0 4 ∧ below body 1 4
    ∧ ((byteAt body 2 = 0 ∧ byteAt body 3 = 0xFF ∧ byteAt body 4 = 0xFF)
      ∨ (within body 2 1 3 ∧ below body 3 3 ∧ below body 4 5)
      ∨ (within body 2 4 7 ∧ byteAt body 3 = 0xFF ∧ below body 4 5)) := by
  obtain ⟨length, h⟩ := fits_of_ofLength h
  obtain ⟨l, hl, h⟩ := Option.bind_eq_some_iff.mp h
  obtain ⟨j, hj, h⟩ := Option.bind_eq_some_iff.mp h
  obtain ⟨src, hsrc, h⟩ := Option.bind_eq_some_iff.mp h
  obtain ⟨edge, hedge, h⟩ := Option.bind_eq_some_iff.mp h
  obtain ⟨action, haction, h⟩ := Option.bind_eq_some_iff.mp h
  refine ⟨length, (isSome_finAt body 0 4).mp (by rw [hl]; rfl), (isSome_finAt body 1 4).mp (by rw [hj]; rfl), ?_⟩
  have source := sourceAt_eq hsrc
  have edges := edgeModeAt_eq hedge
  have actions := actionAt_eq haction
  unfold within
  rw [source]
  dsimp only at h
  cases src <;> cases edge <;> cases action <;>
    simp only [Option.isNone, Option.isSome, Bool.and_true, Bool.and_false, if_true,
      if_false, Bool.false_eq_true, reduceCtorEq] at h edges actions <;> simp_all [sourceCode]

theorem testBody_fits {body : List Byte} {a : TestOrder} (h : testBody body = some a) :
    body.length = 12 ∧ below body 0 4 ∧ below body 1 3 ∧ within body 5 64 127 ∧ below body 9 128
    ∧ (∃ k : Nat, k < 4 ∧ byteAt body (6 + k) ≠ 0) ∧ byteAt body 10 + 256 * byteAt body 11 ≤ 3600 := by
  obtain ⟨length, h⟩ := fits_of_ofLength h
  obtain ⟨l, hl, h⟩ := Option.bind_eq_some_iff.mp h
  obtain ⟨choice, hchoice, h⟩ := Option.bind_eq_some_iff.mp h
  obtain ⟨taps, htaps, h⟩ := Option.bind_eq_some_iff.mp h
  obtain ⟨seed, hseed, h⟩ := Option.bind_eq_some_iff.mp h
  dsimp only at h
  split at h
  · rename_i agrees
    simp only [Bool.and_eq_true, bne_iff_ne, decide_eq_true_eq] at agrees
    obtain ⟨⟨stage, nonzero⟩, limit⟩ := agrees
    have tapsTop := (isSome_stagesAt body 2).mp (by rw [htaps]; rfl)
    have seedTop := (isSome_stagesAt body 6).mp (by rw [hseed]; rfl)
    refine ⟨length, (isSome_finAt body 0 4).mp (by rw [hl]; rfl), (isSome_facesChoiceAt body 1).mp (by rw [hchoice]; rfl),
      ⟨?_, ?_⟩, seedTop, ?_, limit⟩
    · have value : taps = BitVec.ofNat 31 (le32At body 2) := by
        unfold stagesAt at htaps
        split at htaps
        · injection htaps with e; exact e.symm
        · cases htaps
      have h0 := byteAt_lt body 2
      have h1 := byteAt_lt body 3
      have h2 := byteAt_lt body 4
      have top : byteAt body 5 < 128 := tapsTop
      rw [value, setHas, BitVec.getLsbD_ofNat, Nat.testBit, Nat.shiftRight_eq_div_pow] at stage
      simp only [le32At, le16At, Nat.reduceAdd, Nat.reduceLT, decide_true, Bool.true_and, bne_iff_ne, ne_eq,
        Nat.one_and_eq_mod_two] at stage
      omega
    · have top : byteAt body 5 < 128 := tapsTop
      omega
    · by_contra none
      have zero : ∀ k : Nat, k < 4 → byteAt body (6 + k) = 0 := fun k hk => by
        by_contra e
        exact none ⟨k, hk, e⟩
      have value : seed = BitVec.ofNat 31 (le32At body 6) := by
        unfold stagesAt at hseed
        split at hseed
        · injection hseed with e; exact e.symm
        · cases hseed
      have e0 := zero 0 (by decide)
      have e1 := zero 1 (by decide)
      have e2 := zero 2 (by decide)
      have e3 := zero 3 (by decide)
      simp only [Nat.reduceAdd] at e0 e1 e2 e3
      apply nonzero
      rw [value]
      simp only [le32At, le16At, Nat.reduceAdd, e0, e1, e2, e3]
  · cases h

end Sys2Proof.Machine

/-! The record of a STORE WRITE and its fields (spec/10 R161), and O11: a body that does not fit is INVALID. -/

namespace Sys2Proof.Machine

/-! ### The record of a STORE WRITE behind the byte of its page -/

section
variable {p : Byte} {r : List Byte} {j i : Nat}

theorem byteAt_cons (h : j = i + 1) : byteAt (p :: r) j = byteAt r i := by
  subst h
  rfl

theorem below_cons (h : j = i + 1) (n : Nat) : below (p :: r) j n ↔ below r i n := by
  rw [below, below, byteAt_cons h]

theorem within_cons (h : j = i + 1) (lo hi : Nat) : within (p :: r) j lo hi ↔ within r i lo hi := by
  rw [within, within, byteAt_cons h]

theorem laneFits_cons (h : j = i + 1) : laneFits (p :: r) j ↔ laneFits r i := by
  rw [laneFits, laneFits, below_cons h, byteAt_cons h]

theorem setFits_cons (h : j = i + 1) : setFits (p :: r) j ↔ setFits r i := by
  subst h
  exact Iff.rfl

theorem paramsFit_cons (h : j = i + 1) : paramsFit (p :: r) j ↔ paramsFit r i := by
  subst h
  exact Iff.rfl

end

theorem cableInRange_iff (p : Byte) (r : List Byte) : cableInRange r = true ↔
    (∀ k : Nat, k < 16 → within (p :: r) (1 + k) 0x20 0x7E) ∧ within (p :: r) 17 0 99 ∧ within (p :: r) 18 1 53
    ∧ within (p :: r) 19 1 14
    ∧ (∀ k : Nat, k < 8 → (below (p :: r) (20 + 2 * k) 4 ∨ byteAt (p :: r) (20 + 2 * k) = 0xFF)
        ∧ below (p :: r) (21 + 2 * k) 4)
    ∧ ∀ k : Nat, k < 8 → laneFits (p :: r) (36 + k) := by
  have name (k : Nat) := within_cons (p := p) (r := r) (Nat.add_comm 1 k) 0x20 0x7E
  have leg (k : Nat) := below_cons (p := p) (r := r) (show 20 + 2 * k = (19 + 2 * k) + 1 by omega) 4
  have unused (k : Nat) := byteAt_cons (p := p) (r := r) (show 20 + 2 * k = (19 + 2 * k) + 1 by omega)
  have pos (k : Nat) := below_cons (p := p) (r := r) (show 21 + 2 * k = (19 + 2 * k + 1) + 1 by omega) 4
  have lane (k : Nat) := laneFits_cons (p := p) (r := r) (show 36 + k = (35 + k) + 1 by omega)
  simp only [name, leg, unused, pos, lane, within_cons (show 17 = 16 + 1 from rfl),
    within_cons (show 18 = 17 + 1 from rfl), within_cons (show 19 = 18 + 1 from rfl)]
  simp only [cableInRange, Bool.and_eq_true, isSome_rangeAt, isSome_planAt, isSome_mapAt, List.all_eq_true,
    List.mem_range, decide_eq_true_eq, and_assoc, within, Nat.zero_le, true_and]

theorem allDecode_presetAt_iff (p : Byte) (r : List Byte) :
    allDecode 16 (presetAt r) = true ↔ ∀ k : Nat, k < 16 → setFits (p :: r) (1 + 6 * k) := by
  have field (k : Nat) := setFits_cons (p := p) (r := r) (Nat.add_comm 1 (6 * k))
  simp only [field, allDecode_iff, presetAt, isSome_eqSetAt]

theorem isSome_legDefaultsAt (r : List Byte) (k : Nat) :
    (legDefaultsAt r k).isSome = true ↔ below r (9 * k) 2 ∧ paramsFit r (9 * k + 1) := by
  have flag := isSome_flagAt r (9 * k)
  unfold legDefaultsAt
  split <;> simp_all [isSome_legParamsAt]

theorem defaultsInRange_iff (p : Byte) (r : List Byte) :
    (allDecode 4 (legDefaultsAt r) && (framePlanAt r 36).isSome && (modeAt r 39).isSome && (flagAt r 40).isSome) = true
      ↔ (∀ k : Nat, k < 4 → below (p :: r) (1 + 9 * k) 2 ∧ paramsFit (p :: r) (2 + 9 * k)) ∧ planFits (p :: r) 37
        ∧ below (p :: r) 40 2 ∧ below (p :: r) 41 2 := by
  have flag (k : Nat) := below_cons (p := p) (r := r) (Nat.add_comm 1 (9 * k)) 2
  have params (k : Nat) := paramsFit_cons (p := p) (r := r) (show 2 + 9 * k = (9 * k + 1) + 1 by omega)
  have plan : planFits (p :: r) 37 ↔ planFits r 36 := Iff.rfl
  simp only [flag, params, plan, below_cons (show 40 = 39 + 1 from rfl), below_cons (show 41 = 40 + 1 from rfl),
    Bool.and_eq_true, allDecode_iff, isSome_legDefaultsAt, isSome_framePlanAt, isSome_modeAt, isSome_flagAt, and_assoc]

/-- The page that a STORE WRITE names, and its record. -/
theorem finAt_cons_zero (p : PageId) (r : List Byte) : finAt 4 (byte p.val :: r) 0 = some p := by
  fin_cases p <;> rfl

theorem isSome_storeWriteBody_page (p : PageId) (r : List Byte) : (storeWriteBody (byte p.val :: r)).isSome = true ↔
    lengthFits 0x6A#8 (byte p.val :: r) = true ∧ recordFits (byte p.val :: r) := by
  have decoded : (storeWriteBody (byte p.val :: r)).isSome = true ↔ recordInRange p r = true := by
    unfold storeWriteBody
    rw [finAt_cons_zero]
    simp
  rw [decoded, recordInRange, Bool.and_eq_true, decide_eq_true_iff]
  fin_cases p
  · exact and_congr (by simp [recordLength, lengthFits, byte]) (cableInRange_iff _ r)
  · exact and_congr (by simp [recordLength, lengthFits, byte]) (allDecode_presetAt_iff _ r)
  · exact and_congr (by simp [recordLength, lengthFits, byte]) (defaultsInRange_iff _ r)
  · exact and_congr (by simp [recordLength, lengthFits, byte]) (iff_of_true rfl trivial)

theorem storeWriteBody_fits {body : List Byte} (h : (storeWriteBody body).isSome = true) :
    lengthFits 0x6A#8 body = true ∧ recordFits body := by
  cases body with
  | nil => exact absurd h (by decide)
  | cons b r =>
    have low : b.toNat < 4 := by
      by_contra high
      have outside : finAt 4 (b :: r) 0 = none := dif_neg high
      rw [storeWriteBody, outside] at h
      cases h
    have page : b = byte (⟨b.toNat, low⟩ : PageId).val := by simp [byte]
    rw [page] at h ⊢
    exact (isSome_storeWriteBody_page _ r).mp h

/-! ### INVALID -/

section
variable {s : State} {tag code : Byte} {body : List Byte}

/-- A request whose body does not decode is answered INVALID and changes nothing. -/
theorem takeRequest_undecoded {α : Type} {o : Option α} {k : State → α → Answer} (hport : s.takesRequests)
    (hl : body.length ≤ 128) (h : o = none) :
    takeRequest code tag body (fun u => withOperand u o (k u)) s = .next (s.answered tag code body .invalid []) :=
  takeRequest_taken hport hl (withOperand_none _ o _ h) (.inr rfl)

/-- A request without a body that carries one is answered INVALID and changes nothing. -/
theorem takeRequest_notEmpty {k : State → Answer} (hport : s.takesRequests) (hl : body.length ≤ 128) (h : body ≠ []) :
    takeRequest code tag body (fun u => withEmpty u body (k u)) s = .next (s.answered tag code body .invalid []) :=
  takeRequest_taken hport hl (if_neg h) (.inr rfl)

theorem takeRequest_unfit {α : Type} {o : Option α} {k : State → α → Answer} (hport : s.takesRequests)
    (hl : body.length ≤ 128) (bad : lengthFits code body = false ∨ ¬fieldsFit code body)
    (fits : o.isSome = true → lengthFits code body = true ∧ fieldsFit code body) :
    takeRequest code tag body (fun u => withOperand u o (k u)) s = .next (s.answered tag code body .invalid []) := by
  refine takeRequest_undecoded hport hl (Option.not_isSome_iff_eq_none.mp fun some_ => ?_)
  obtain ⟨length, fields⟩ := fits some_
  rcases bad with short | unfit
  · rw [length] at short
    cases short
  · exact unfit fields

theorem takeRequest_unfit_empty {k : State → Answer} (hport : s.takesRequests) (hl : body.length ≤ 128)
    (bad : lengthFits code body = false ∨ ¬fieldsFit code body) (length : lengthFits code [] = true)
    (fields : fieldsFit code []) :
    takeRequest code tag body (fun u => withEmpty u body (k u)) s = .next (s.answered tag code body .invalid []) := by
  refine takeRequest_notEmpty hport hl fun empty => ?_
  subst empty
  rcases bad with short | unfit
  · rw [length] at short
    cases short
  · exact unfit fields

end

/-- What a decoder's fields come to, for a request of one length. -/
theorem unfit_length {n : Nat} {body : List Byte} {P Q : Prop} (fields : Q → P) (h : body.length = n ∧ Q) :
    (body.length == n) = true ∧ P :=
  ⟨beq_iff_eq.mpr h.1, fields h.2⟩

theorem isSome_of_fits {α : Type} {o : Option α} {P : Prop} (fits : ∀ a : α, o = some a → P) (h : o.isSome = true) : P := by
  obtain ⟨a, ha⟩ := Option.isSome_iff_exists.mp h
  exact fits a ha

/-- Settles O11: each request decodes its body before it acts, and each decoder answers only where the body has the
request's length and every field fits. -/
theorem wrongLengthIsInvalid : Obligations.WrongLengthIsInvalid := by
  unfold Obligations.WrongLengthIsInvalid
  intro s i tag code body hport parts hl bad
  cases i <;> simp only [requestParts, Option.some.injEq, Prod.mk.injEq, reduceCtorEq] at parts <;>
    obtain ⟨rfl, rfl, rfl⟩ := parts
  case ping | portStatus | fetchNotice | partReset | readMap | readTuneQueue | readSideband =>
    exact takeRequest_unfit_empty hport hl bad rfl trivial
  case setNoticeMask =>
    exact takeRequest_unfit hport hl bad fun h => unfit_length id ((isSome_ofLength (isSome_setAt _ 0 6)).mp h)
  case loadMap =>
    refine takeRequest_unfit hport hl bad fun h => unfit_length (fun fits k hk => ?_)
      ((isSome_ofLength (isSome_mapAt _ 0)).mp h)
    rw [← Nat.zero_add k]
    exact fits k hk
  case readLeg | legEnable | legDisable | legHold | legRelease | legRetrain | legRestoreWidth | legReset | readReactions
      | clearTally | testStop | testRead | storeRead | storeErase | storeLock =>
    exact takeRequest_unfit hport hl bad fun h => unfit_length id ((isSome_legBody _).mp h)
  case readFace | pinFace | unpinFace | tuneMargin =>
    exact takeRequest_unfit hport hl bad fun h => unfit_length id ((isSome_faceBody _).mp h)
  case commitFaces | setTuneMask =>
    exact takeRequest_unfit hport hl bad fun h => unfit_length id ((isSome_ofLength (iff_of_true rfl trivial)).mp h)
  case readLog | clearLog =>
    exact takeRequest_unfit hport hl bad fun h => unfit_length id ((isSome_severityBody _).mp h)
  case setLegParams =>
    exact takeRequest_unfit hport hl bad fun h => unfit_length id ((isSome_paramsBody _).mp h)
  case setErrorKind =>
    exact takeRequest_unfit hport hl bad fun h => unfit_length id ((isSome_kindBody _).mp h)
  case setTally =>
    exact takeRequest_unfit hport hl bad fun h => unfit_length id ((isSome_tallyBody _).mp h)
  case setFramePlan =>
    exact takeRequest_unfit hport hl bad fun h => unfit_length id ((isSome_ofLength (isSome_framePlanAt _ 0)).mp h)
  case frameControl =>
    exact takeRequest_unfit hport hl bad fun h => unfit_length id ((isSome_controlBody _).mp h)
  case clearAlert =>
    exact takeRequest_unfit hport hl bad fun h => unfit_length id ((isSome_ofLength (isSome_setAt _ 0 4)).mp h)
  case stageFace =>
    exact takeRequest_unfit hport hl bad (isSome_of_fits fun _ h => unfit_length id (stageBody_fits h))
  case setReaction =>
    exact takeRequest_unfit hport hl bad (isSome_of_fits fun _ h => unfit_length id (reactionBody_fits h))
  case testStart =>
    exact takeRequest_unfit hport hl bad (isSome_of_fits fun _ h => unfit_length id (testBody_fits h))
  case storeWrite => exact takeRequest_unfit hport hl bad storeWriteBody_fits

end Sys2Proof.Machine

/-! The port's own requests, its faulty frames and the pending PART RESET (spec/11 R165, R168 to R171), and the reading
requests of every block. -/

namespace Sys2Proof.Machine

/-- What O11 says, for a request at hand. -/
theorem exec_unfit {s : State} {i : Instr} {tag code : Byte} {body : List Byte} (hport : s.takesRequests)
    (parts : requestParts i = some (tag, code, body)) (hl : body.length ≤ 128)
    (bad : lengthFits code body = false ∨ ¬fieldsFit code body) :
    exec i s = .next (s.answered tag code body .invalid []) :=
  wrongLengthIsInvalid s i tag code body hport parts hl bad

/-- Settles O1: it is the second equation of `step`. -/
theorem stepRunsFrontCommand : Obligations.StepRunsFrontCommand :=
  fun _ _ _ => rfl

/-- Settles O4: both bodies are empty, and the reply body is formed on the state with the write accepted. -/
theorem pingAndPortStatusAnswer : Obligations.PingAndPortStatusAnswer := by
  unfold Obligations.PingAndPortStatusAnswer
  refine fun s tag hport => ⟨?ping, ?status⟩
  case ping => exact takeRequest_taken (act := pingAct []) hport (Nat.zero_le _) rfl (.inl rfl)
  case status => exact takeRequest_taken (act := portStatusAct []) hport (Nat.zero_le _) rfl (.inl rfl)

/-! ### Notices -/

theorem fetchNoticeAct_some {s : State} {n : Notice} {rest : List Notice} (h : s.notices.queue = n :: rest) :
    fetchNoticeAct [] s =
      .ok { s with notices := ⟨rest, s.notices.mask, 0⟩ } (byte s.notices.dropped :: n.bytes) := by
  simp [fetchNoticeAct, withEmpty, h, NoticeQueue.fetched]

theorem fetchNoticeAct_none {s : State} (h : s.notices.queue = []) :
    fetchNoticeAct [] s = ⟨{ s with notices := ⟨[], s.notices.mask, 0⟩ }, .none, [byte s.notices.dropped]⟩ := by
  simp [fetchNoticeAct, withEmpty, h, NoticeQueue.fetched]

/-- A set of up to eight members decodes from its byte. -/
theorem setAt_byte {w : Nat} (hw : w ≤ 8) (m : BitVec w) (rest : List Byte) :
    setAt w (m.setWidth 8 :: rest) 0 = some m := by
  have value : byteAt (m.setWidth 8 :: rest) 0 = m.toNat := by
    have small : m.toNat < 2 ^ 8 := Nat.lt_of_lt_of_le m.isLt (Nat.pow_le_pow_right (by decide) hw)
    simpa [byteAt] using small
  simp [setAt, value, m.isLt]

theorem attnLow_iff (s : State) : s.attnLow = true ↔ s.notices.queue ≠ [] := by
  cases h : s.notices.queue <;> simp [State.attnLow, h]

/-- Settles O5: the queue's two shapes, and a mask byte that decodes exactly below 64. -/
theorem fetchNoticeAndSetNoticeMask : Obligations.FetchNoticeAndSetNoticeMask := by
  unfold Obligations.FetchNoticeAndSetNoticeMask
  refine ⟨fun s tag hport => ⟨fun n rest h => ?oldest, fun h => ?none, fun m => ?mask, fun b hb => ?reserved⟩, attnLow_iff⟩
  case oldest =>
    exact takeRequest_taken (act := fetchNoticeAct []) hport (Nat.zero_le _) (fetchNoticeAct_some h) (.inl rfl)
  case none =>
    exact takeRequest_taken (act := fetchNoticeAct []) hport (Nat.zero_le _) (fetchNoticeAct_none h) (.inl rfl)
  case mask =>
    exact takeRequest_taken (act := setNoticeMaskAct _) hport (by decide : 1 ≤ 128)
      (withOperand_some _ (ofLength 1 [m.setWidth 8] (setAt 6 _ 0)) _ m (setAt_byte (by decide) m [])) (.inl rfl)
  case reserved => exact exec_unfit hport rfl (by decide : 1 ≤ 128) (.inr (Nat.not_lt.mpr hb))

/-! ### The pending PART RESET -/

theorem exec_request_pending {s : State} {i : Instr} {tag code : Byte} {body : List Byte}
    (h : s.port.state.isWorking = false) (hp : s.port.resetPending = true)
    (hi : requestParts i = some (tag, code, body)) : exec i s = .next (s.resetPart .request s.addrPins) := by
  obtain ⟨act, taken⟩ := exec_request s hi
  rw [taken, takeRequest_pending h hp, State.requestReset]

theorem takeWrite_pending {s : State} {taken : State → State} (h : s.port.state.isWorking = false)
    (hp : s.port.resetPending = true) : s.takeWrite taken = s.resetPart .request s.addrPins := by
  simp [State.takeWrite, h, hp, State.requestReset]

theorem exec_frameError_faulty {s : State} {bytes : List Byte} (hne : bytes ≠ []) (hbad : frameOk bytes = false) :
    exec (.frameError bytes) s = .next (s.takeWrite (fun s => s.frameErrorReply bytes)) := by
  show execFrameError bytes s = _
  simp [execFrameError, hne, hbad]

theorem exec_unknown_unlisted {s : State} {tag code : Byte} {body : List Byte} (h : code.toNat ∉ requestCodes) :
    exec (.unknown tag code body) s = takeRequest code tag body (fun s => .plain s .unknown) s :=
  if_neg h

section
variable {s : State} {reply : List Byte} {n : Nat} (h : s.port.state = .replyHeld reply)
include h

theorem exec_replyRead_short (hn : n < reply.length) :
    exec (.replyRead n) s = .next { s with readData := suppliedBytes reply n } := by
  show execReplyRead n s = _
  simp [execReplyRead, h, hn]

theorem exec_replyRead_reset (hn : reply.length ≤ n) (hp : s.port.resetPending = true) :
    exec (.replyRead n) s = .next ({ s with readData := suppliedBytes reply n }.resetPart .request s.addrPins) := by
  show execReplyRead n s = _
  simp [execReplyRead, h, Nat.not_lt.mpr hn, hp, State.requestReset]

theorem exec_replyRead_deliver (hn : reply.length ≤ n) (hp : s.port.resetPending = false) :
    exec (.replyRead n) s =
      .next { s with readData := suppliedBytes reply n, port := { s.port with state := .ready } } := by
  show execReplyRead n s = _
  simp [execReplyRead, h, Nat.not_lt.mpr hn, hp, State.deliver, State.modPort]

theorem exec_partResetExecute (hp : s.port.resetPending = true) (tr : ResetTrigger) (strap : BitVec 2) (ext : Bool) :
    exec (.partResetExecute tr strap ext) s =
      .next ((if tr = .read then { s with readData := reply } else s).resetPart (if ext then .pin else .request) strap) := by
  show execPartResetExecute tr strap ext s = _
  simp [execPartResetExecute, h, hp]

end

/-- Settles O6: the request marks the reset, and each arm of the port's events that meets the mark performs it. -/
theorem pendingPartReset : Obligations.PendingPartReset := by
  unfold Obligations.PendingPartReset
  refine ⟨fun s tag hport => ?request, fun s i tag code body parts h hp => exec_request_pending h hp parts,
    fun s h hp => ⟨fun bytes hne hbad => ?faulty, fun tag code body hcode => ?unknown⟩,
    fun s reply n h hp => ⟨fun hn => exec_replyRead_reset h hn hp, exec_replyRead_short h,
      fun strap ext => ⟨exec_partResetExecute h hp .write strap ext, exec_partResetExecute h hp .read strap ext⟩⟩⟩
  case request => exact takeRequest_taken (act := partResetAct []) hport (Nat.zero_le _) rfl (.inr rfl)
  case faulty => rw [exec_frameError_faulty hne hbad, takeWrite_pending h hp]
  case unknown => rw [exec_unknown_unlisted hcode, takeRequest_pending h hp, State.requestReset]

/-! ### Faulty frames and unknown codes -/

/-- Settles O10: the faulty frame's reply is formed on the echo that R165 gives it; the UNKNOWN answer is a request's. -/
theorem faultyFramesAndUnknownCodes : Obligations.FaultyFramesAndUnknownCodes := by
  unfold Obligations.FaultyFramesAndUnknownCodes
  refine ⟨fun s bytes hport hne hbad => ?faulty, fun s tag code body hport hcode hl => ?unknown⟩
  case faulty =>
    obtain ⟨h, hp⟩ := hport
    have taken : exec (.frameError bytes) s = .next (s.frameErrorReply bytes) := by
      rw [exec_frameError_faulty hne hbad]
      simp [State.takeWrite, h, hp]
    rw [taken]
    by_cases echo : byteAt bytes 0 ≤ 128 ∧ 3 ≤ bytes.length
    · refine ⟨bytes.getD 1 0#8, bytes.getD 2 0#8, by rw [if_pos echo]; exact ⟨rfl, rfl⟩, ?_⟩
      simp only [State.frameErrorReply, echo, decide_true, Bool.and_self, if_true]
      rfl
    · refine ⟨0#8, 0#8, by rw [if_neg echo]; exact ⟨rfl, rfl⟩, ?_⟩
      have none : (decide (byteAt bytes 0 ≤ 128) && decide (bytes.length ≥ 3)) = false := by
        simpa using echo
      simp only [State.frameErrorReply, none, Bool.false_eq_true, if_false]
      rfl
  case unknown =>
    rw [exec_unknown_unlisted hcode]
    exact takeRequest_taken hport hl rfl (.inr rfl)

/-! ### Reading requests -/

theorem testReadAct_none {s : State} {l : LegId} (h : s.test l = none) :
    testReadAct [byte l.val] s = .plain s .wrongState := by
  rw [testReadAct, withOperand_some s _ _ l (legBody_byte l), h]

theorem testReadAct_some {s : State} {l : LegId} {t : TestRecord} (h : s.test l = some t) :
    testReadAct [byte l.val] s = .ok s t.bytes := by
  rw [testReadAct, withOperand_some s _ _ l (legBody_byte l), h]

theorem storeReadAct_byte (s : State) (p : PageId) :
    storeReadAct [byte p.val] s = if s.store.operation = .idle then .ok s (s.page p).bytes else .plain s .busy :=
  withOperand_some s _ _ p (pageBody_byte p)

/-- Settles O12: every reading request hands back the state it was given, with the record's bytes. -/
theorem readsAnswerAndChangeNothing : Obligations.ReadsAnswerAndChangeNothing := by
  unfold Obligations.ReadsAnswerAndChangeNothing
  refine fun s tag hport => ⟨?map, fun l => ?leg, fun f => ?face, ?queue, fun l => ?reactions, fun sev => ?log,
    fun l t h => ?test, fun l h => ?noTest, fun p h => ?page, fun p h => ?busy⟩
  case map => exact takeRequest_taken (act := readMapAct []) hport (Nat.zero_le _) rfl (.inl rfl)
  case leg =>
    exact takeRequest_taken (act := readLegAct _) hport (by decide : 1 ≤ 128) (withOperand_some _ _ _ l (legBody_byte l))
      (.inl rfl)
  case face =>
    exact takeRequest_taken (act := readFaceAct _) hport (by decide : 1 ≤ 128)
      (withOperand_some _ _ _ f (faceBody_byte f)) (.inl rfl)
  case queue => exact takeRequest_taken (act := readTuneQueueAct []) hport (Nat.zero_le _) rfl (.inl rfl)
  case reactions =>
    exact takeRequest_taken (act := readReactionsAct _) hport (by decide : 1 ≤ 128)
      (withOperand_some _ _ _ l (legBody_byte l)) (.inl rfl)
  case log =>
    exact takeRequest_taken (act := readLogAct _) hport (by decide : 1 ≤ 128)
      (withOperand_some _ _ _ sev (severityBody_byte sev)) (.inl rfl)
  case test =>
    exact takeRequest_taken (act := testReadAct _) hport (by decide : 1 ≤ 128) (testReadAct_some h) (.inl rfl)
  case noTest =>
    exact takeRequest_taken (act := testReadAct _) hport (by decide : 1 ≤ 128) (testReadAct_none h) (.inr rfl)
  case page =>
    exact takeRequest_taken (act := storeReadAct _) hport (by decide : 1 ≤ 128)
      ((storeReadAct_byte _ p).trans (if_pos h)) (.inl rfl)
  case busy =>
    exact takeRequest_taken (act := storeReadAct _) hport (by decide : 1 ≤ 128)
      ((storeReadAct_byte _ p).trans (if_neg h)) (.inr rfl)

/-! ### PIN FACE and UNPIN FACE -/

/-- Settles O25: one field of the named face's record. -/
theorem pinAndUnpinFace : Obligations.PinAndUnpinFace := by
  unfold Obligations.PinAndUnpinFace
  refine fun s tag f hport => ⟨?pin, ?unpin⟩
  case pin =>
    exact takeRequest_taken (act := pinFaceAct _) hport (by decide : 1 ≤ 128)
      (withOperand_some _ _ _ f (faceBody_byte f)) (.inl rfl)
  case unpin =>
    exact takeRequest_taken (act := unpinFaceAct _) hport (by decide : 1 ≤ 128)
      (withOperand_some _ _ _ f (faceBody_byte f)) (.inl rfl)

end Sys2Proof.Machine

/-! Fields that decode to what they encode, and the requests that write one record: SET REACTION, SET ERROR KIND, the tally
requests, SET LEG PARAMS, SET FRAME PLAN and FRAME CONTROL. -/

namespace Sys2Proof.Machine

/-! ### Fields that hold a code -/

section
variable {bs : List Byte} {i : Nat}

theorem finAt_of {n : Nat} {k : Fin n} (h : byteAt bs i = k.val) : finAt n bs i = some k := by
  simp [finAt, h]

theorem rangeAt_of {lo hi n : Nat} (h : byteAt bs i = n) (hlo : lo ≤ n) (hhi : n ≤ hi) : rangeAt lo hi bs i = some n := by
  simp [rangeAt, h, hlo, hhi]

theorem widthAt_of {n : Nat} (h : byteAt bs i = n) (hn : n ∈ [1, 2, 4]) : widthAt bs i = some n := by
  rw [widthAt, h, if_pos hn]

theorem kindAt_of {k : Fin 14} (h : byteAt bs i = k.val + 1) : kindAt bs i = some k := by
  have top : byteAt bs i ≤ 14 := by omega
  simp [kindAt, h]

theorem kindMaskAt_of {m : KindMask} (h : le16At bs i = m.toNat) : kindMaskAt bs i = some m := by
  rw [kindMaskAt, h, if_pos m.isLt, BitVec.ofNat_toNat, BitVec.setWidth_eq]

theorem flagAt_of {b : Bool} (h : byteAt bs i = b.toNat) : flagAt bs i = some b := by
  unfold flagAt
  rw [h]
  cases b <;> rfl

theorem rateAt_of {r : Rate} (h : byteAt bs i = rateIndex r) : rateAt bs i = some r := by
  unfold rateAt
  rw [h]
  cases r <;> rfl

theorem severityAt_of {sev : Severity} (h : byteAt bs i = severityCode sev) : severityAt bs i = some sev := by
  unfold severityAt
  rw [h]
  cases sev <;> rfl

theorem sourceAt_of {src : Source} (h : byteAt bs i = sourceCode src) : sourceAt bs i = some src := by
  unfold sourceAt
  rw [h]
  cases src <;> rfl

theorem edgeModeAt_of {e : Option EdgeMode} (h : byteAt bs i = (orAbsent (e.map edgeModeCode)).toNat) :
    edgeModeAt bs i = some e := by
  unfold edgeModeAt
  rw [h]
  match e with
  | none | some .rise | some .fall | some .either => rfl

theorem actionAt_of {a : Option Action} (h : byteAt bs i = (orAbsent (a.map actionCode)).toNat) :
    actionAt bs i = some a := by
  unfold actionAt
  rw [h]
  match a with
  | none | some .retrain | some .hold | some .release | some .capture | some .notify => rfl

theorem slotPlanAt_of {p : SlotPlan} (h : byteAt bs i = slotPlanCode p) : slotPlanAt bs i = some p := by
  unfold slotPlanAt
  rw [h]
  cases p <;> rfl

theorem bitTimeAt_of {b : BitTime} (h : byteAt bs i = bitTimeCode b) : bitTimeAt bs i = some b := by
  unfold bitTimeAt
  rw [h]
  cases b <;> rfl

theorem startWidthAt_of {w : StartWidth} (h : byteAt bs i = startWidthCode w) : startWidthAt bs i = some w := by
  unfold startWidthAt
  rw [h]
  cases w <;> rfl

theorem modeAt_of {m : FrameMode} (h : byteAt bs i = modeCode m) : modeAt bs i = some m := by
  unfold modeAt
  rw [h]
  cases m <;> rfl

theorem facesChoiceAt_of {x : FacesChoice} (h : byteAt bs i = facesChoiceCode x) : facesChoiceAt bs i = some x := by
  unfold facesChoiceAt
  rw [h]
  cases x <;> rfl

end

theorem toNat_boolByte (b : Bool) : (boolByte b).toNat = b.toNat := by
  cases b <;> rfl

theorem toNat_byte_leg (l : LegId) : (byte l.val).toNat = l.val := toNat_byte (by omega)

theorem toNat_byte_rate (r : Rate) : (byte (rateIndex r)).toNat = rateIndex r := by cases r <;> rfl

theorem toNat_byte_severity (sev : Severity) : (byte (severityCode sev)).toNat = severityCode sev := by cases sev <;> rfl

theorem toNat_byte_source (src : Source) : (byte (sourceCode src)).toNat = sourceCode src := by cases src <;> rfl

theorem toNat_byte_slotPlan (p : SlotPlan) : (byte (slotPlanCode p)).toNat = slotPlanCode p := by cases p <;> rfl

theorem toNat_byte_bitTime (b : BitTime) : (byte (bitTimeCode b)).toNat = bitTimeCode b := by cases b <;> rfl

theorem toNat_byte_startWidth (w : StartWidth) : (byte (startWidthCode w)).toNat = startWidthCode w := by cases w <;> rfl

theorem toNat_byte_mode (m : FrameMode) : (byte (modeCode m)).toNat = modeCode m := by cases m <;> rfl

/-! ### SET REACTION -/

/-- The edge mode and the action of a slot record agree with its source (R119). -/
def slotAgrees (src : Source) (e : Option EdgeMode) (a : Option Action) : Bool :=
  match src with
  | .none => e.isNone && a.isNone
  | .present | .alert | .wake => e.isSome && a.isSome
  | .tallyThreshold | .slipBurst | .marginLow | .signalLost => e.isNone && a.isSome

theorem slotAgrees_iff (src : Source) (e : Option EdgeMode) (a : Option Action) : slotAgrees src e a = true ↔
    (src = .none ∧ e = none ∧ a = none)
      ∨ (src ∈ [Source.present, .alert, .wake] ∧ e.isSome = true ∧ a.isSome = true)
      ∨ (src ∈ [Source.tallyThreshold, .slipBurst, .marginLow, .signalLost] ∧ e = none ∧ a.isSome = true) := by
  cases src <;> simp [slotAgrees]

theorem reactionBody_bytes (l : LegId) (j : SlotId) (src : Source) (e : Option EdgeMode) (a : Option Action) :
    reactionBody
        [byte l.val, byte j.val, byte (sourceCode src), orAbsent (e.map edgeModeCode), orAbsent (a.map actionCode)]
      = if slotAgrees src e a then some (l, j, ⟨src, e, a, 0⟩) else none := by
  have leg := finAt_of (bs := [byte l.val, byte j.val, byte (sourceCode src), orAbsent (e.map edgeModeCode),
    orAbsent (a.map actionCode)]) (i := 0) (toNat_byte_leg l)
  have slot := finAt_of (bs := [byte l.val, byte j.val, byte (sourceCode src), orAbsent (e.map edgeModeCode),
    orAbsent (a.map actionCode)]) (i := 1) (toNat_byte_leg j)
  have source := sourceAt_of (bs := [byte l.val, byte j.val, byte (sourceCode src), orAbsent (e.map edgeModeCode),
    orAbsent (a.map actionCode)]) (i := 2) (toNat_byte_source src)
  have edge := edgeModeAt_of (e := e) (bs := [byte l.val, byte j.val, byte (sourceCode src),
    orAbsent (e.map edgeModeCode), orAbsent (a.map actionCode)]) (i := 3) rfl
  have action := actionAt_of (a := a) (bs := [byte l.val, byte j.val, byte (sourceCode src),
    orAbsent (e.map edgeModeCode), orAbsent (a.map actionCode)]) (i := 4) rfl
  rw [reactionBody, leg, slot, source, edge, action]
  rfl

/-- Settles O33: the five bytes decode to the slot record where its fields agree, and to nothing else. -/
theorem setReactionWritesASlot : Obligations.SetReactionWritesASlot := by
  unfold Obligations.SetReactionWritesASlot
  refine fun s tag l j src e a hport => ⟨fun agrees => ?written, fun disagrees => ?refused⟩
  case written =>
    have decoded := reactionBody_bytes l j src e a
    rw [if_pos ((slotAgrees_iff src e a).mpr agrees)] at decoded
    exact takeRequest_taken (act := setReactionAct _) hport (by decide : 5 ≤ 128) (withOperand_some _ _ _ _ decoded)
      (.inl rfl)
  case refused =>
    have decoded := reactionBody_bytes l j src e a
    rw [if_neg (fun h => disagrees ((slotAgrees_iff src e a).mp h))] at decoded
    exact takeRequest_undecoded hport (by decide : 5 ≤ 128) decoded

/-! ### SET ERROR KIND -/

theorem kindBody_bytes (k : Fin 14) (on : Bool) (sev : Severity) :
    kindBody [byte (k.val + 1), boolByte on, byte (severityCode sev)] = some (k, ⟨on, sev⟩) := by
  have kind := kindAt_of (bs := [byte (k.val + 1), boolByte on, byte (severityCode sev)]) (i := 0)
    (toNat_byte (by omega) : (byte (k.val + 1)).toNat = k.val + 1)
  have enable := flagAt_of (bs := [byte (k.val + 1), boolByte on, byte (severityCode sev)]) (i := 1) (toNat_boolByte on)
  have severity := severityAt_of (bs := [byte (k.val + 1), boolByte on, byte (severityCode sev)]) (i := 2)
    (toNat_byte_severity sev)
  rw [kindBody, kind, enable, severity]
  rfl

/-- Settles O37: the three bytes decode to the setting, and each byte out of its range fails its decoder. -/
theorem setErrorKindWritesASetting : Obligations.SetErrorKindWritesASetting := by
  unfold Obligations.SetErrorKindWritesASetting
  refine fun s tag hport => ⟨fun k on sev => ?written, fun a b c bad => ?refused⟩
  case written =>
    exact takeRequest_taken (act := setErrorKindAct _) hport (by decide : 3 ≤ 128)
      (withOperand_some _ _ _ _ (kindBody_bytes k on sev)) (.inl rfl)
  case refused =>
    refine exec_unfit hport rfl (by decide : 3 ≤ 128) (.inr fun fits => ?_)
    obtain ⟨⟨low, high⟩, flag, severity⟩ :
      (1 ≤ a.toNat ∧ a.toNat ≤ 14) ∧ b.toNat < 2 ∧ c.toNat < 3 := fits
    omega

/-! ### SET TALLY and CLEAR TALLY -/

theorem le16At_le16 {n : Nat} (hn : n < 65536) (a : Byte) (rest : List Byte) : le16At (a :: le16 n ++ rest) 1 = n := by
  have low : byteAt (a :: le16 n ++ rest) 1 = n % 256 := by simp [byteAt, le16, byte]
  have high : byteAt (a :: le16 n ++ rest) (1 + 1) = n / 256 % 256 := by simp [byteAt, le16, byte]
  rw [le16At, low, high]
  omega

theorem tallyBody_bytes (l : LegId) (m : KindMask) {n : Nat} (hn : n ≤ 255) :
    tallyBody (byte l.val :: le16 m.toNat ++ [byte n]) = some (l, m, n) := by
  have leg := finAt_of (bs := byte l.val :: le16 m.toNat ++ [byte n]) (i := 0) (toNat_byte_leg l)
  have mask := kindMaskAt_of (le16At_le16 (Nat.lt_trans m.isLt (by decide)) (byte l.val) [byte n])
  have threshold : byteAt (byte l.val :: le16 m.toNat ++ [byte n]) 3 = n := toNat_byte (by omega)
  rw [tallyBody, leg, mask, threshold]
  rfl

/-- Settles O38: the fields of both bodies decode, and a leg or a kind out of range does not. -/
theorem tallyRequests : Obligations.TallyRequests := by
  unfold Obligations.TallyRequests
  refine fun s tag hport => ⟨fun l m n hn => ?set, fun a b c d bad => ?badSet, fun l => ?clear, fun a bad => ?badClear⟩
  case set =>
    exact takeRequest_taken (act := setTallyAct _) hport (by decide : 4 ≤ 128)
      (withOperand_some _ _ _ _ (tallyBody_bytes l m hn)) (.inl rfl)
  case badSet =>
    refine exec_unfit hport rfl (by decide : 4 ≤ 128) (.inr fun fits => ?_)
    obtain ⟨leg, kinds⟩ : a.toNat < 4 ∧ c.toNat < 16 := fits
    omega
  case clear =>
    exact takeRequest_taken (act := clearTallyAct _) hport (by decide : 1 ≤ 128)
      (withOperand_some _ _ _ l (legBody_byte l)) (.inl rfl)
  case badClear => exact exec_unfit hport rfl (by decide : 1 ≤ 128) (.inr (Nat.not_lt.mpr bad))

/-! ### SET LEG PARAMS -/

theorem paramsBody_bytes (l : LegId) (r : Rate) {m b tl hm ti mf sl : Nat} (hm' : m ∈ [1, 2, 4]) (hb : 1 ≤ b ∧ b ≤ 7)
    (htl : 1 ≤ tl ∧ tl ≤ 255) (hhm : 1 ≤ hm ∧ hm ≤ 255) (hti : ti ≤ 60) (hmf : mf ≤ 63) (hsl : 1 ≤ sl ∧ sl ≤ 255) :
    paramsBody [byte l.val, byte (rateIndex r), byte m, byte b, byte tl, byte hm, byte ti, byte mf, byte sl]
      = some (l, ⟨true, r, m, b, tl, hm, ti, mf, sl⟩) := by
  generalize hbody : [byte l.val, byte (rateIndex r), byte m, byte b, byte tl, byte hm, byte ti, byte mf, byte sl] = body
  have small : m ≤ 4 := by
    simp only [List.mem_cons, List.not_mem_nil, or_false] at hm'
    omega
  have length : body.length = 9 := by rw [← hbody]; rfl
  have leg : finAt 4 body 0 = some l := finAt_of (by rw [← hbody]; exact toNat_byte_leg l)
  have rate : rateAt body 1 = some r := rateAt_of (by rw [← hbody]; exact toNat_byte_rate r)
  have minimum : widthAt body (1 + 1) = some m := widthAt_of (by rw [← hbody]; exact toNat_byte (by omega)) hm'
  have budget : rangeAt 1 7 body (1 + 2) = some b :=
    rangeAt_of (by rw [← hbody]; exact toNat_byte (by omega)) hb.1 hb.2
  have limit : rangeAt 1 255 body (1 + 3) = some tl :=
    rangeAt_of (by rw [← hbody]; exact toNat_byte (by omega)) htl.1 htl.2
  have hold : rangeAt 1 255 body (1 + 4) = some hm :=
    rangeAt_of (by rw [← hbody]; exact toNat_byte (by omega)) hhm.1 hhm.2
  have trim : rangeAt 0 60 body (1 + 5) = some ti :=
    rangeAt_of (by rw [← hbody]; exact toNat_byte (by omega)) (Nat.zero_le _) hti
  have floor : rangeAt 0 63 body (1 + 6) = some mf :=
    rangeAt_of (by rw [← hbody]; exact toNat_byte (by omega)) (Nat.zero_le _) hmf
  have slips : rangeAt 1 255 body (1 + 7) = some sl :=
    rangeAt_of (by rw [← hbody]; exact toNat_byte (by omega)) hsl.1 hsl.2
  simp [paramsBody, legParamsAt, ofLength, length, leg, rate, minimum, budget, limit, hold, trim, floor, slips]

/-- Settles O23: the range check is the decoder's, and then the width and the leg's state decide. -/
theorem setLegParamsWritesEightFields : Obligations.SetLegParamsWritesEightFields := by
  unfold Obligations.SetLegParamsWritesEightFields
  refine fun s tag hport => ⟨fun body length bad => ?unfit, fun l r m b tl hm ti mf sl => ?fit⟩
  case unfit =>
    refine exec_unfit hport rfl (by omega) (.inr fun fits => bad ?_)
    obtain ⟨leg, rate, minimum, budget, limit, hold, trim, floor, slips⟩ :
      byteAt body 0 < 4 ∧ byteAt body 1 < 3 ∧ byteAt body 2 ∈ [1, 2, 4] ∧ within body 3 1 7 ∧ within body 4 1 255
        ∧ within body 5 1 255 ∧ within body 6 0 60 ∧ within body 7 0 63 ∧ within body 8 1 255 := fits
    exact ⟨by omega, by omega, minimum, budget, limit.1, hold.1, trim.2, floor.2, slips.1⟩
  case fit =>
    intro body hm' hb1 hb2 htl1 htl2 hhm1 hhm2 hti hmf hsl1 hsl2
    have decoded : paramsBody body = some (l, ⟨true, r, m, b, tl, hm, ti, mf, sl⟩) :=
      paramsBody_bytes l r hm' ⟨hb1, hb2⟩ ⟨htl1, htl2⟩ ⟨hhm1, hhm2⟩ hti hmf ⟨hsl1, hsl2⟩
    have length : body.length ≤ 128 := Nat.le_of_ble_eq_true rfl
    split
    · rename_i wide
      exact takeRequest_taken (act := setLegParamsAct body) hport length
        ((withOperand_some _ _ _ _ decoded).trans (if_pos wide)) (.inr rfl)
    · rename_i narrow
      have acted (bytes : List Byte) : setLegParamsAct body (s.acceptWrite bytes) =
          match (s.leg l).state with
          | .off | .absent | .held =>
            .plain ((s.acceptWrite bytes).modLeg l (fun x => x.setParams ⟨true, r, m, b, tl, hm, ti, mf, sl⟩)) .done
          | .training | .active | .degraded | .test | .failed => .plain (s.acceptWrite bytes) .wrongState :=
        (withOperand_some _ _ _ _ decoded).trans (if_neg narrow)
      cases hst : (s.leg l).state
      case off | absent | held =>
        refine takeRequest_taken (act := setLegParamsAct body) hport length ((acted _).trans ?_) (.inl rfl)
        rw [hst]
        rfl
      case training | active | degraded | test | failed =>
        refine takeRequest_taken (act := setLegParamsAct body) hport length ((acted _).trans ?_) (.inr rfl)
        rw [hst]
        rfl

/-! ### SET FRAME PLAN -/

theorem framePlanAt_bytes (p : FramePlan) :
    framePlanAt [byte (slotPlanCode p.slots), byte (bitTimeCode p.bit), byte (startWidthCode p.start)] 0 = some p := by
  have slots := slotPlanAt_of (i := 0)
    (bs := [byte (slotPlanCode p.slots), byte (bitTimeCode p.bit), byte (startWidthCode p.start)])
    (toNat_byte_slotPlan p.slots)
  have bit := bitTimeAt_of (i := 0 + 1)
    (bs := [byte (slotPlanCode p.slots), byte (bitTimeCode p.bit), byte (startWidthCode p.start)])
    (toNat_byte_bitTime p.bit)
  have start := startWidthAt_of (i := 0 + 2)
    (bs := [byte (slotPlanCode p.slots), byte (bitTimeCode p.bit), byte (startWidthCode p.start)])
    (toNat_byte_startWidth p.start)
  rw [framePlanAt, slots, bit, start]
  rfl

theorem framePlanBody_bytes (p : FramePlan) :
    ofLength 3 [byte (slotPlanCode p.slots), byte (bitTimeCode p.bit), byte (startWidthCode p.start)]
      (framePlanAt [byte (slotPlanCode p.slots), byte (bitTimeCode p.bit), byte (startWidthCode p.start)] 0) = some p := by
  rw [framePlanAt_bytes]
  rfl

/-- Settles O40: the plan decodes, and the engine's state decides. -/
theorem setFramePlanReplacesThePlan : Obligations.SetFramePlanReplacesThePlan := by
  unfold Obligations.SetFramePlanReplacesThePlan
  refine fun s tag hport => ⟨fun p => ?plan, fun a b c bad => ?refused⟩
  case plan =>
    have acted (bytes : List Byte) : setFramePlanAct _ (s.acceptWrite bytes) =
        match s.frame.state with
        | .disabled | .halted => .plain ((s.acceptWrite bytes).modFrame (fun x => { x with plan := p })).judgePlan .done
        | .idle | .sending => .plain (s.acceptWrite bytes) .wrongState :=
      withOperand_some _ _ _ p (framePlanBody_bytes p)
    refine ⟨fun busy => ?wrongState, fun free => ?written⟩
    case wrongState =>
      refine takeRequest_taken (act := setFramePlanAct _) hport (by decide : 3 ≤ 128) ((acted _).trans ?_) (.inr rfl)
      rcases busy with h | h <;> rw [h] <;> rfl
    case written =>
      refine takeRequest_taken (act := setFramePlanAct _) hport (by decide : 3 ≤ 128) ((acted _).trans ?_) (.inl rfl)
      rcases free with h | h <;> rw [h] <;> rfl
  case refused =>
    refine exec_unfit hport rfl (by decide : 3 ≤ 128) (.inr fun fits => ?_)
    obtain ⟨slots, bit, start⟩ : a.toNat < 2 ∧ b.toNat < 3 ∧ c.toNat < 3 := fits
    omega

/-! ### FRAME CONTROL -/

theorem State.startFrame_eq (s : State) : s.startFrame = { s with frame := s.startedFrom s.frame } := rfl

theorem State.startIfDue_idle {s : State} (h : s.frame.state = .idle) : s.startIfDue =
    if s.frame.gap = 0 ∧ (s.frame.mode = .continuous ∨ s.frame.changePending = true ∨ s.frame.startWanted = true)
    then s.startFrame else s := by
  simp [State.startIfDue, FrameEngine.callsForFrame, h, or_assoc, and_comm]

theorem State.startIfDue_other {s : State} (h : s.frame.state ≠ .idle) : s.startIfDue = s := by
  simp [State.startIfDue, FrameEngine.callsForFrame, h]

/-- The engine in DISABLED or HALTED (R142). -/
def FrameEngine.stopped (x : FrameEngine) (st : FrameState) : FrameEngine :=
  { x with state := st, startWanted := false, snapshot := none }

theorem FrameEngine.sample_disabled {x : FrameEngine} (h : x.enableRequest = false) : x.sample = x.stopped .disabled := by
  simp [FrameEngine.sample, h, FrameEngine.stopped]

theorem FrameEngine.sample_halted {x : FrameEngine} (h : x.enableRequest = true) (hh : x.haltRequest = true) :
    x.sample = x.stopped .halted := by
  simp [FrameEngine.sample, h, hh, FrameEngine.stopped]

theorem FrameEngine.sample_running {x : FrameEngine} (h : x.enableRequest = true) (hh : x.haltRequest = false) :
    x.sample = { x with mode := x.modeRequest } := by
  simp [FrameEngine.sample, h, hh]

section
variable {s : State}

theorem actOnControl_sending (h : s.frame.state = .sending) : s.actOnControl = s := by
  simp [State.actOnControl, h]

theorem actOnControl_idle_stops (h : s.frame.state = .idle)
    (stops : s.frame.enableRequest = false ∨ s.frame.haltRequest = true) :
    s.actOnControl =
      s.modFrame (fun x => x.stopped (if s.frame.enableRequest = false then .disabled else .halted)) := by
  have acted : s.actOnControl = (s.modFrame FrameEngine.sample).startIfDue := by simp [State.actOnControl, h]
  rw [acted]
  cases on : s.frame.enableRequest
  · have stopped := FrameEngine.sample_disabled on
    rw [State.startIfDue_other (by simp [stopped, FrameEngine.stopped])]
    simp [State.modFrame, stopped]
  · have stopped := FrameEngine.sample_halted on (stops.resolve_left (by simp [on]))
    rw [State.startIfDue_other (by simp [stopped, FrameEngine.stopped])]
    simp [State.modFrame, stopped]

theorem actOnControl_idle_runs (h : s.frame.state = .idle) (on : s.frame.enableRequest = true)
    (runs : s.frame.haltRequest = false) : s.actOnControl = s.modFrame (fun x =>
      if x.gap = 0 ∧ (x.modeRequest = .continuous ∨ x.changePending = true ∨ x.startWanted = true)
      then s.startedFrom { x with mode := x.modeRequest }
      else { x with state := .idle, mode := x.modeRequest }) := by
  have acted : s.actOnControl = (s.modFrame FrameEngine.sample).startIfDue := by simp [State.actOnControl, h]
  have sampled := FrameEngine.sample_running on runs
  rw [acted, State.startIfDue_idle (by simpa [sampled] using h)]
  simp only [State.frame_modFrame, sampled]
  split
  · rename_i due
    simp only [State.startFrame_eq, State.modFrame, sampled, if_pos due]
    rfl
  · rename_i early
    simp only [State.modFrame, sampled, if_neg early, h]

theorem actOnControl_halted (h : s.frame.state = .halted) : s.actOnControl = s.modFrame (fun x =>
    if x.enableRequest = false then x.stopped .disabled
    else if x.haltRequest = true then { x with state := .halted, mode := x.modeRequest }
    else s.startedFrom { x with mode := x.modeRequest }) := by
  cases on : s.frame.enableRequest
  · simp [State.actOnControl, h, on, State.modFrame, FrameEngine.sample_disabled on]
  · cases halts : s.frame.haltRequest
    · simp [State.actOnControl, h, on, halts, State.modFrame, State.startFrame_eq]
      rfl
    · simp [State.actOnControl, h, on, halts, State.modFrame]

theorem actOnControl_disabled (h : s.frame.state = .disabled) : s.actOnControl = s.modFrame (fun x =>
    if x.enableRequest = false then x
    else if x.haltRequest = true then { x with mode := x.modeRequest }.stopped .halted
    else s.startedFrom { x with mode := x.modeRequest }) := by
  cases on : s.frame.enableRequest
  · simp [State.actOnControl, h, on, State.modFrame]
  · cases halts : s.frame.haltRequest
    · simp [State.actOnControl, h, on, halts, State.modFrame, State.startFrame_eq]
      rfl
    · simp [State.actOnControl, h, on, halts, State.modFrame]
      rfl

end

theorem controlBody_bytes (on halt : Bool) (mode : FrameMode) :
    controlBody [boolByte on, byte (modeCode mode), boolByte halt] = some (on, mode, halt) := by
  have enable := flagAt_of (bs := [boolByte on, byte (modeCode mode), boolByte halt]) (i := 0) (toNat_boolByte on)
  have mode' := modeAt_of (bs := [boolByte on, byte (modeCode mode), boolByte halt]) (i := 1) (toNat_byte_mode mode)
  have halt' := flagAt_of (bs := [boolByte on, byte (modeCode mode), boolByte halt]) (i := 2) (toNat_boolByte halt)
  rw [controlBody, enable, mode', halt']
  rfl

/-- FRAME CONTROL writes the three requests (R145). -/
def State.askControl (s : State) (on : Bool) (mode : FrameMode) (halt : Bool) : State :=
  s.modFrame (fun x => { x with enableRequest := on, modeRequest := mode, haltRequest := halt })

theorem frameControlAct_bytes (s : State) (on halt : Bool) (mode : FrameMode) :
    frameControlAct [boolByte on, byte (modeCode mode), boolByte halt] s =
      .plain (s.askControl on mode halt).actOnControl .done :=
  withOperand_some s _ _ _ (controlBody_bytes on halt mode)

/-- Settles O39: the requests are written and then acted on by the state of the engine. -/
theorem frameControlActsByEngineState : Obligations.FrameControlActsByEngineState := by
  unfold Obligations.FrameControlActsByEngineState
  refine fun s tag hport => ⟨fun on halt mode => ?control, fun a b c bad => ?refused⟩
  case control =>
    refine takeRequest_taken (act := frameControlAct _) hport (by decide : 3 ≤ 128)
      ((frameControlAct_bytes _ on halt mode).trans ?_) (.inl rfl)
    have asked (bytes : List Byte) : ((s.acceptWrite bytes).askControl on mode halt).frame.state = s.frame.state := rfl
    cases hst : s.frame.state
    case sending => rw [actOnControl_sending ((asked _).trans hst)]; rfl
    case halted =>
      rw [actOnControl_halted ((asked _).trans hst)]
      cases on <;> cases halt <;> rfl
    case disabled =>
      rw [actOnControl_disabled ((asked _).trans hst)]
      cases on <;> cases halt <;> rfl
    case idle =>
      cases on
      · rw [actOnControl_idle_stops ((asked _).trans hst) (.inl rfl)]; rfl
      · cases halt
        · rw [actOnControl_idle_runs ((asked _).trans hst) rfl rfl]; rfl
        · rw [actOnControl_idle_stops ((asked _).trans hst) (.inr rfl)]; rfl
  case refused =>
    refine exec_unfit hport rfl (by decide : 3 ≤ 128) (.inr fun fits => ?_)
    obtain ⟨on, mode, halt⟩ : a.toNat < 2 ∧ b.toNat < 2 ∧ c.toNat < 2 := fits
    omega

end Sys2Proof.Machine

/-! Judgings of the frame engine, CLEAR ALERT and READ SIDEBAND, the filtered inputs, the frames, what a report comes to, and
the build store's operations. -/

namespace Sys2Proof.Machine

/-! ### Judgings -/

theorem differs_congr {s t : State} (values : ∀ l : LegId, t.slotValues l = s.slotValues l)
    (sent : t.frame.lastSent = s.frame.lastSent) (p : SlotPlan) : t.differs p = s.differs p := by
  simp only [State.differs, values, sent]

theorem startedFrom_congr {s t : State} (values : ∀ l : LegId, t.slotValues l = s.slotValues l) (x : FrameEngine) :
    t.startedFrom x = s.startedFrom x := by
  simp only [State.startedFrom, values]

theorem slotValues_of_legs_wires {s t : State} (legs : t.legs = s.legs) (wires : t.wires = s.wires) (l : LegId) :
    t.slotValues l = s.slotValues l := by
  simp only [State.slotValues, State.leg, State.wiresOf, legs, wires]

theorem slotValues_judge (s : State) (l : LegId) : s.judge.slotValues l = s.slotValues l := by
  rw [judge_footprint]
  exact slotValues_of_legs_wires rfl rfl l

/-- A judging over the values of `u`, where the frame engine of `s` still stands (R141, R143). -/
theorem frameJudged_judge {s u : State} (h : u.frame = s.frame) : s.frameJudged u.judge := by
  have started (x : FrameEngine) : u.judge.startedFrom x = u.startedFrom x :=
    startedFrom_congr (slotValues_judge u) x
  have marked : u.markChanges.frame = { s.frame with
      changePending := s.frame.changePending || u.differs s.frame.plan.slots
      shortPending := s.frame.shortPending || u.differs .short } := by
    rw [← h]
    rfl
  have sent : u.judge.frame.lastSent = u.frame.lastSent := by
    simp only [State.judge, State.startIfDue]
    split <;> rfl
  have differs := differs_congr (slotValues_judge u) sent
  refine ⟨s.frame.changePending || u.differs s.frame.plan.slots, s.frame.shortPending || u.differs .short, ?_,
    by simp [differs], by simp [differs]⟩
  dsimp only
  rw [started]
  by_cases idle : s.frame.state = .idle
  · have judged := State.startIfDue_idle (s := u.markChanges) (by rw [marked]; exact idle)
    rw [State.judge, judged, marked]
    simp only [idle, true_and]
    split
    · rw [State.startFrame_eq, marked]
      simp only [idle]
      rfl
    · rw [marked, ← idle]
  · have judged := State.startIfDue_other (s := u.markChanges) (by rw [marked]; exact idle)
    rw [State.judge, judged, marked, if_neg (fun due => idle due.1)]

theorem frameJudged_congr {s t u : State} (h : s.frameJudged u) (frame : t.frame = u.frame)
    (values : ∀ l : LegId, t.slotValues l = u.slotValues l) : s.frameJudged t := by
  have sent : t.frame.lastSent = u.frame.lastSent := by rw [frame]
  obtain ⟨cp, sp, judged, change, short⟩ := h
  refine ⟨cp, sp, ?_, ?_, ?_⟩
  · rw [frame, judged, startedFrom_congr values]
  · rw [change, differs_congr values sent]
  · rw [short, differs_congr values sent]

theorem wiresOf_judge (s : State) (l : LegId) : s.judge.wiresOf l = s.wiresOf l := by
  rw [judge_footprint]
  rfl

/-! ### CLEAR ALERT and READ SIDEBAND -/

theorem setLatches_footprint (ls : List LegId) (b : Bool) (s : State) :
    ls.foldl (fun s l => s.setLatch l b) s = { s with wires := (ls.foldl (fun s l => s.setLatch l b) s).wires } :=
  foldl_rel (R := fun a b => b = { a with wires := b.wires }) (fun _ => rfl) (fun a b c h1 h2 => by rw [h2, h1])
    (fun _ _ => rfl) ls s

theorem wiresOf_setLatch (s : State) (k l : LegId) (b : Bool) :
    (s.setLatch k b).wiresOf l = if l = k then { s.wiresOf l with alertLatch := b } else s.wiresOf l := by
  split
  · rename_i h
    rw [h]
    exact State.wiresOf_modWires s k _
  · rename_i h
    exact State.wiresOf_modWires_other s k l _ h

theorem wiresOf_setLatches (ls : List LegId) (s : State) (l : LegId) :
    (ls.foldl (fun s l => s.setLatch l false) s).wiresOf l =
      if l ∈ ls then { s.wiresOf l with alertLatch := false } else s.wiresOf l := by
  induction ls generalizing s with
  | nil => simp
  | cons k ks ih =>
    rw [List.foldl_cons, ih, wiresOf_setLatch]
    by_cases same : l = k <;> by_cases later : l ∈ ks <;> simp [same, later]

theorem clearAlerts_footprint (s : State) (ls : BitVec 4) :
    s.clearAlerts ls = { s with wires := (s.clearAlerts ls).wires, frame := (s.clearAlerts ls).frame } := by
  unfold State.clearAlerts
  split
  · rfl
  · rw [judge_footprint, setLatches_footprint]

theorem wiresOf_clearAlerts (s : State) (ls : BitVec 4) (l : LegId) : (s.clearAlerts ls).wiresOf l =
    { s.wiresOf l with alertLatch := (s.wiresOf l).alertLatch && !setHas ls l.val } := by
  unfold State.clearAlerts
  split
  · rename_i none
    simp [none, setHas]
  · rw [wiresOf_judge, wiresOf_setLatches]
    cases named : setHas ls l.val <;> simp [named, mem_allLegs]

theorem frameJudged_clearAlerts {s : State} {ls : BitVec 4} (h : ls ≠ 0#4) : s.frameJudged (s.clearAlerts ls) := by
  rw [State.clearAlerts, if_neg h]
  exact frameJudged_judge (by rw [setLatches_footprint])

/-- The block acts on the port that the write has left; what it does to the rest is the same. -/
theorem clearAlerts_acceptWrite (s : State) (bytes : List Byte) (ls : BitVec 4) :
    (s.acceptWrite bytes).clearAlerts ls =
      ({ s with wires := ((s.acceptWrite bytes).clearAlerts ls).wires
                frame := ((s.acceptWrite bytes).clearAlerts ls).frame } : State).acceptWrite bytes := by
  rw [clearAlerts_footprint]
  rfl

/-- Settles O41: what READ SIDEBAND looks at, and the latches of CLEAR ALERT cleared together and then judged. -/
theorem readSidebandAndClearAlert : Obligations.ReadSidebandAndClearAlert := by
  unfold Obligations.ReadSidebandAndClearAlert
  refine fun s tag hport => ⟨fun pulls => ?low, fun released => ?free, fun ls => ?clear, fun b hb => ?reserved⟩
  case low =>
    have acted (bytes : List Byte) : readSidebandAct [] (s.acceptWrite bytes) =
        .ok (s.acceptWrite bytes) (s.sidebandBytes false) := by
      have pulls' : (s.acceptWrite bytes).pullsSbl = true := pulls
      simp only [readSidebandAct, withEmpty, if_true, State.lookAtSbl, pulls']
      rfl
    exact takeRequest_taken (act := readSidebandAct []) hport (Nat.zero_le _) (acted _) (.inl rfl)
  case free =>
    have acted (bytes : List Byte) : readSidebandAct [] (s.acceptWrite bytes) =
        .ok ({ s with freeCount := s.freeCount + 1 }.acceptWrite bytes)
          (s.sidebandBytes (!Config.switchPullsSbl s.freeCount)) := by
      have released' : (s.acceptWrite bytes).pullsSbl = false := released
      simp only [readSidebandAct, withEmpty, if_true, State.lookAtSbl, released', Bool.false_eq_true, if_false]
      rfl
    exact takeRequest_taken (act := readSidebandAct []) hport (Nat.zero_le _) (acted _) (.inl rfl)
  case clear =>
    let u := (s.acceptWrite (requestFrame tag 0x5B#8 [ls.setWidth 8])).clearAlerts ls
    refine ⟨{ s with wires := u.wires, frame := u.frame }, ?_, rfl, fun l => ?_, ?_⟩
    · refine takeRequest_taken (act := clearAlertAct _) hport (by decide : 1 ≤ 128)
        ((withOperand_some _ (ofLength 1 [ls.setWidth 8] (setAt 4 _ 0)) _ ls (setAt_byte (by decide) ls [])).trans ?_) (.inl rfl)
      exact congrArg (Answer.plain · .done) (clearAlerts_acceptWrite s _ ls)
    · exact wiresOf_clearAlerts (s.acceptWrite (requestFrame tag 0x5B#8 [ls.setWidth 8])) ls l
    · split
      · rename_i none
        have same : u = s.acceptWrite (requestFrame tag 0x5B#8 [ls.setWidth 8]) := if_pos none
        rw [same]
        rfl
      · rename_i some_
        have judged := frameJudged_clearAlerts (s := s.acceptWrite (requestFrame tag 0x5B#8 [ls.setWidth 8])) some_
        refine frameJudged_congr (s := s) (u := u) judged rfl (slotValues_of_legs_wires ?_ rfl)
        have kept := congrArg State.legs (clearAlerts_footprint (s.acceptWrite (requestFrame tag 0x5B#8 [ls.setWidth 8])) ls)
        exact kept.symm
  case reserved => exact exec_unfit hport rfl (by decide : 1 ≤ 128) (.inr (Nat.not_lt.mpr hb))

/-! ### Filtered inputs -/

theorem wiresBecame_judge {s u : State} {l : LegId} {w : LegWires} (h : u = { s with wires := s.wires.set l w }) :
    s.wiresBecame u.judge l w := by
  have frame : u.frame = s.frame := by rw [h]
  refine ⟨?_, frameJudged_judge frame⟩
  have footprint := judge_footprint u
  generalize u.judge = t at footprint ⊢
  rw [footprint, h]

theorem modWires_eq (s : State) (l : LegId) (g : LegWires → LegWires) :
    s.modWires l g = { s with wires := s.wires.set l (g (s.wiresOf l)) } := rfl

theorem modWires_modWires (s : State) (l : LegId) (g h : LegWires → LegWires) :
    (s.modWires l g).modWires l h = { s with wires := s.wires.set l (h (g (s.wiresOf l))) } := by
  have value : (s.modWires l g).wiresOf l = g (s.wiresOf l) := State.wiresOf_modWires s l g
  rw [modWires_eq (s.modWires l g), value]
  simp [State.modWires, modAt]

theorem settleFilter_eq (s : State) (l : LegId) (i : WireId) (level : Bool) :
    s.settleFilter l i level = { s with wires := s.wires.set l ((s.wiresOf l).modFilter i (·.settle level)) } :=
  modWires_eq s l _

/-- A rise of filtered ALERT with the latch that follows it (R137). -/
theorem latchAlert_settled (s : State) (l : LegId) : (s.settleFilter l .alert true).latchAlert l =
    { s with wires := s.wires.set l { s.wiresOf l with
        alert := ⟨true, true, (s.wiresOf l).alert.stable⟩
        alertLatch :=
          if (s.leg l).state = .off ∨ (s.leg l).state = .absent then (s.wiresOf l).alertLatch else true } } := by
  have state : ((s.settleFilter l .alert true).leg l).state = (s.leg l).state := rfl
  unfold State.latchAlert
  cases hst : (s.leg l).state
  case off | absent =>
    rw [state, hst]
    exact settleFilter_eq s l .alert true
  case held | training | active | degraded | test | failed =>
    rw [state, hst]
    exact modWires_modWires s l _ _

theorem wiresBecame_atRest {s t : State} {l : LegId} {w : LegWires} (h : s.wiresBecame t l w) (rest : s.tableAtRest) :
    t.tableAtRest := by
  rw [h.1]
  exact rest

theorem wiresBecame_noSlotOn {s t : State} {l : LegId} {w : LegWires} {src : Source} (h : s.wiresBecame t l w)
    (none : s.noSlotOn l src) : t.noSlotOn l src := by
  rw [h.1]
  exact none

/-- A judged change of wires that no slot of the leg is on leaves the table nothing to do. -/
theorem tableTake_wiresBecame {s t : State} {l : LegId} {w : LegWires} {src : Source} {e : Option Edge}
    (h : s.wiresBecame t l w) (rest : s.tableAtRest) (none : s.noSlotOn l src) : t.tableTake ⟨l, src, e⟩ = t :=
  tableTake_eq (wiresBecame_atRest h rest) (wiresBecame_noSlotOn h none)

/-- Settles O42: one wire, filter or latch of the leg is set, and where a filtered level moves the judging follows. -/
theorem filteredInputsAndTheAlertLatch : Obligations.FilteredInputsAndTheAlertLatch := by
  unfold Obligations.FilteredInputsAndTheAlertLatch
  refine fun s l rest => ⟨fun low => ⟨rfl, rfl, rfl⟩, fun none off => ?rise, fun none on => ?fall, fun none => ?wake⟩
  case rise =>
    have became := wiresBecame_judge (latchAlert_settled s l)
    refine ⟨_, ?_, became⟩
    show execAlertRise l s = _
    simp only [execAlertRise, off, Bool.false_eq_true, if_false, tableTake_wiresBecame became rest none]
  case fall =>
    have became := wiresBecame_judge (settleFilter_eq s l .alert false)
    refine ⟨_, ?_, became⟩
    show execAlertFall l s = _
    simp only [execAlertFall, on, if_true, tableTake_wiresBecame became rest none]
  case wake =>
    have became := wiresBecame_judge (settleFilter_eq s l .wake (!(s.wiresOf l).wake.asserted))
    refine ⟨_, ?_, became⟩
    show execWakeChange l s = _
    simp only [execWakeChange, tableTake_wiresBecame became rest none]

end Sys2Proof.Machine

/-! What the error unit makes of a report, the table at rest after deliveries, the frames on SBL, and the build store's
operations. -/

namespace Sys2Proof.Machine

/-! ### The taking of a report (R123 to R128) -/

/-- The state once a report of a kind that is on has been logged, with its notice (R124, R125). -/
def State.noted (s : State) (r : Report) : State :=
  let x := r.toRecord (s.errors.settings[kindIndex r.kind]).severity s.clock.epoch
  (s.logReport x).errorNotice s x

theorem takeReport_off {s : State} {r : Report} (h : (s.errors.settings[kindIndex r.kind]).enable = false) :
    s.takeReport r = (s, none) := by
  simp only [State.takeReport, h, Bool.not_false, if_true]

theorem errors_noted (s : State) (r : Report) : (s.noted r).errors =
    s.errors.setLog (s.errors.settings[kindIndex r.kind]).severity
      ((s.errors.log (s.errors.settings[kindIndex r.kind]).severity).add
        (r.toRecord (s.errors.settings[kindIndex r.kind]).severity s.clock.epoch)) := by
  rw [State.noted, State.errors_errorNotice]
  rfl

theorem tally_setLog (e : ErrorUnit) (sev : Severity) (g : Log) : (e.setLog sev g).tallies = e.tallies := by
  cases sev <;> rfl

theorem settings_setLog (e : ErrorUnit) (sev : Severity) (g : Log) : (e.setLog sev g).settings = e.settings := by
  cases sev <;> rfl

theorem log_setLog (e : ErrorUnit) (sev other : Severity) (g : Log) :
    (e.setLog sev g).log other = if other = sev then g else e.log other := by
  cases sev <;> cases other <;> rfl

theorem tally_noted (s : State) (r : Report) (l : LegId) : (s.noted r).tally l = s.tally l := by
  simp only [State.tally, errors_noted, tally_setLog]

theorem notices_noted (s : State) (r : Report) : (s.noted r).notices =
    if (s.errors.log (s.errors.settings[kindIndex r.kind]).severity).first = none
        ∧ (s.errors.settings[kindIndex r.kind]).severity ≠ .minor
    then s.notices.take (.error s.clock.stamp (s.errors.settings[kindIndex r.kind]).severity
      (r.toRecord (s.errors.settings[kindIndex r.kind]).severity s.clock.epoch))
    else s.notices := by
  simp only [State.noted, State.errorNotice, Report.toRecord, Option.isNone_iff_eq_none, Bool.and_eq_true, bne_iff_ne,
    ne_eq]
  split <;> rfl

/-- Whether a report is one that its leg's tally counts (R127). -/
def State.counts (s : State) (r : Report) (l : LegId) : Prop :=
  r.leg = some l ∧ setHas (s.tally l).kinds (kindIndex r.kind).val = true

theorem takeReport_counted {s : State} {r : Report} {l : LegId}
    (on : (s.errors.settings[kindIndex r.kind]).enable = true) (h : s.counts r l) :
    s.takeReport r = ((s.noted r).modTally l Tally.increment, if (s.tally l).reaches then some l else none) := by
  obtain ⟨leg, kind⟩ := h
  rw [← tally_noted s r l] at kind ⊢
  unfold State.noted at kind ⊢
  simp only [State.takeReport, on, Bool.not_true, Bool.false_eq_true, if_false, leg, kind, if_true]

theorem takeReport_uncounted {s : State} {r : Report} (on : (s.errors.settings[kindIndex r.kind]).enable = true)
    (h : ∀ l : LegId, ¬s.counts r l) : s.takeReport r = (s.noted r, none) := by
  cases leg : r.leg with
  | none =>
    simp only [State.takeReport, on, leg, Bool.not_true, Bool.false_eq_true, if_false]
    rfl
  | some l =>
    have kind : ¬setHas (s.tally l).kinds (kindIndex r.kind).val = true := fun kind => h l ⟨leg, kind⟩
    rw [← tally_noted s r l] at kind
    unfold State.noted at kind ⊢
    simp only [State.takeReport, on, Bool.not_true, Bool.false_eq_true, if_false, leg, kind]

theorem Tally.increment_eq (t : Tally) : t.increment =
    if t.value < 255 then { t with value := t.value + 1 } else { t with overflow := true } := rfl

theorem Tally.reaches_iff (t : Tally) : t.reaches = true ↔ t.value < 255 ∧ t.value + 1 = t.threshold := by
  simp [Tally.reaches]

/-- The log a report of a kind that is on leaves (R124). -/
theorem log_noted (s : State) (r : Report) (sev : Severity) : (s.noted r).errors.log sev =
    if sev = (s.errors.settings[kindIndex r.kind]).severity
    then (s.errors.log sev).add (r.toRecord sev s.clock.epoch) else s.errors.log sev := by
  rw [errors_noted, log_setLog]
  split
  · rename_i h
    rw [h]
  · rfl

theorem Log.add_eq (g : Log) (x : ErrorRecord) : g.add x =
    if g.first = none then ⟨some x, g.next, g.further⟩ else ⟨g.first, some x, min 255 (g.further + 1)⟩ := by
  obtain ⟨first, next, further⟩ := g
  cases first <;> rfl

/-- Settles O36: the report is logged and its notice raised, and the tally of its leg counts it where it counts the kind. -/
theorem reportsAreLoggedAndTallied : Obligations.ReportsAreLoggedAndTallied := by
  unfold Obligations.ReportsAreLoggedAndTallied
  refine fun s r => ⟨takeReport_off, fun on => ?_⟩
  have log (sev : Severity) := (log_noted s r sev).trans (by rw [Log.add_eq])
  by_cases counted : ∃ l : LegId, s.counts r l
  · obtain ⟨l, count⟩ := counted
    have taken := takeReport_counted on count
    obtain ⟨leg, kind⟩ := count
    have footprint := takeReport_footprint s r
    have others : ∀ k : LegId, k ≠ l → ¬(r.leg = some k ∧ setHas (s.tally k).kinds (kindIndex r.kind).val = true) := by
      rintro k hk ⟨hleg, -⟩
      exact hk (Option.some.inj (hleg.symm.trans leg))
    refine ⟨fun sev => ?log, ?notices, ?settings, fun k => ?tally, fun k => ?reached, ?kept⟩
    case log =>
      rw [taken, State.log_modTally]
      exact log sev
    case notices =>
      rw [taken]
      exact notices_noted s r
    case settings =>
      rw [taken]
      simp only [State.errors_modTally, errors_noted, settings_setLog]
    case tally =>
      rw [taken]
      by_cases same : k = l
      · subst same
        rw [State.tally_modTally, tally_noted, Tally.increment_eq]
        exact (if_pos ⟨leg, kind⟩).symm
      · rw [State.tally_modTally_other _ _ _ _ same, tally_noted]
        exact (if_neg (others k same)).symm
    case reached =>
      rw [taken]
      by_cases same : k = l
      · subst same
        simp [leg, kind, Tally.reaches_iff]
      · have none : ¬(if (s.tally l).reaches = true then some l else none) = some k := by
          split
          · exact fun h => same (Option.some.inj h).symm
          · simp
        exact iff_of_false none fun h => others k same ⟨h.1, h.2.1⟩
    case kept => rw [footprint]; exact ⟨rfl, rfl, rfl, rfl, rfl⟩
  · have uncounted : ∀ l : LegId, ¬s.counts r l := fun l h => counted ⟨l, h⟩
    have taken := takeReport_uncounted on uncounted
    have footprint := takeReport_footprint s r
    refine ⟨fun sev => ?log', ?notices', ?settings', fun k => ?tally', fun k => ?reached', ?kept'⟩
    case log' =>
      rw [taken]
      exact log sev
    case notices' =>
      rw [taken]
      exact notices_noted s r
    case settings' =>
      rw [taken]
      simp only [errors_noted, settings_setLog]
    case tally' =>
      rw [taken]
      exact (tally_noted s r k).trans (if_neg (uncounted k)).symm
    case reached' =>
      rw [taken]
      exact iff_of_false (by simp) fun h => uncounted k ⟨h.1, h.2.1⟩
    case kept' => rw [footprint]; exact ⟨rfl, rfl, rfl, rfl, rfl⟩

/-! ### The table at rest after deliveries -/

theorem tableAtRest_legSource {s : State} (h : s.tableAtRest) (l : Option LegId) (src : Source) :
    (s.legSource l src).tableAtRest := by
  cases l with
  | none => exact h
  | some l => exact finish_atRest _

theorem tableAtRest_monitorReport (s : State) (r : Report) (take : LegId → State → State) :
    (s.monitorReport r take).tableAtRest := by
  unfold State.monitorReport
  split <;> exact finish_atRest _

/-- Whatever a report does at its receivers, the table and the error unit are at rest after it. -/
theorem tableAtRest_handOver (s : State) (r : Report) : (s.handOver r).tableAtRest := by
  unfold State.handOver
  split
  · exact tableAtRest_legSource (tableAtRest_monitorReport _ _ _) _ _
  · exact tableAtRest_monitorReport _ _ _
  · exact tableAtRest_legSource (finish_atRest _) _ _
  · exact finish_atRest _

theorem tableAtRest_handUntil {s : State} (stop : Report → Bool) (n : Nat) (h : s.tableAtRest) :
    (s.handUntil stop n).tableAtRest := by
  induction n generalizing s with
  | zero => exact h
  | succ n ih =>
    unfold State.handUntil
    split
    · split
      · exact h
      · exact ih (tableAtRest_handOver _ _)
    · exact h

theorem tableAtRest_handFlight {s : State} (h : s.tableAtRest) : s.handFlight.tableAtRest :=
  tableAtRest_handUntil _ _ h

/-- A report at part scope, which no leg's tally counts, is taken once what is in flight has been delivered (R126). -/
theorem tell_part {s : State} {r : Report} (h : s.tableAtRest) (part : r.leg = none) :
    s.tell r = (s.handFlight.takeReport r).1 :=
  tell_eq (tableAtRest_handFlight h) fun l hl => by rw [part] at hl; cases hl

/-! ### Frames on SBL -/

theorem FrameEngine.endFrame_eq_ended (x : FrameEngine) : x.endFrame = x.ended := by
  unfold FrameEngine.endFrame FrameEngine.ended FrameEngine.sample
  cases x.enableRequest <;> cases x.haltRequest <;> rfl

theorem getElem_sentValues (x : Snapshot) (last : Vector (BitVec 5) 4) (l : LegId) : (sentValues x last)[l] =
    (x.values[l] &&& planItems x.plan.slots) ||| (last[l] &&& ~~~planItems x.plan.slots) := by
  fin_cases l <;> rfl

theorem getLsbD_planItems (p : SlotPlan) {n : Nat} (hn : n < 5) :
    (planItems p).getLsbD n = decide (n < if p = .short then 3 else 5) := by
  cases p <;> interval_cases n <;> rfl

/-- What a frame's good end has sent of a leg's items, and what it leaves (R141). -/
theorem getLsbD_sentValues (x : Snapshot) (last : Vector (BitVec 5) 4) (l : LegId) {n : Nat} (hn : n < 5) :
    ((sentValues x last)[l]).getLsbD n =
      if n < (if x.plan.slots = .short then 3 else 5) then (x.values[l]).getLsbD n else (last[l]).getLsbD n := by
  rw [getElem_sentValues, BitVec.getLsbD_or, BitVec.getLsbD_and, BitVec.getLsbD_and, BitVec.getLsbD_not,
    getLsbD_planItems _ hn]
  by_cases carried : n < (if x.plan.slots = .short then 3 else 5)
  · simp [carried]
  · simp [carried, hn]

theorem startRequest_idle {s : State} (h : s.frame.state = .idle) (quiet : s.frame.mode = .quiet) :
    exec .startRequest s = .next { s with frame :=
      if s.frame.gap = 0 then s.startedFrom { s.frame with startWanted := true } else { s.frame with startWanted := true } } := by
  have request : exec .startRequest s =
      .next ((s.modFrame (fun x => { x with startWanted := true })).startIfDue) := by
    show execStartRequest s = _
    simp only [execStartRequest, h, quiet]
  have idle : (s.modFrame (fun x => { x with startWanted := true })).frame.state = .idle := h
  rw [request, State.startIfDue_idle idle]
  by_cases gapOver : s.frame.gap = 0
  · rw [if_pos ⟨gapOver, .inr (.inr rfl)⟩, if_pos gapOver]
    rfl
  · rw [if_neg (fun due => gapOver due.1), if_neg gapOver]
    rfl

theorem startRequest_other {s : State} (h : s.frame.state ≠ .idle ∨ s.frame.mode = .continuous) :
    exec .startRequest s = .next s := by
  show execStartRequest s = _
  unfold execStartRequest
  split
  · rename_i idle quiet
    rcases h with state | mode
    · exact absurd idle state
    · rw [quiet] at mode
      cases mode
  · rfl

theorem frameGoodEnd_eq {s : State} {x : Snapshot} (h : s.frame.state = .sending) (carried : s.frame.snapshot = some x) :
    exec .frameGoodEnd s = .next { s with frame := { s.frame with
      lastSent := sentValues x s.frame.lastSent
      changePending :=
        { s with frame := { s.frame with lastSent := sentValues x s.frame.lastSent } }.differs s.frame.plan.slots
      shortPending :=
        { s with frame := { s.frame with lastSent := sentValues x s.frame.lastSent } }.differs .short }.ended } := by
  show execFrameGoodEnd s = _
  simp only [execFrameGoodEnd, h, carried, State.modFrame, State.judgeGoodEnd, FrameEngine.endFrame_eq_ended]

theorem sidebandCollision_eq {s : State} {x : Snapshot} {n : Nat} (h : s.frame.state = .sending)
    (carried : s.frame.snapshot = some x) (hn : n < slotCount x.plan.slots) (low : x.slot n = false)
    (rest : s.tableAtRest) :
    exec (.sidebandCollision n) s =
      .next ((s.handFlight.takeReport (s.partReport .sidebandCollision none)).1.modFrame FrameEngine.ended) := by
  show execSidebandCollision n s = _
  have ended : FrameEngine.endFrame = FrameEngine.ended := funext FrameEngine.endFrame_eq_ended
  simp only [execSidebandCollision, h, carried, hn, low, and_self, if_true, ended]
  rw [tell_part rest rfl]

/-- Settles O44: the starts by what calls for them, the good end by what the frame carried, and the collision by its report. -/
theorem framesStartEndAndCollide : Obligations.FramesStartEndAndCollide := by
  unfold Obligations.FramesStartEndAndCollide
  refine fun s => ⟨startRequest_idle, startRequest_other, fun idle gapOver calls => ?starts, fun early => ?waits,
    fun x sending carried => ⟨_, _, _, frameGoodEnd_eq sending carried, fun l n hn => getLsbD_sentValues x _ l hn, rfl, rfl⟩,
    fun x n sending carried hn low rest => ⟨sidebandCollision_eq sending carried hn low rest, fun empty => ?frame⟩⟩
  case starts =>
    have started : s.startIfDue = s.startFrame := by rw [State.startIfDue_idle idle, if_pos ⟨gapOver, calls⟩]
    exact congrArg Host.Outcome.next started
  case waits =>
    have same : s.startIfDue = s := by
      by_cases idle : s.frame.state = .idle
      · rw [State.startIfDue_idle idle, if_neg]
        rintro ⟨gapOver, calls⟩
        rcases early with h | h | ⟨mode, change, wanted⟩
        · exact h idle
        · omega
        · simp [mode, change, wanted] at calls
      · exact State.startIfDue_other idle
    exact congrArg Host.Outcome.next same
  case frame =>
    rw [handFlight_nil empty, takeReport_footprint]

/-! ### The build store -/

theorem getD_canonicalRecord {p : PageId} {record : List Byte} {k : Nat} (hk : k < record.length) :
    (canonicalRecord p record).getD k 0#8 =
      if p = 0 ∧ 20 ≤ k ∧ k < 35 ∧ k % 2 = 0 ∧ byteAt record (k - 1) = 0xFF then 0#8 else record.getD k 0#8 := by
  unfold canonicalRecord
  by_cases page : p = 0
  · have even : (19 ≤ k ∧ k < 35 ∧ k % 2 = 0 ∧ byteAt record (k - 1) = 0xFF)
        ↔ 20 ≤ k ∧ k < 35 ∧ k % 2 = 0 ∧ byteAt record (k - 1) = 0xFF := by omega
    simp [page, List.getD_eq_getElem?_getD, hk, even]
  · simp [page]

theorem length_canonicalRecord (p : PageId) (record : List Byte) : (canonicalRecord p record).length = record.length := by
  unfold canonicalRecord
  split <;> simp

theorem storeWriteBody_page {p : PageId} {record : List Byte}
    (h : lengthFits 0x6A#8 (byte p.val :: record) = true ∧ recordFits (byte p.val :: record)) :
    storeWriteBody (byte p.val :: record) = some (p, canonicalRecord p record) := by
  have decoded := (isSome_storeWriteBody_page p record).mpr h
  simp only [storeWriteBody, finAt_cons_zero] at decoded ⊢
  split at decoded
  · rename_i fits
    exact if_pos fits
  · cases decoded

theorem storeEraseAct_byte (s : State) (p : PageId) : storeEraseAct [byte p.val] s =
    if s.store.operation ≠ .idle then .plain s .busy
    else if (s.page p).locked then .plain s .locked else .plain (s.setOperation (.erasing p)) .accepted :=
  withOperand_some s _ _ p (pageBody_byte p)

theorem storeLockAct_byte (s : State) (p : PageId) : storeLockAct [byte p.val] s =
    if s.store.operation ≠ .idle then .plain s .busy
    else .plain (s.modPage p (fun x => { x with locked := true })) .done :=
  withOperand_some s _ _ p (pageBody_byte p)

/-- Settles O48: the checks of each request in their order; a record decodes exactly where `recordFits` spells it. -/
theorem storeRequestsAreChecked : Obligations.StoreRequestsAreChecked := by
  unfold Obligations.StoreRequestsAreChecked
  refine fun s tag p hport => ⟨fun busy => ⟨?eraseBusy, ?lockBusy⟩, fun idle => ⟨?erase, ?lock⟩, fun record hl => ?write⟩
  case eraseBusy =>
    exact takeRequest_taken (act := storeEraseAct _) hport (by decide : 1 ≤ 128)
      ((storeEraseAct_byte _ p).trans (if_pos busy)) (.inr rfl)
  case lockBusy =>
    exact takeRequest_taken (act := storeLockAct _) hport (by decide : 1 ≤ 128)
      ((storeLockAct_byte _ p).trans (if_pos busy)) (.inr rfl)
  case erase =>
    have acted (bytes : List Byte) := (storeEraseAct_byte (s.acceptWrite bytes) p).trans (if_neg (not_not.mpr idle))
    split
    · rename_i locked
      exact takeRequest_taken (act := storeEraseAct _) hport (by decide : 1 ≤ 128) ((acted _).trans (if_pos locked)) (.inr rfl)
    · rename_i free
      exact takeRequest_taken (act := storeEraseAct _) hport (by decide : 1 ≤ 128) ((acted _).trans (if_neg free)) (.inr rfl)
  case lock =>
    exact takeRequest_taken (act := storeLockAct _) hport (by decide : 1 ≤ 128)
      ((storeLockAct_byte _ p).trans (if_neg (not_not.mpr idle))) (.inl rfl)
  case write =>
    intro body good
    have length : body.length ≤ 128 := Nat.succ_le_succ hl
    refine ⟨fun bad => ?refused, fun fits => ⟨canonicalRecord p record, length_canonicalRecord p record,
      fun k hk => getD_canonicalRecord hk, ?checked⟩⟩
    case refused =>
      refine exec_unfit hport rfl length ?_
      cases h : lengthFits 0x6A#8 body
      · exact .inl rfl
      · exact .inr fun record => bad ⟨h, record⟩
    case checked =>
      have acted (bytes : List Byte) : storeWriteAct body (s.acceptWrite bytes) =
          if s.store.operation ≠ .idle then .plain (s.acceptWrite bytes) .busy
          else if (s.page p).locked then .plain (s.acceptWrite bytes) .locked
          else if (s.page p).content ≠ .blank then .plain (s.acceptWrite bytes) .notBlank
          else .plain ((s.acceptWrite bytes).setOperation (.writing p (canonicalRecord p record))) .accepted :=
        withOperand_some _ _ _ _ (storeWriteBody_page fits)
      split
      · rename_i busy
        exact takeRequest_taken (act := storeWriteAct body) hport length ((acted _).trans (if_pos busy)) (.inr rfl)
      · rename_i idle
        have acted' (bytes : List Byte) := (acted bytes).trans (if_neg idle)
        split
        · rename_i locked
          exact takeRequest_taken (act := storeWriteAct body) hport length ((acted' _).trans (if_pos locked)) (.inr rfl)
        · rename_i free
          have acted'' (bytes : List Byte) := (acted' bytes).trans (if_neg free)
          split
          · rename_i full
            exact takeRequest_taken (act := storeWriteAct body) hport length ((acted'' _).trans (if_pos full)) (.inr rfl)
          · rename_i blank
            exact takeRequest_taken (act := storeWriteAct body) hport length ((acted'' _).trans (if_neg blank)) (.inr rfl)

theorem endOperation_good (s : State) (p : PageId) (act : StoreAct) (content : PageContent) :
    s.endOperation p act content true = { s with
      notices := s.notices.take (.storeDone s.clock.stamp p act true)
      store := ⟨s.store.pages.set p ⟨content, (s.page p).locked⟩, .idle⟩ } := rfl

/-- A page that does not verify: what is in flight is delivered, and then STORE FAULT is taken (R162, R126). -/
theorem endOperation_bad {s : State} (rest : s.tableAtRest) (p : PageId) (act : StoreAct) (content : PageContent) :
    s.endOperation p act content false =
      let paged : State := { s with
        store := { s.store with pages := s.store.pages.set p ⟨.torn, (s.page p).locked⟩ } }
      let told := (paged.handFlight.takeReport ⟨.storeFault, none, none, none, none, none, s.clock.stamp, some p.val⟩).1
      { told with
        notices := told.notices.take (.storeDone s.clock.stamp p act false)
        store := ⟨s.store.pages.set p ⟨.torn, (s.page p).locked⟩, .idle⟩ } := by
  let paged : State := { s with store := { s.store with pages := s.store.pages.set p ⟨.torn, (s.page p).locked⟩ } }
  let fault : Report := ⟨.storeFault, none, none, none, none, none, s.clock.stamp, some p.val⟩
  have told : paged.tell fault = (paged.handFlight.takeReport fault).1 := tell_part rest rfl
  have ended : s.endOperation p act content false =
      ((paged.tell fault).raiseNotice (.storeDone (paged.tell fault).stamp p act false)).setOperation .idle := rfl
  obtain ⟨-, -, store, -, -, -, clock, -⟩ := groundKept_handFlight paged
  have footprint := takeReport_footprint paged.handFlight fault
  have stamp : (paged.handFlight.takeReport fault).1.clock.stamp = s.clock.stamp := by
    rw [footprint]
    exact congrArg Clock.stamp clock
  have pages : (paged.handFlight.takeReport fault).1.store = paged.store := by rw [footprint]; exact store
  rw [ended, told]
  simp only [State.raiseNotice, State.setOperation, State.stamp, stamp, pages]
  rfl

/-- Settles O49: the page that verifies, and the one that does not. -/
theorem storeOperationsComplete : Obligations.StoreOperationsComplete := by
  unfold Obligations.StoreOperationsComplete
  refine fun s p record ok rest => ⟨fun erasing => ?erase, fun writing => ?write, fun idle => ?idle⟩
  case erase =>
    have ended : exec (.storeOperationComplete ok) s = .next (s.endOperation p .erase .blank ok) := by
      show execStoreOperationComplete ok s = _
      simp only [execStoreOperationComplete, erasing]
    rw [ended]
    cases ok
    · rw [endOperation_bad rest]
      rfl
    · rw [endOperation_good]
      rfl
  case write =>
    have ended : exec (.storeOperationComplete ok) s = .next (s.endOperation p .write (.written record) ok) := by
      show execStoreOperationComplete ok s = _
      simp only [execStoreOperationComplete, writing]
    rw [ended]
    cases ok
    · rw [endOperation_bad rest]
      rfl
    · rw [endOperation_good]
      rfl
  case idle =>
    show execStoreOperationComplete ok s = _
    simp only [execStoreOperationComplete, idle]

end Sys2Proof.Machine

/-! Words outside an exchange and what the face circuits send, and the bus: whole transactions, replies and reads. -/

namespace Sys2Proof.Machine

/-! ### Words that are discarded (R48, R179) -/

theorem announceOf_bad {x : RawWord} (h : x.check ≠ crc8 [1#8, x.b1, x.b2] ∨ 128 ≤ x.b1.toNat ∨ x.b1.toNat / 4 % 4 = 3
    ∨ 8 ≤ x.b2.toNat) : announceOf x = none := by
  refine if_neg fun good => ?_
  simp only [wordChecks, Bool.and_eq_true, beq_iff_eq, decide_eq_true_eq] at good
  obtain ⟨⟨⟨check, top⟩, code⟩, attempt⟩ := good
  rcases h with h | h | h | h
  · exact h check
  all_goals omega

theorem adjustOf_bad {x : RawWord} (h : x.check ≠ crc8 [2#8, x.b1, x.b2] ∨ 2 ≤ x.b1.toNat ∨ 2 ≤ x.b2.toNat) :
    adjustOf x = none := by
  refine if_neg fun good => ?_
  simp only [wordChecks, Bool.and_eq_true, beq_iff_eq, decide_eq_true_eq] at good
  obtain ⟨⟨check, tap⟩, direction⟩ := good
  rcases h with h | h | h
  · exact h check
  all_goals omega

theorem isReadyWord_bad {x : RawWord} (h : x.check ≠ crc8 [4#8, x.b1, x.b2] ∨ x.b1.toNat ≠ 0 ∨ x.b2.toNat ≠ 0) :
    isReadyWord x = false := by
  refine Bool.eq_false_iff.mpr fun good => ?_
  simp only [isReadyWord, wordChecks, Bool.and_eq_true, beq_iff_eq] at good
  obtain ⟨⟨check, first⟩, second⟩ := good
  rcases h with h | h | h
  · exact h check
  · exact h (by rw [first]; rfl)
  · exact h (by rw [second]; rfl)

theorem abortOf_bad {x : RawWord} (h : x.check ≠ crc8 [5#8, x.b1, x.b2] ∨ 2 ≤ x.b1.toNat ∨ x.b2.toNat ≠ 0) :
    abortOf x = none := by
  refine if_neg fun good => ?_
  simp only [wordChecks, Bool.and_eq_true, beq_iff_eq, decide_eq_true_eq] at good
  obtain ⟨⟨check, reason⟩, second⟩ := good
  rcases h with h | h | h
  · exact h check
  · omega
  · exact h (by rw [second]; rfl)

theorem exchange_none {s : State} {f : FaceId} (h : s.path (facePath f) ≠ .training) : s.exchange f = none := by
  unfold State.exchange
  split
  · rename_i training _
    exact absurd training h
  · rfl

section
variable {s : State} {f : FaceId} {x : RawWord}

theorem partnerAnnounce_discarded (h : announceOf x = none ∨ s.exchange f = none ∨ (s.face f).status = .idle) :
    exec (.partnerAnnounce f x) s = .next s := by
  show execPartnerAnnounce f x s = _
  unfold execPartnerAnnounce
  split
  · rename_i word inside
    rcases h with h | h | h
    · rw [h] at word; cases word
    · rw [h] at inside; cases inside
    · rw [if_pos h]
  · rfl

theorem partnerAdjust_discarded (h : adjustOf x = none ∨ s.exchange f = none ∨ (s.face f).status = .idle) :
    exec (.partnerAdjust f x) s = .next s := by
  show execPartnerAdjust f x s = _
  unfold execPartnerAdjust
  split
  · rename_i word inside
    rcases h with h | h | h
    · rw [h] at word; cases word
    · rw [h] at inside; cases inside
    · rw [if_pos h]
  · rfl

theorem partnerReady_discarded (h : isReadyWord x = false ∨ s.exchange f = none ∨ (s.face f).status = .idle) :
    exec (.partnerReady f x) s = .next s := by
  show execPartnerReady f x s = _
  unfold execPartnerReady
  split
  · rename_i word inside
    rcases h with h | h | h
    · rw [h] at word; cases word
    · rw [h] at inside; cases inside
    · rw [if_pos h]
  · rfl

theorem partnerAbort_discarded (h : abortOf x = none ∨ s.exchange f = none) : exec (.partnerAbort f x) s = .next s := by
  show execPartnerAbort f x s = _
  unfold execPartnerAbort
  split
  · rename_i word inside
    rcases h with h | h
    · rw [h] at word; cases word
    · rw [h] at inside; cases inside
  · rfl

end

/-! ### The face circuits -/

section
variable {s : State} {f : FaceId}

theorem circuit_quiet (h : s.path (facePath f) ∈ [PathState.unmapped, .parked, .benched]) :
    s.transmits f = .quiet ∧ s.powered f = false ∧ s.circuitSet f = none := by
  have quiet : s.powered f = false := by
    unfold State.powered
    split <;> simp_all
  refine ⟨?_, quiet, by rw [State.circuitSet, quiet]; rfl⟩
  unfold State.transmits
  split <;> simp_all

theorem circuit_powered (h : s.path (facePath f) ∈ [PathState.training, .passing, .testing]) :
    s.powered f = true ∧ s.circuitSet f = some (s.face f).active := by
  have powered : s.powered f = true := by
    unfold State.powered
    split <;> simp_all
  exact ⟨powered, by rw [State.circuitSet, powered]; rfl⟩

theorem transmits_training (h : s.path (facePath f) = .training) : s.transmits f =
    match (s.face f).status with
    | .idle => .training (some .r25) false
    | .announced => .training (some .r25) true
    | .tuning | .ready => .training (s.faceRate f) true := by
  unfold State.transmits
  rw [h] <;> rfl

theorem transmits_traffic (h : s.path (facePath f) = .passing ∨ (s.path (facePath f) = .testing ∧ s.generators[f] = none)) :
    s.transmits f = .traffic (otherFace f) (s.faceRate f) := by
  unfold State.transmits
  rcases h with h | ⟨h, stopped⟩
  · rw [h]
  · rw [h, stopped]

theorem transmits_pattern {l : LegId} {r : TestRecord} {k : Rate} {v : Stages} (h : s.path (facePath f) = .testing)
    (runs : s.generators[f] = some v) (leg : s.faceLeg f = some l) (test : s.test l = some r)
    (rate : s.faceRate f = some k) : s.transmits f =
      .pattern (s.faceRate f) (symbolsOf k (patternBits r.taps (bitsPerMicrosecond k) v)) := by
  unfold State.transmits
  rw [h, runs]
  simp only [State.patternSymbols, leg, Option.bind_some, test, rate]

end

/-- Under a valid map a cable lane is one path's (R5). -/
theorem lane_unique {s : State} (sound : s.mapSound) {p q : PathId} {c : Lane} (hp : s.map[p] = some c)
    (hq : s.map[q] = some c) : p = q := by
  have valid : mapValid s.map s.plan = true := sound
  simp only [mapValid, Bool.and_eq_true, decide_eq_true_eq] at valid
  have distinct := List.pairwise_filterMap.mp valid.1
  have symmetric : Std.Symm (fun p q : PathId => ∀ b : Lane, s.map[p] = some b → ∀ b' : Lane, s.map[q] = some b' → b ≠ b') :=
    ⟨fun _ _ h b hb b' hb' e => h b' hb' b hb e.symm⟩
  by_contra other
  exact distinct.forall (mem_allPaths p) (mem_allPaths q) other c hp c hq rfl

theorem lanePath_of_map {s : State} (sound : s.mapSound) {p : PathId} {c : Lane} (h : s.map[p] = some c) :
    s.lanePath c = some p := by
  cases found : s.lanePath c with
  | none =>
    have none := List.find?_eq_none.mp found p (mem_allPaths p)
    simp [h] at none
  | some q =>
    have hq : s.map[q] = some c := by simpa using List.find?_some found
    rw [lane_unique sound hq h]

theorem lanePath_none {s : State} {c : Lane} (h : ∀ p : PathId, s.map[p] ≠ some c) : s.lanePath c = none :=
  List.find?_eq_none.mpr fun p _ => by simpa using h p

/-- Settles O51: a word with a bad check or a reserved encoding decodes to nothing, one outside an exchange meets none, and
what each circuit sends is read off its path's state. -/
theorem wordsOutsideAnExchangeAreDiscarded : Obligations.WordsOutsideAnExchangeAreDiscarded := by
  unfold Obligations.WordsOutsideAnExchangeAreDiscarded
  refine ⟨fun s f x => ?words, fun s f => ?circuits, fun s c => ⟨fun none => ?free, fun p sound named => ?lane⟩⟩
  case words =>
    refine ⟨fun bad => partnerAnnounce_discarded (.inl (announceOf_bad bad)),
      fun bad => partnerAdjust_discarded (.inl (adjustOf_bad bad)),
      fun bad => partnerReady_discarded (.inl (isReadyWord_bad bad)),
      fun bad => partnerAbort_discarded (.inl (abortOf_bad bad)), fun outside => ?_, fun idle => ?_⟩
    · have none := exchange_none outside
      exact ⟨partnerAnnounce_discarded (.inr (.inl none)), partnerAdjust_discarded (.inr (.inl none)),
        partnerReady_discarded (.inr (.inl none)), partnerAbort_discarded (.inr none)⟩
    · exact ⟨partnerAnnounce_discarded (.inr (.inr idle)), partnerAdjust_discarded (.inr (.inr idle)),
        partnerReady_discarded (.inr (.inr idle))⟩
  case circuits =>
    refine ⟨circuit_quiet, circuit_powered, fun training => ⟨fun status => ?_, fun status => ?_, fun status => ?_⟩,
      transmits_traffic, fun l r k v testing runs leg test rate => transmits_pattern testing runs leg test rate⟩
    · rw [transmits_training training, status]
    · rw [transmits_training training, status]
    · rw [transmits_training training]
      rcases status with h | h <;> rw [h] <;> rfl
  case free => simp only [State.laneTransmits, State.lanePowered, State.laneSet, lanePath_none none, Option.bind_none, and_self]
  case lane =>
    simp only [State.laneTransmits, State.lanePowered, State.laneSet, lanePath_of_map sound named, Option.bind_some, and_self]

/-! ### The bus -/

theorem acknowledges_address {s : State} (h : s.bus = .awaiting) (a : BitVec 7) (read : Bool) :
    s.acknowledges false (.address a read) = true ↔ a = s.port.address := by
  simp [State.acknowledges, h]

theorem acknowledges_inReset (s : State) (e : BusEvent) : s.acknowledges true e = false := by
  unfold State.acknowledges
  split <;> rfl

theorem busSupplies_reading {s : State} {reply : Option (List Byte)} {n : Nat} {more : Bool}
    (h : s.bus = .reading reply n more) :
    s.busSupplies = if more = true then some ((reply.getD []).getD n 0xFF#8) else none := by
  unfold State.busSupplies
  rw [h]
  cases more <;> rfl

theorem onBus_single {s : State} {e : BusEvent} : s.onBus [e] = s.busTake false e := by
  simp only [State.onBus]
  cases s.busTake false e <;> rfl

/-- A whole write, up to its end. -/
theorem onBus_write {s : State} (idle : s.bus = .idle) (bytes : List Byte) (e : BusEvent) :
    s.onBus ([.start, .address s.port.address false] ++ bytes.map BusEvent.written ++ [e]) =
      ({ s with bus := .writing (bytes.take keptBytes) bytes.length } : State).busTake false e := by
  have written := onBus_written (s := { s with bus := .writing [] 0 }) (kept := []) bytes rfl
  rw [onBus_append, onBus_append, onBus_startWrite idle]
  simp only [written, List.nil_append, onBus_single]

theorem busTake_endWrite {s : State} (kept : List Byte) (n : Nat) :
    ({ s with bus := .writing kept (n + 1) } : State).busTake false .stop = exec (writeCommand kept (n + 1)) { s with bus := .idle }
    ∧ ({ s with bus := .writing kept (n + 1) } : State).busTake false .repeatedStart =
        exec (writeCommand kept (n + 1)) { s with bus := .awaiting } :=
  ⟨rfl, rfl⟩

theorem withBus_self {s : State} {b : Bus} (h : s.bus = b) : { s with bus := b } = s := by
  rw [← h]

/-- The end of a write that carried data is the command that its bytes make. -/
theorem onBus_write_stop {s : State} (idle : s.bus = .idle) {bytes : List Byte} (hne : bytes ≠ []) :
    s.onBus ([.start, .address s.port.address false] ++ bytes.map BusEvent.written ++ [.stop]) =
        exec (writeCommand (bytes.take keptBytes) bytes.length) s
    ∧ s.onBus ([.start, .address s.port.address false] ++ bytes.map BusEvent.written ++ [.repeatedStart]) =
        exec (writeCommand (bytes.take keptBytes) bytes.length) { s with bus := .awaiting } := by
  obtain ⟨n, hn⟩ := Nat.exists_eq_succ_of_ne_zero (fun h => hne (List.length_eq_zero_iff.mp h))
  rw [onBus_write idle, onBus_write idle, hn]
  obtain ⟨stop, repeated⟩ := busTake_endWrite (s := s) (bytes.take keptBytes) n
  rw [withBus_self idle] at stop
  exact ⟨stop, repeated⟩

theorem requestFrame_ne_nil (tag code : Byte) (body : List Byte) : requestFrame tag code body ≠ [] := by
  simp [requestFrame]

theorem writeCommand_unknown {tag code : Byte} {body : List Byte} (h : code.toNat ∉ requestCodes) (hl : body.length ≤ 128) :
    writeCommand (requestFrame tag code body) (requestFrame tag code body).length = .unknown tag code body := by
  have hbody : ((requestFrame tag code body).drop 3).dropLast = body := by simp [requestFrame]
  have htag : (requestFrame tag code body).getD 1 0#8 = tag := by simp [requestFrame]
  have hcode : (requestFrame tag code body).getD 2 0#8 = code := by simp [requestFrame]
  simp only [writeCommand, Nat.sub_self, List.replicate_zero, List.append_nil, frameOk_requestFrame hl, if_true]
  rw [hbody, htag, hcode, requestOf_unknown h]
  rfl

/-- The bytes that the checks of R165 see of a write: those kept, and the count of all. -/
def countedBytes (bytes : List Byte) : List Byte :=
  bytes.take keptBytes ++ List.replicate (bytes.length - (bytes.take keptBytes).length) 0#8

theorem length_countedBytes (bytes : List Byte) : (countedBytes bytes).length = bytes.length := by
  simp only [countedBytes, List.length_append, List.length_take, List.length_replicate]
  omega

theorem countedBytes_short {bytes : List Byte} (h : bytes.length ≤ keptBytes) : countedBytes bytes = bytes := by
  simp [countedBytes, List.take_of_length_le h]

theorem take_countedBytes (bytes : List Byte) : (countedBytes bytes).take keptBytes = bytes.take keptBytes := by
  by_cases h : bytes.length ≤ keptBytes
  · rw [countedBytes_short h]
  · rw [countedBytes, List.take_append_of_le_length (by simp; omega), List.take_take, Nat.min_self]

theorem getD_take {bytes : List Byte} {n k : Nat} (h : k < n) : (bytes.take n).getD k 0#8 = bytes.getD k 0#8 := by
  simp [List.getD_eq_getElem?_getD, h]

theorem getD_countedBytes {bytes : List Byte} {k : Nat} (h : k < keptBytes) :
    (countedBytes bytes).getD k 0#8 = bytes.getD k 0#8 := by
  rw [← getD_take h, take_countedBytes, getD_take h]

/-- No more than the first 132 bytes and the count decide whether a frame is faulty. -/
theorem frameOk_countedBytes {bytes : List Byte} (h : frameOk bytes = false) : frameOk (countedBytes bytes) = false := by
  by_cases short : bytes.length ≤ keptBytes
  · rw [countedBytes_short short]
    exact h
  · refine Bool.eq_false_iff.mpr fun good => short ?_
    simp only [frameOk, Bool.and_eq_true, decide_eq_true_eq, length_countedBytes] at good
    obtain ⟨⟨small, length⟩, -⟩ := good
    rw [keptBytes]
    omega

theorem writeCommand_faulty {bytes : List Byte} (h : frameOk bytes = false) :
    writeCommand (bytes.take keptBytes) bytes.length = .frameError (countedBytes bytes) :=
  if_neg (by rw [show bytes.take keptBytes ++ _ = countedBytes bytes from rfl, frameOk_countedBytes h]; exact Bool.false_ne_true)

theorem frameErrorReply_countedBytes (s : State) (bytes : List Byte) :
    s.frameErrorReply (countedBytes bytes) = s.frameErrorReply bytes := by
  have byte0 : byteAt (countedBytes bytes) 0 = byteAt bytes 0 := congrArg BitVec.toNat (getD_countedBytes (by decide))
  have accepted : s.acceptWrite (countedBytes bytes) = s.acceptWrite bytes := by
    rw [State.acceptWrite, State.acceptWrite, take_countedBytes]
  simp only [State.frameErrorReply, byte0, length_countedBytes, accepted, getD_countedBytes (show 1 < keptBytes by decide),
    getD_countedBytes (show 2 < keptBytes by decide)]

theorem exec_frameError_countedBytes {s : State} {bytes : List Byte} (hne : bytes ≠ []) (hbad : frameOk bytes = false) :
    exec (.frameError (countedBytes bytes)) s = exec (.frameError bytes) s := by
  have hne' : countedBytes bytes ≠ [] := fun h => hne (List.length_eq_zero_iff.mp (by
    rw [← length_countedBytes, h]
    rfl))
  rw [exec_frameError_faulty hne hbad, exec_frameError_faulty hne' (frameOk_countedBytes hbad)]
  simp only [frameErrorReply_countedBytes]

theorem onBus_ignored {s : State} (h : s.bus = .ignored) (bytes : List Byte) :
    s.onBus (bytes.map BusEvent.written) = .next s := by
  induction bytes with
  | nil => rfl
  | cons b bs ih =>
    have ignored : s.busTake false (.written b) = .next s := by simp [State.busTake, h]
    simp only [List.map_cons, State.onBus, ignored]
    exact ih

/-- A transaction to another address changes nothing (R164). -/
theorem onBus_other {s : State} (idle : s.bus = .idle) {a : BitVec 7} (h : a ≠ s.port.address) (read : Bool)
    (bytes : List Byte) :
    s.onBus ([.start, .address a read] ++ bytes.map BusEvent.written ++ [.stop]) = .next s := by
  have started : s.onBus [.start, .address a read] = .next { s with bus := .ignored } := by
    simp [State.onBus, State.busTake, State.endTransaction, idle, State.addressed, h]
  rw [onBus_append, onBus_append, started]
  have ignored := onBus_ignored (s := { s with bus := .ignored }) rfl bytes
  simp only [ignored, onBus_single]
  exact congrArg Host.Outcome.next (withBus_self idle)

theorem execReplyRead_notHeld {s : State} (h : s.heldReply = none) (n : Nat) :
    exec (.replyRead n) s = .next { s with readData := suppliedBytes [] n } := by
  show execReplyRead n s = _
  unfold State.heldReply at h
  unfold execReplyRead
  split <;> simp_all

/-- A whole read is the command of its count (R167). -/
theorem onBus_read {s : State} (idle : s.bus = .idle) (n : Nat) :
    s.onBus ([.start, .address s.port.address true] ++ List.replicate n (.readOut true) ++ [.readOut false, .stop]) =
      exec (.replyRead (n + 1)) s := by
  have started : s.onBus [.start, .address s.port.address true] = .next { s with bus := .reading s.heldReply 0 true } := by
    simp [State.onBus, State.busTake, State.endTransaction, idle, State.addressed]
    rfl
  have readOut := onBus_readOut (s := { s with bus := .reading s.heldReply 0 true }) n rfl
  have last : ({ s with bus := .reading s.heldReply (0 + n) true } : State).onBus [.readOut false, .stop] =
      ({ s with bus := .reading s.heldReply (n + 1) false } : State).endTransaction .idle := by
    have taken : ({ s with bus := .reading s.heldReply (0 + n) true } : State).busTake false (.readOut false) =
        .next { s with bus := .reading s.heldReply (n + 1) false } := by
      rw [Nat.zero_add]
      rfl
    simp only [State.onBus, taken]
    exact onBus_single
  rw [onBus_append, onBus_append, started]
  simp only [readOut, last]
  cases held : s.heldReply with
  | none =>
    rw [execReplyRead_notHeld held]
    exact congrArg (fun u : State => Host.Outcome.next { u with readData := suppliedBytes [] (n + 1) }) (withBus_self idle)
  | some reply => exact congrArg (exec (.replyRead (n + 1))) (withBus_self idle)

theorem suppliedBytes_whole {reply : List Byte} {n : Nat} (h : reply.length ≤ n) :
    suppliedBytes reply n = reply ++ List.replicate (n - reply.length) 0xFF#8 := by
  rw [suppliedBytes, List.take_of_length_le h]

theorem suppliedBytes_part {reply : List Byte} {n : Nat} (h : n < reply.length) : suppliedBytes reply n = reply.take n := by
  simp [suppliedBytes, Nat.sub_eq_zero_of_le (Nat.le_of_lt h)]

/-- Settles O8: each transaction event by event, and each read by what it reaches of the reply. -/
theorem transactionsRepliesAndReads : Obligations.TransactionsRepliesAndReads := by
  unfold Obligations.TransactionsRepliesAndReads
  refine ⟨acknowledges_inReset, fun s => ⟨fun a read h => acknowledges_address h a read, fun kept n b h => ?ackWrite,
    fun b h => ?ackIgnored, fun reply n more h => busSupplies_reading h⟩, fun s idle => ⟨?request, ?unknown, ?faulty, ?probe,
    fun a read bytes other => onBus_other idle other read bytes, onBus_read idle⟩, fun s w h => exec_replyFormed_working h,
    fun s reply n h free => ⟨fun whole => ?delivered, fun part => ?part⟩, fun s n h => ?notHeld⟩
  case ackWrite => simp [State.acknowledges, h]
  case ackIgnored => simp [State.acknowledges, h]
  case request =>
    intro i tag code body parts hl
    obtain ⟨stop, repeated⟩ := onBus_write_stop idle (requestFrame_ne_nil tag code body)
    rw [requestFrame_kept tag code body hl, writeCommand_requestFrame parts hl] at stop repeated
    exact ⟨stop, repeated⟩
  case unknown =>
    intro tag code body unlisted hl
    obtain ⟨stop, -⟩ := onBus_write_stop idle (requestFrame_ne_nil tag code body)
    rw [requestFrame_kept tag code body hl, writeCommand_unknown unlisted hl] at stop
    exact stop
  case faulty =>
    intro bytes hne hbad
    obtain ⟨stop, -⟩ := onBus_write_stop idle hne
    rw [writeCommand_faulty hbad, exec_frameError_countedBytes hne hbad] at stop
    exact stop
  case probe =>
    have probed := onBus_write idle [] .stop
    exact probed.trans (congrArg Host.Outcome.next (withBus_self idle))
  case delivered => rw [exec_replyRead_deliver h whole free, suppliedBytes_whole whole]
  case part => rw [exec_replyRead_short h part, suppliedBytes_part part]
  case notHeld =>
    have held : s.heldReply = none := by
      unfold State.heldReply
      split
      · rename_i reply hr
        rw [hr] at h
        cases h
      · rfl
      · rfl
    rw [execReplyRead_notHeld held]
    simp [suppliedBytes]

end Sys2Proof.Machine

/-! The choice of width and group (spec/01 R10, R12). -/

namespace Sys2Proof.Machine

section
variable {W m : Nat} {excluded : PosSet}

theorem mem_candidateWidths (hW : W ∈ [1, 2, 4]) (w : Nat) :
    w ∈ candidateWidths W m ↔ (w = W ∨ 2 * w = W ∨ 4 * w = W) ∧ m ≤ w := by
  simp only [List.mem_cons, List.not_mem_nil, or_false] at hW
  simp only [candidateWidths, List.mem_map, List.mem_filter, List.mem_cons, List.not_mem_nil, or_false,
    Bool.and_eq_true, beq_iff_eq, decide_eq_true_eq]
  constructor
  · rintro ⟨d, ⟨hd, ⟨whole, one⟩, wide⟩, rfl⟩
    refine ⟨?_, wide⟩
    rcases hW with rfl | rfl | rfl <;> rcases hd with rfl | rfl | rfl <;> omega
  · rintro ⟨h, wide⟩
    rcases h with h | h | h
    · exact ⟨1, ⟨.inl rfl, ⟨by omega, by omega⟩, by omega⟩, by omega⟩
    · exact ⟨2, ⟨.inr (.inl rfl), ⟨by omega, by omega⟩, by omega⟩, by omega⟩
    · exact ⟨4, ⟨.inr (.inr rfl), ⟨by omega, by omega⟩, by omega⟩, by omega⟩

/-- The candidates come from the widest down. -/
theorem candidateWidths_descending (hW : W ∈ [1, 2, 4]) : (candidateWidths W m).Pairwise (fun v w => w < v) := by
  simp only [List.mem_cons, List.not_mem_nil, or_false] at hW
  refine List.pairwise_map.mpr (List.Pairwise.imp_of_mem (R := (· < ·)) ?_ (List.Pairwise.filter _ (by decide)))
  intro a b ha hb less
  simp only [List.mem_filter, List.mem_cons, List.not_mem_nil, or_false, Bool.and_eq_true, beq_iff_eq,
    decide_eq_true_eq] at ha hb
  obtain ⟨ha, -⟩ := ha
  obtain ⟨hb, ⟨whole, -⟩, -⟩ := hb
  rcases hW with rfl | rfl | rfl <;> rcases ha with rfl | rfl | rfl <;> rcases hb with rfl | rfl | rfl <;> omega

/-- The first free group of a width. -/
def freeGroup (W : Nat) (excluded : PosSet) (w : Nat) : Option PosSet :=
  (groupsAt W w).find? (fun g => g &&& excluded == 0#4)

theorem selectWidth_eq (W m : Nat) (excluded : PosSet) : selectWidth W m excluded =
    (candidateWidths W m).findSome? (fun w => (freeGroup W excluded w).map (fun g => (w, g))) := rfl

theorem freeGroup_some {w : Nat} {g : PosSet} (h : freeGroup W excluded w = some g) :
    g &&& excluded = 0#4
    ∧ ∃ k : Nat, k < W / w ∧ g = groupMask w k ∧ ∀ j : Nat, j < k → groupMask w j &&& excluded ≠ 0#4 := by
  rw [freeGroup, groupsAt, List.find?_map] at h
  obtain ⟨k, found, rfl⟩ := Option.map_eq_some_iff.mp h
  obtain ⟨free, inside, first⟩ := List.find?_range_eq_some.mp found
  exact ⟨by simpa using free, k, List.mem_range.mp inside, rfl, fun j hj => by simpa using first j hj⟩

theorem freeGroup_none {w : Nat} (h : freeGroup W excluded w = none) (j : Nat) (hj : j < W / w) :
    groupMask w j &&& excluded ≠ 0#4 := by
  have all := List.find?_eq_none.mp h (groupMask w j) (List.mem_map.mpr ⟨j, List.mem_range.mpr hj, rfl⟩)
  simpa using all

end

/-- Settles O15: the candidates come from the widest down, and each one's groups in the order of their positions. -/
theorem widthSelectionIsTheWidestFreeGroup : Obligations.WidthSelectionIsTheWidestFreeGroup := by
  unfold Obligations.WidthSelectionIsTheWidestFreeGroup
  refine fun W m excluded hW => ⟨fun w g chosen => ?chosen, fun unchosen => ?none⟩
  case chosen =>
    obtain ⟨wider, v, rest, split, found, unfree⟩ := List.findSome?_eq_some_iff.mp ((selectWidth_eq W m excluded).symm.trans chosen)
    obtain ⟨g', free, e⟩ := Option.map_eq_some_iff.mp found
    obtain ⟨rfl, rfl⟩ := Prod.mk.inj e
    obtain ⟨shape, wide⟩ := (mem_candidateWidths hW v).mp (by rw [split]; simp)
    obtain ⟨apart, first⟩ := freeGroup_some free
    refine ⟨shape, wide, apart, first, fun u greater ushape => freeGroup_none ?_⟩
    have candidate : u ∈ candidateWidths W m := (mem_candidateWidths hW u).mpr ⟨ushape, by omega⟩
    have descending := candidateWidths_descending (m := m) hW
    rw [split] at candidate descending
    have below : ∀ x ∈ rest, x < v := (List.pairwise_cons.mp (List.pairwise_append.mp descending).2.1).1
    rcases List.mem_append.mp candidate with before | after
    · exact Option.map_eq_none_iff.mp (unfree u before)
    · rcases List.mem_cons.mp after with same | later
      · omega
      · have := below u later
        omega
  case none =>
    intro v _ wide shape
    have all := List.findSome?_eq_none_iff.mp ((selectWidth_eq W m excluded).symm.trans unchosen)
    exact freeGroup_none (Option.map_eq_none_iff.mp (all v ((mem_candidateWidths hW v).mpr ⟨shape, wide⟩)))

end Sys2Proof.Machine

/-! The state after reset (spec/11 R172). -/

namespace Sys2Proof.Machine

theorem queued_reset (f : FaceId) : State.reset.queued f = none := by
  revert f
  decide +kernel

theorem test_none_reset (l : LegId) : State.reset.test l = none := by
  revert l
  decide +kernel

theorem path_reset (p : PathId) : State.reset.path p = .parked := by
  revert p
  decide +kernel

theorem place_reset (p : PathId) : State.reset.place p ≠ none := by
  revert p
  decide +kernel

theorem facesSound_reset : State.reset.facesSound := by
  unfold State.facesSound
  decide +kernel

theorem logsSound_reset : State.reset.logsSound := by
  intro sev
  unfold Log.sound
  cases sev <;> decide +kernel

theorem frameSound_reset : State.reset.frameSound := by
  unfold State.frameSound
  decide +kernel

theorem changesKnown_reset : State.reset.changesKnown := by
  unfold State.changesKnown
  decide +kernel

theorem pathsSound_reset : State.reset.pathsSound := by
  refine ⟨fun p => iff_of_false (by rw [path_reset]; decide) (place_reset p), fun p q _ => ?_⟩
  simp [State.pathLaw, path_reset]

theorem excludedSound_reset : State.reset.excludedSound := by
  refine ⟨by decide +kernel, fun p q _ watched => ?_⟩
  rw [path_reset] at watched
  cases watched

/-- Settles O3: each field by evaluation, and the laws from the fields. -/
theorem resetStateIsAsSpecified : Obligations.ResetStateIsAsSpecified := by
  unfold Obligations.ResetStateIsAsSpecified
  refine ⟨rfl, rfl, rfl, by decide +kernel, fun p => ⟨path_reset p, ?map⟩, fun f => ⟨queued_reset f, ?face⟩, rfl, rfl, rfl,
    by decide +kernel, rfl, rfl, rfl, test_none_reset, rfl, rfl, rfl, rfl, rfl, rfl, ⟨Nat.zero_le _, Nat.zero_le _⟩, ?mapSound,
    facesSound_reset, logsSound_reset, frameSound_reset, changesKnown_reset, ?margin, ?filed, ?checkers, pathsSound_reset,
    excludedSound_reset⟩
  case map => revert p; decide +kernel
  case face => revert f; decide +kernel
  case mapSound => show mapValid _ _ = true; decide +kernel
  case margin => exact fun x h => absurd h (by simp [State.reset, freshEngine])
  case filed =>
    intro f j h
    rw [queued_reset] at h
    cases h
  case checkers =>
    intro l r h
    rw [test_none_reset] at h
    cases h

end Sys2Proof.Machine

/-! What a path's change of state does to its faces and monitors (spec/01 R8, R9, spec/06 R105), and LOAD MAP (R13, R14). -/

namespace Sys2Proof.Machine

/-! ### Faces of a path -/

theorem facePath_sFace (p : PathId) : facePath (sFace p) = p := by
  revert p
  decide

theorem facePath_cFace (p : PathId) : facePath (cFace p) = p := by
  revert p
  decide

theorem facePath_eq_iff (f : FaceId) (p : PathId) : facePath f = p ↔ f = sFace p ∨ f = cFace p := by
  revert f p
  decide

theorem sFace_ne_cFace (p : PathId) : sFace p ≠ cFace p := by
  revert p
  decide

theorem mem_facesOfPaths (ps : List PathId) (f : FaceId) : f ∈ facesOfPaths ps ↔ facePath f ∈ ps := by
  simp only [facesOfPaths, List.mem_flatMap, List.mem_cons, List.not_mem_nil, or_false, ← facePath_eq_iff]
  constructor
  · rintro ⟨p, hp, rfl⟩
    exact hp
  · exact fun h => ⟨facePath f, h, rfl⟩

theorem mem_legFaces (s : State) (l : LegId) (f : FaceId) : f ∈ s.legFaces l ↔ s.faceLeg f = some l := by
  rw [State.legFaces, mem_facesOfPaths, mem_legPaths]
  rfl

/-! ### Settle points -/

theorem face_settleFace (s : State) (f g : FaceId) :
    (s.settleFace g).face f = if f = g then (s.face f).settled else s.face f := by
  by_cases same : f = g
  · subst same
    rw [if_pos rfl, Face.settled]
    split
    · rename_i pending
      exact face_settleFace_pending pending
    · rename_i idle
      rw [settleFace_idle (Bool.eq_false_iff.mpr idle)]
  · rw [if_neg same, face_settleFace_other s g f same]

/-- The suspended MARGIN may have started its count over, and nothing else of the engine has changed. -/
structure Engine.sameBut (x y : Engine) : Prop where
  rest : y = { x with suspended := y.suspended }
  job : y.suspended.map (·.job) = x.suspended.map (·.job)

theorem Engine.sameBut_refl (x : Engine) : x.sameBut x := ⟨rfl, rfl⟩

theorem Engine.sameBut_trans {x y z : Engine} (h1 : x.sameBut y) (h2 : y.sameBut z) : x.sameBut z :=
  ⟨by rw [h2.rest, h1.rest], h2.job.trans h1.job⟩

theorem engine_restartSuspended (s : State) (f : FaceId) : s.engine.sameBut (s.restartSuspended f).engine := by
  refine ⟨rfl, ?_⟩
  simp only [State.restartSuspended, State.engine_modEngine, Option.map_map]
  congr 1
  funext x
  simp only [Function.comp_apply]
  split <;> rfl

theorem engine_settleFace (s : State) (f : FaceId) : s.engine.sameBut (s.settleFace f).engine := by
  unfold State.settleFace
  split
  · exact engine_restartSuspended (s.modFace f Face.swap) f
  · exact Engine.sameBut_refl _

theorem engine_settleFace_idle {s : State} {f : FaceId} (h : (s.face f).pending = false) :
    (s.settleFace f).engine = s.engine := by
  rw [settleFace_idle h]

theorem path_settleFace (s : State) (f : FaceId) (p : PathId) : (s.settleFace f).path p = s.path p := by
  simp only [State.path, paths_settleFace]

theorem monitor_settleFace (s : State) (f g : FaceId) : (s.settleFace f).monitor g = s.monitor g := by
  rw [settleFace_footprint]
  rfl

theorem monitor_modMonitor_eq (s : State) (f g : FaceId) (h : Monitor → Monitor) :
    (s.modMonitor f h).monitor g = if g = f then h (s.monitor g) else s.monitor g := by
  by_cases same : g = f
  · subst same
    rw [if_pos rfl, State.monitor_modMonitor]
  · rw [if_neg same, State.monitor_modMonitor_other _ _ _ _ same]

theorem Monitor.stop_stop (m : Monitor) : m.stop.stop = m.stop := rfl

theorem monitor_stopMonitors (s : State) (p : PathId) (f : FaceId) :
    (s.stopMonitors p).monitor f = if facePath f = p then (s.monitor f).stop else s.monitor f := by
  simp only [State.stopMonitors, monitor_modMonitor_eq, facePath_eq_iff]
  by_cases hs : f = sFace p <;> by_cases hc : f = cFace p <;>
    simp [hs, hc, Monitor.stop_stop, (sFace_ne_cFace p).symm]

/-! ### A path set to a state -/

section
variable (s : State) (p : PathId) (st : PathState) (f : FaceId)

/-- The entry to a state that is not watched stops the monitors of the path (R105). -/
theorem monitor_setPath : (s.setPath p st).monitor f =
    if facePath f = p ∧ s.path p ≠ st ∧ watchedState st = false then (s.monitor f).stop else s.monitor f := by
  unfold State.setPath
  by_cases same : s.path p = st
  · simp [same]
  · have moved : (s.setPathState p st).monitor f = s.monitor f := rfl
    cases watched : watchedState st <;> cases quiet : isQuietState st <;>
      simp [same, watched, quiet, monitor_settleFace, monitor_stopMonitors, moved]

/-- The entry to PARKED or BENCHED settles the faces of the path (R9, R76). -/
theorem face_setPath : (s.setPath p st).face f =
    if facePath f = p ∧ s.path p ≠ st ∧ isQuietState st = true then (s.face f).settled else s.face f := by
  unfold State.setPath
  by_cases same : s.path p = st
  · simp [same]
  · have settled (u : State) (hu : u.faces = s.faces) :
        ((u.settleFace (sFace p)).settleFace (cFace p)).face f =
          if facePath f = p then (s.face f).settled else s.face f := by
      have face : u.face f = s.face f := by simp only [State.face, hu]
      simp only [face_settleFace, facePath_eq_iff, face]
      by_cases hs : f = sFace p
      · simp [hs, sFace_ne_cFace p]
      · by_cases hc : f = cFace p <;> simp [hs, hc, (sFace_ne_cFace p).symm]
    cases watched : watchedState st <;> cases quiet : isQuietState st <;> simp only [same, Bool.false_eq_true, if_false,
      if_true, ne_eq, not_false_eq_true, and_true, and_false]
    · rfl
    · exact settled _ rfl
    · rfl
    · exact settled _ rfl

theorem engine_setPath : s.engine.sameBut (s.setPath p st).engine := by
  unfold State.setPath
  have settled (u : State) (hu : u.engine = s.engine) :
      s.engine.sameBut ((u.settleFace (sFace p)).settleFace (cFace p)).engine := by
    rw [← hu]
    exact Engine.sameBut_trans (engine_settleFace u _) (engine_settleFace _ _)
  split
  · exact Engine.sameBut_refl _
  · split <;> split
    · exact settled _ rfl
    · exact Engine.sameBut_refl _
    · exact settled _ rfl
    · exact Engine.sameBut_refl _

/-- Where no face of the path is pending the engine stays as it is. -/
theorem engine_setPath_settled (h : ∀ f : FaceId, facePath f = p → (s.face f).pending = false) :
    (s.setPath p st).engine = s.engine := by
  unfold State.setPath
  have settled (u : State) (hf : u.faces = s.faces) (he : u.engine = s.engine) :
      ((u.settleFace (sFace p)).settleFace (cFace p)).engine = s.engine := by
    have face (g : FaceId) : u.face g = s.face g := by simp only [State.face, hf]
    rw [settleFace_idle (s := u) (by rw [face]; exact h _ (facePath_sFace p)),
      settleFace_idle (by rw [face]; exact h _ (facePath_cFace p)), he]
  split
  · rfl
  · split <;> split
    · exact settled _ rfl rfl
    · rfl
    · exact settled _ rfl rfl
    · rfl

end

/-! ### Paths set to a state -/

section
variable (st : PathState) (f : FaceId)

theorem monitor_setPaths (ps : List PathId) (s : State) : (s.setPaths ps st).monitor f =
    if facePath f ∈ ps ∧ s.path (facePath f) ≠ st ∧ watchedState st = false then (s.monitor f).stop else s.monitor f := by
  unfold State.setPaths
  induction ps generalizing s with
  | nil => simp
  | cons p ps ih =>
    rw [List.foldl_cons, ih, monitor_setPath, path_setPath]
    by_cases own : facePath f = p
    · subst own
      by_cases moved : s.path (facePath f) = st <;> simp [moved]
    · simp [own]

theorem face_setPaths (ps : List PathId) (s : State) : (s.setPaths ps st).face f =
    if facePath f ∈ ps ∧ s.path (facePath f) ≠ st ∧ isQuietState st = true then (s.face f).settled else s.face f := by
  unfold State.setPaths
  induction ps generalizing s with
  | nil => simp
  | cons p ps ih =>
    rw [List.foldl_cons, ih, face_setPath, path_setPath]
    by_cases own : facePath f = p
    · subst own
      by_cases moved : s.path (facePath f) = st <;> simp [moved]
    · simp [own]

theorem engine_setPaths (ps : List PathId) (s : State) : s.engine.sameBut (s.setPaths ps st).engine :=
  foldl_rel (R := fun a b => a.engine.sameBut b.engine) (fun _ => Engine.sameBut_refl _)
    (fun _ _ _ h1 h2 => Engine.sameBut_trans h1 h2) (fun s p => engine_setPath s p st) ps s

end

end Sys2Proof.Machine

/-! A request whose block changes the state, and LOAD MAP (spec/01 R13, R14). -/

namespace Sys2Proof.Machine

/-- A request that is answered without a body: the block's state, and the port WORKING on it. -/
theorem takeRequest_acted {s u : State} {tag code : Byte} {body : List Byte} {act : State → Answer} {r : Result}
    (hport : s.takesRequests) (hl : body.length ≤ 128)
    (acted : act (s.acceptWrite (requestFrame tag code body)) = .plain u r)
    (port : u.port = (s.acceptWrite (requestFrame tag code body)).port) :
    takeRequest code tag body act s = .next (({ u with port := s.port } : State).answered tag code body r []) := by
  refine takeRequest_taken hport hl (acted.trans ?_) (.inr rfl)
  have back : ({ u with port := s.port } : State).acceptWrite (requestFrame tag code body) = u := by
    show ({ u with port := (s.acceptWrite (requestFrame tag code body)).port } : State) = u
    rw [← port]
  rw [back]
  rfl

/-! ### The paths' part of a load -/

/-- The path gets a leg, and enters PARKED. -/
@[reducible] def State.enters (s : State) (before : Option Place) (p : PathId) : Prop :=
  before = none ∧ s.place p ≠ none ∧ s.path p ≠ .parked

/-- The path loses its leg, and enters UNMAPPED. -/
@[reducible] def State.leaves (s : State) (before : Option Place) (p : PathId) : Prop :=
  before ≠ none ∧ s.place p = none ∧ s.path p ≠ .unmapped

section
variable (s : State) (before : Option Place) (p : PathId) (f : FaceId)

theorem face_remapPath : (s.remapPath before p).face f =
    if facePath f = p ∧ s.enters before p then (s.face f).settled else s.face f := by
  unfold State.remapPath
  split <;> rename_i after <;> simp [State.enters, after, face_setPath, isQuietState]

theorem monitor_remapPath : (s.remapPath before p).monitor f =
    if facePath f = p ∧ (s.enters before p ∨ s.leaves before p) then (s.monitor f).stop else s.monitor f := by
  unfold State.remapPath
  split <;> rename_i after <;> simp [State.enters, State.leaves, after, monitor_setPath, watchedState]

theorem engine_remapPath : s.engine.sameBut (s.remapPath before p).engine := by
  unfold State.remapPath
  split
  · exact engine_setPath s p _
  · exact engine_setPath s p _
  · exact Engine.sameBut_refl _
  · exact Engine.sameBut_refl _

theorem engine_remapPath_settled (h : before = none → ∀ f : FaceId, facePath f = p → (s.face f).pending = false) :
    (s.remapPath before p).engine = s.engine := by
  unfold State.remapPath
  split
  · unfold State.setPath
    split <;> rfl
  · exact engine_setPath_settled s p _ (h rfl)
  · rfl
  · rfl

end

theorem enters_remapPath {s : State} {b before : Option Place} {p q : PathId} (h : q ≠ p) :
    (s.remapPath b p).enters before q ↔ s.enters before q := by
  simp only [State.enters, State.place_remapPath, path_remapPath, if_neg h]

theorem leaves_remapPath {s : State} {b before : Option Place} {p q : PathId} (h : q ≠ p) :
    (s.remapPath b p).leaves before q ↔ s.leaves before q := by
  simp only [State.leaves, State.place_remapPath, path_remapPath, if_neg h]

theorem face_remapPaths (before : PathId → Option Place) (f : FaceId) (ps : List PathId) (nodup : ps.Nodup) (s : State) :
    (ps.foldl (fun t p => t.remapPath (before p) p) s).face f =
      if facePath f ∈ ps ∧ s.enters (before (facePath f)) (facePath f) then (s.face f).settled else s.face f := by
  induction ps generalizing s with
  | nil => simp
  | cons p ps ih =>
    obtain ⟨notin, nodup⟩ := List.nodup_cons.mp nodup
    rw [List.foldl_cons, ih nodup, face_remapPath]
    by_cases own : facePath f = p
    · subst own
      simp [notin]
    · simp [own, enters_remapPath]

theorem monitor_remapPaths (before : PathId → Option Place) (f : FaceId) (ps : List PathId) (nodup : ps.Nodup) (s : State) :
    (ps.foldl (fun t p => t.remapPath (before p) p) s).monitor f =
      if facePath f ∈ ps ∧ (s.enters (before (facePath f)) (facePath f) ∨ s.leaves (before (facePath f)) (facePath f))
      then (s.monitor f).stop else s.monitor f := by
  induction ps generalizing s with
  | nil => simp
  | cons p ps ih =>
    obtain ⟨notin, nodup⟩ := List.nodup_cons.mp nodup
    rw [List.foldl_cons, ih nodup, monitor_remapPath]
    by_cases own : facePath f = p
    · subst own
      simp [notin]
    · simp [own, enters_remapPath, leaves_remapPath]

theorem engine_remapPaths (before : PathId → Option Place) (ps : List PathId) (s : State) :
    s.engine.sameBut (ps.foldl (fun t p => t.remapPath (before p) p) s).engine :=
  foldl_rel (R := fun a b => a.engine.sameBut b.engine) (fun _ => Engine.sameBut_refl _)
    (fun _ _ _ h1 h2 => Engine.sameBut_trans h1 h2) (fun s p => engine_remapPath s (before p) p) ps s

theorem pending_settled (x : Face) : x.settled.pending = false := by
  unfold Face.settled
  split
  · rfl
  · exact Bool.eq_false_iff.mpr ‹_›

theorem settled_of_idle {x : Face} (h : x.pending = false) : x.settled = x := by
  simp [Face.settled, h]

theorem engine_remapPaths_settled (before : PathId → Option Place) (ps : List PathId) {s : State}
    (h : ∀ f : FaceId, before (facePath f) = none → (s.face f).pending = false) :
    (ps.foldl (fun t p => t.remapPath (before p) p) s).engine = s.engine := by
  induction ps generalizing s with
  | nil => rfl
  | cons p ps ih =>
    have first := engine_remapPath_settled s (before p) p (fun none f own => h f (by rw [own]; exact none))
    rw [List.foldl_cons, ih (fun f none => ?_), first]
    rw [face_remapPath]
    split
    · exact pending_settled _
    · exact h f none

/-! ### The legs' part of a load -/

theorem rewidthLegs_footprint (ls : List LegId) (s : State) :
    ls.foldl (fun t l => t.rewidthLeg l) s = { s with legs := (ls.foldl (fun t l => t.rewidthLeg l) s).legs } :=
  foldl_rel (R := fun a b => b = { a with legs := b.legs }) (fun _ => rfl) (fun a b c h1 h2 => by rw [h2, h1])
    (fun _ _ => rfl) ls s

/-- A leg whose width follows a new map (R14). -/
def Leg.rewidthed (x : Leg) (w : Nat) : Leg :=
  { x with configuredWidth := w, excluded := 0#4, minimumWidth := clampWidth w x.minimumWidth }

theorem leg_rewidthLegs (l : LegId) (ls : List LegId) (nodup : ls.Nodup) (s : State) :
    (ls.foldl (fun t l => t.rewidthLeg l) s).leg l =
      if l ∈ ls then (s.leg l).rewidthed (widthIn s.map s.plan l) else s.leg l := by
  induction ls generalizing s with
  | nil => simp
  | cons k ls ih =>
    obtain ⟨notin, nodup⟩ := List.nodup_cons.mp nodup
    have first : (s.rewidthLeg k).leg l = if l = k then (s.leg l).rewidthed (widthIn s.map s.plan l) else s.leg l := by
      rw [State.rewidthLeg, State.leg_modLeg_eq]
      split
      · rename_i same
        subst same
        rfl
      · rfl
    rw [List.foldl_cons, ih nodup, first]
    by_cases same : l = k
    · subst same
      simp [notin]
    · simp only [List.mem_cons, same, if_false, false_or]
      rfl

/-! ### The load -/

section
variable (s : State) (map : Vector (Option Lane) 8)

/-- The state of a load before the legs take their widths. -/
def State.pathsLoaded : State := allPaths.foldl (fun t p => t.remapPath (s.place p) p) { s with map := map }

theorem loadMap_eq : s.loadMap map = (allLegs.filter (s.changedBy map)).foldl (fun t l => t.rewidthLeg l) (s.pathsLoaded map) :=
  rfl

theorem pathsLoaded_footprint : s.pathsLoaded map = { s with
    map := map, paths := (s.pathsLoaded map).paths, monitors := (s.pathsLoaded map).monitors
    faces := (s.pathsLoaded map).faces, engine := (s.pathsLoaded map).engine } :=
  remapPaths_footprint s.place allPaths { s with map := map }

theorem loadMap_footprint : s.loadMap map = { s with
    map := map, paths := (s.pathsLoaded map).paths, monitors := (s.pathsLoaded map).monitors
    faces := (s.pathsLoaded map).faces, engine := (s.pathsLoaded map).engine, legs := (s.loadMap map).legs } := by
  have paths := pathsLoaded_footprint s map
  have legs := rewidthLegs_footprint (allLegs.filter (s.changedBy map)) (s.pathsLoaded map)
  rw [← loadMap_eq] at legs
  generalize s.pathsLoaded map = u at paths legs ⊢
  rw [legs, paths]

theorem leg_loadMap (l : LegId) : (s.loadMap map).leg l =
    if s.changedBy map l = true then (s.leg l).rewidthed (widthIn map s.plan l) else s.leg l := by
  have nodup : allLegs.Nodup := by decide
  rw [loadMap_eq, leg_rewidthLegs l _ (nodup.filter _), pathsLoaded_footprint]
  simp only [List.mem_filter, mem_allLegs, true_and]
  rfl

theorem path_loadMap (p : PathId) : (s.loadMap map).path p =
    if s.place p = none ∧ placeIn map s.plan p ≠ none then .parked
    else if s.place p ≠ none ∧ placeIn map s.plan p = none then .unmapped
    else s.path p := by
  have loaded : (s.loadMap map).path p = (s.pathsLoaded map).path p := by
    rw [loadMap_footprint]
    rfl
  have after : ({ s with map := map } : State).place p = placeIn map s.plan p := rfl
  rw [loaded, State.pathsLoaded, path_remapPaths s.place _ nodup_allPaths, if_pos (mem_allPaths p), after]
  have same : ({ s with map := map } : State).path p = s.path p := rfl
  rw [same]
  cases s.place p <;> cases placeIn map s.plan p <;> simp [remapped]

theorem face_loadMap {p : PathId} {f : FaceId} (own : facePath f = p) : (s.loadMap map).face f =
    if s.place p = none ∧ placeIn map s.plan p ≠ none ∧ s.path p ≠ .parked then (s.face f).settled else s.face f := by
  have loaded : (s.loadMap map).face f = (s.pathsLoaded map).face f := by
    rw [loadMap_footprint]
    rfl
  rw [loaded, State.pathsLoaded, face_remapPaths s.place f _ nodup_allPaths]
  subst own
  have inside := mem_allPaths (facePath f)
  exact if_congr (and_iff_right inside) rfl rfl

theorem monitor_loadMap {p : PathId} {f : FaceId} (own : facePath f = p) :
    if (s.place p = none ∧ placeIn map s.plan p ≠ none ∧ s.path p ≠ .parked)
        ∨ (s.place p ≠ none ∧ placeIn map s.plan p = none ∧ s.path p ≠ .unmapped) then
      ((s.loadMap map).monitor f).signal = .notWatched ∧ ((s.loadMap map).monitor f).lock = .notWatched
        ∧ ((s.loadMap map).monitor f).slips = 0
    else (s.loadMap map).monitor f = s.monitor f := by
  have loaded : (s.loadMap map).monitor f = (s.pathsLoaded map).monitor f := by
    rw [loadMap_footprint]
    rfl
  rw [loaded, State.pathsLoaded, monitor_remapPaths s.place f _ nodup_allPaths]
  subst own
  have inside := mem_allPaths (facePath f)
  split
  · rename_i moved
    rw [if_pos ⟨inside, moved⟩]
    exact ⟨rfl, rfl, rfl⟩
  · rename_i unmoved
    exact if_neg fun h => unmoved h.2

theorem engine_loadMap : s.engine.sameBut (s.loadMap map).engine := by
  rw [loadMap_footprint]
  exact engine_remapPaths s.place allPaths { s with map := map }

/-- No face of an UNMAPPED path is pending, so a load settles nothing (R9, R75). -/
theorem loadMap_settlesNothing (h : ∀ f : FaceId, s.path (facePath f) = .unmapped → (s.face f).pending = false)
    (sound : s.unmappedSound) : (s.loadMap map).faces = s.faces ∧ (s.loadMap map).engine = s.engine := by
  have idle (f : FaceId) (none : s.place (facePath f) = none) : (s.face f).pending = false :=
    h f ((sound _).mpr none)
  have engine := engine_remapPaths_settled s.place allPaths (s := { s with map := map }) idle
  refine ⟨Vector.ext fun i hi => ?_, ?_⟩
  · have face := face_loadMap s map (f := ⟨i, hi⟩) rfl
    split at face
    · rename_i enters
      rw [settled_of_idle (idle _ enters.1)] at face
      exact face
    · exact face
  · rw [loadMap_footprint]
    exact engine

end

/-! ### The request -/

theorem mapEntryAt_of {bs : List Byte} {i : Nat} {c : Option Lane} (h : bs.getD i 0#8 = mapByte c) :
    mapEntryAt bs i = some c := by
  unfold mapEntryAt finAt byteAt
  rw [h]
  match c with
  | none => rfl
  | some c => fin_cases c <;> rfl

theorem getElem_vector8 {α : Type} (g : Nat → α) (i : Nat) (hi : i < 8) : (vector8 g)[i] = g i := by
  unfold vector8
  interval_cases i <;> rfl

theorem mapAt_bytes (map : Vector (Option Lane) 8) : mapAt (map.toList.map mapByte) 0 = some map := by
  have entry (k : Nat) (hk : k < 8) : mapEntryAt (map.toList.map mapByte) (0 + k) = some map[k] :=
    mapEntryAt_of (by simp [List.getD_eq_getElem?_getD, hk])
  have decodes : allDecode 8 (fun k => mapEntryAt (map.toList.map mapByte) (0 + k)) = true :=
    (allDecode_iff _ _).mpr fun k hk => by rw [entry k hk]; rfl
  rw [mapAt, if_pos decodes]
  congr 1
  refine Vector.ext fun i hi => ?_
  rw [getElem_vector8, entry i hi]
  rfl

theorem loadMapAct_bytes (s : State) (map : Vector (Option Lane) 8) : loadMapAct (map.toList.map mapByte) s =
    if mapValid map s.plan = false then .plain s .invalid
    else if ∃ l : LegId, s.changedBy map l = true ∧ (s.leg l).state ≠ .off then .plain s .wrongState
    else if ∃ (l : LegId) (f : FaceId), s.changedBy map l = true ∧ s.faceLeg f = some l ∧ s.faceBusy f = true
      then .plain s .wrongState
    else .plain (s.loadMap map) .done := by
  have length : (map.toList.map mapByte).length = 8 := by simp
  have decoded : ofLength 8 (map.toList.map mapByte) (mapAt (map.toList.map mapByte) 0) = some map := by
    rw [ofLength, if_pos length, mapAt_bytes]
  have working : (!(allLegs.filter (s.changedBy map)).all (fun l => (s.leg l).state == .off)) = true ↔
      ∃ l : LegId, s.changedBy map l = true ∧ (s.leg l).state ≠ .off := by
    simp [mem_allLegs]
  have busy : (allLegs.filter (s.changedBy map)).any (fun l => (s.legFaces l).any s.faceBusy) = true ↔
      ∃ (l : LegId) (f : FaceId), s.changedBy map l = true ∧ s.faceLeg f = some l ∧ s.faceBusy f = true := by
    simp [mem_allLegs, mem_legFaces]
  rw [loadMapAct, withOperand_some s _ _ map decoded]
  simp only [working, busy, Bool.not_eq_true']

/-- Settles O14: the three checks in their order, and then the load, path by path and leg by leg. -/
theorem loadMapIsCheckedAndTaken : Obligations.LoadMapIsCheckedAndTaken := by
  unfold Obligations.LoadMapIsCheckedAndTaken
  intro s tag map hport body
  have length : body.length ≤ 128 := by simp [body]
  refine ⟨fun invalid => ?invalid, fun valid working => ?working, fun valid off busy => ?busy, fun valid off free => ?taken⟩
  case invalid =>
    exact takeRequest_taken (act := loadMapAct body) hport length ((loadMapAct_bytes _ map).trans (if_pos invalid)) (.inr rfl)
  case working =>
    have acted (bytes : List Byte) := (loadMapAct_bytes (s.acceptWrite bytes) map).trans (if_neg (by
      show ¬mapValid map s.plan = false
      simp [valid]))
    exact takeRequest_taken (act := loadMapAct body) hport length ((acted _).trans (if_pos working)) (.inr rfl)
  case busy =>
    have acted (bytes : List Byte) := (loadMapAct_bytes (s.acceptWrite bytes) map).trans (if_neg (by
      show ¬mapValid map s.plan = false
      simp [valid]))
    have allOff : ¬∃ l : LegId, s.changedBy map l = true ∧ (s.leg l).state ≠ .off := fun ⟨l, changed, on⟩ => on (off l changed)
    exact takeRequest_taken (act := loadMapAct body) hport length
      (((acted _).trans (if_neg allOff)).trans (if_pos busy)) (.inr rfl)
  case taken =>
    have acted (bytes : List Byte) := (loadMapAct_bytes (s.acceptWrite bytes) map).trans (if_neg (by
      show ¬mapValid map s.plan = false
      simp [valid]))
    have allOff : ¬∃ l : LegId, s.changedBy map l = true ∧ (s.leg l).state ≠ .off := fun ⟨l, changed, on⟩ => on (off l changed)
    have allFree : ¬∃ (l : LegId) (f : FaceId), s.changedBy map l = true ∧ s.faceLeg f = some l ∧ s.faceBusy f = true :=
      fun ⟨l, f, changed, own, busy⟩ => Bool.false_ne_true ((free l f changed own).symm.trans busy)
    let u := s.acceptWrite (requestFrame tag 0x11#8 body)
    have footprint := loadMap_footprint u map
    refine ⟨_, takeRequest_acted (act := loadMapAct body) hport length
      (((acted _).trans (if_neg allOff)).trans (if_neg allFree)) (by rw [loadMap_footprint]), rfl, ?_⟩
    refine ⟨(congrArg State.map footprint :), (congrArg State.plan footprint :), (congrArg State.store footprint :),
      (congrArg State.notices footprint :), (congrArg State.errors footprint :), (congrArg State.slots footprint :),
      (congrArg State.tests footprint :), (congrArg State.sent footprint :), (congrArg State.frame footprint :), path_loadMap u map,
      (engine_loadMap u map).rest, (congrArg State.resultOwed footprint :),
      fun p f own => ⟨face_loadMap u map own, monitor_loadMap u map own⟩,
      fun idle sound => loadMap_settlesNothing u map idle sound, leg_loadMap u map⟩

end Sys2Proof.Machine

/-! The layout of the records and reply bodies (spec/12 R173 to R178): a record is a chain of pieces, and each field is read off
the piece that stands at its offset. -/

namespace Sys2Proof.Machine

/-! ### Pieces at offsets -/

/-- A piece stands at an offset of some bytes. -/
def pieceAt (b : List Byte) (o : Nat) (c : List Byte) : Prop := ∃ pre post : List Byte, b = pre ++ c ++ post ∧ pre.length = o

theorem pieceAt_whole (b : List Byte) : pieceAt b 0 b := ⟨[], [], by simp, rfl⟩

section
variable {b : List Byte} {o : Nat}

theorem pieceAt_left {x y : List Byte} (h : pieceAt b o (x ++ y)) : pieceAt b o x := by
  obtain ⟨pre, post, e, l⟩ := h
  exact ⟨pre, y ++ post, by simp [e], l⟩

theorem pieceAt_right {x y : List Byte} (h : pieceAt b o (x ++ y)) : pieceAt b (o + x.length) y := by
  obtain ⟨pre, post, e, l⟩ := h
  exact ⟨pre ++ x, post, by simp [e], by simp [l]⟩

theorem pieceAt_head {x : Byte} {xs : List Byte} (h : pieceAt b o (x :: xs)) : pieceAt b o [x] :=
  pieceAt_left (y := xs) h

theorem pieceAt_tail {x : Byte} {xs : List Byte} (h : pieceAt b o (x :: xs)) : pieceAt b (o + 1) xs :=
  pieceAt_right (x := [x]) h

theorem getD_of_pieceAt {x : Byte} (h : pieceAt b o [x]) : b.getD o 0#8 = x := by
  obtain ⟨pre, post, e, l⟩ := h
  subst e
  subst l
  simp [List.getD_eq_getElem?_getD]

theorem byteAt_of_pieceAt {x : Byte} (h : pieceAt b o [x]) : byteAt b o = x.toNat := by
  rw [byteAt, getD_of_pieceAt h]

/-- The fields of a record, one byte each. -/
theorem fieldsAt_of_pieceAt {fs : List (Option Nat)} (h : pieceAt b o (fs.map orAbsent)) : fieldsAt b o fs := by
  induction fs generalizing o with
  | nil => trivial
  | cons x xs ih =>
    rw [List.map_cons] at h
    have first := byteAt_of_pieceAt (pieceAt_head h)
    have rest := ih (pieceAt_tail h)
    cases x with
    | none => exact ⟨first, rest⟩
    | some n => exact ⟨first.trans (BitVec.toNat_ofNat n 8), rest⟩

theorem wordAt_of_pieceAt {n : Nat} (h : pieceAt b o (le16 n)) : wordAt b o n := by
  have low := byteAt_of_pieceAt (pieceAt_head h)
  have high := byteAt_of_pieceAt (pieceAt_head (pieceAt_tail h))
  simp only [byte, BitVec.toNat_ofNat] at low high
  rw [wordAt, le16At, low, high]
  omega

theorem longAt_of_pieceAt {n : Nat} (h : pieceAt b o (le32 n)) : longAt b o n := by
  have b0 := byteAt_of_pieceAt (pieceAt_head h)
  have b1 := byteAt_of_pieceAt (pieceAt_head (pieceAt_tail h))
  have b2 := byteAt_of_pieceAt (pieceAt_head (pieceAt_tail (pieceAt_tail h)))
  have b3 := byteAt_of_pieceAt (pieceAt_head (pieceAt_tail (pieceAt_tail (pieceAt_tail h))))
  simp only [byte, BitVec.toNat_ofNat] at b0 b1 b2 b3
  rw [longAt, le32At, le16At, le16At, b0, b1, b2, b3]
  omega

theorem length_flatMap_const {α : Type} {g : α → List Byte} {m : Nat} (hm : ∀ x : α, (g x).length = m) (xs : List α) :
    (xs.flatMap g).length = m * xs.length := by
  induction xs with
  | nil => rfl
  | cons x xs ih =>
    rw [List.flatMap_cons, List.length_append, ih, hm, List.length_cons]
    ring

/-- An entry of a list of records of one length. -/
theorem pieceAt_entry {α : Type} {g : α → List Byte} {m : Nat} (hm : ∀ x : α, (g x).length = m) {xs : List α} {i : Nat} {x : α}
    (h : pieceAt b o (xs.flatMap g)) (hx : xs[i]? = some x) : pieceAt b (o + m * i) (g x) := by
  obtain ⟨hi, rfl⟩ := List.getElem?_eq_some_iff.mp hx
  have split : xs.flatMap g = (xs.take i).flatMap g ++ (g xs[i] ++ (xs.drop (i + 1)).flatMap g) := by
    rw [← List.flatMap_cons, ← List.drop_eq_getElem_cons hi, ← List.flatMap_append, List.take_append_drop]
  rw [split] at h
  have entry := pieceAt_left (pieceAt_right h)
  rwa [length_flatMap_const hm, List.length_take, Nat.min_eq_left (Nat.le_of_lt hi)] at entry

/-- An entry of a list of single bytes. -/
theorem pieceAt_byte {α : Type} {g : α → Byte} {xs : List α} {i : Nat} {x : α} (h : pieceAt b o (xs.map g))
    (hx : xs[i]? = some x) : pieceAt b (o + i) [g x] := by
  have single : xs.map g = xs.flatMap (fun x => [g x]) := List.map_eq_flatMap
  rw [single] at h
  have entry := pieceAt_entry (m := 1) (fun _ => rfl) h hx
  rwa [Nat.one_mul] at entry

end

/-! ### One-byte forms of a field -/

theorem boolByte_eq (x : Bool) : boolByte x = orAbsent (some x.toNat) := by cases x <;> rfl

theorem setByte_eq {w : Nat} (x : BitVec w) : setByte x = orAbsent (some x.toNat) := by
  refine BitVec.eq_of_toNat_eq ?_
  simp [setByte, orAbsent, byte]

theorem orAbsent_toNat (x : Byte) : orAbsent (some x.toNat) = x := by simp [orAbsent, byte]

theorem boolByte_isCFace (f : FaceId) : boolByte (isCFace f) = orAbsent (some (f.val % 2)) := by
  revert f
  decide

theorem le16OrAbsent_eq (o : Option Nat) : le16OrAbsent o = le16 (o.getD 65535) := by
  cases o <;> rfl

/-! ### Codes (R175, R176) -/

theorem codesAsGiven_holds : codesAsGiven :=
  ⟨rfl, rfl, rfl, fun _ => rfl, rfl, rfl, rfl, rfl, rfl, rfl, rfl, rfl, rfl, rfl, rfl, rfl, rfl, rfl, rfl, rfl, rfl, rfl, rfl,
    rfl, rfl, rfl, rfl, rfl, rfl, rfl, rfl, fun _ => rfl, rfl⟩

/-! ### Error records (R176) -/

theorem length_errorRecord (r : ErrorRecord) : r.bytes.length = 14 := by
  simp [ErrorRecord.bytes, le32, le16, le16OrAbsent_eq]

section
variable {b : List Byte} {o : Nat}

theorem errorRecordAt_of_pieceAt {r : ErrorRecord} (h : pieceAt b o r.bytes) : errorRecordAt b o (some r) := by
  rw [ErrorRecord.bytes, le16OrAbsent_eq] at h
  have front := pieceAt_left h
  have detail := pieceAt_right h
  have head := pieceAt_left front
  exact ⟨fieldsAt_of_pieceAt (pieceAt_left head), longAt_of_pieceAt (pieceAt_right head),
    fieldsAt_of_pieceAt (fs := [some r.epoch]) (pieceAt_right front), wordAt_of_pieceAt detail⟩

theorem errorRecordAt_recordBytes {r : Option ErrorRecord} (h : pieceAt b o (recordBytes r)) : errorRecordAt b o r := by
  cases r with
  | some r => exact errorRecordAt_of_pieceAt h
  | none =>
    intro k hk
    have entry := pieceAt_byte (g := fun _ : Nat => (0xFF#8 : Byte)) (xs := List.range 14) h (List.getElem?_range hk)
    exact byteAt_of_pieceAt entry

theorem length_recordBytes (r : Option ErrorRecord) : (recordBytes r).length = 14 := by
  cases r with
  | some r => exact length_errorRecord r
  | none => rfl

/-! ### Checkers, jobs and sets -/

theorem length_checkerRecord (c : CheckerRecord) : c.bytes.length = 11 := rfl

theorem checkersAt_of_pieceAt {cs : List CheckerRecord} (h : pieceAt b o (checkerBytes cs)) : checkersAt b o cs := by
  refine ⟨fieldsAt_of_pieceAt (fs := [some cs.length]) (pieceAt_head h), fun i c hc => ?_⟩
  have entry := pieceAt_entry length_checkerRecord (pieceAt_tail h) hc
  rw [CheckerRecord.bytes] at entry
  have front := pieceAt_left entry
  have head := pieceAt_left front
  exact ⟨fieldsAt_of_pieceAt (fs := [some c.face.val, some (checkerStateCode c.checker.state)]) (pieceAt_left head),
    longAt_of_pieceAt (pieceAt_right head), longAt_of_pieceAt (pieceAt_right front),
    fieldsAt_of_pieceAt (fs := [some c.checker.losses]) (pieceAt_right entry)⟩

theorem setShownAt_of_pieceAt {e : EqSet} (h : pieceAt b o e.shown) : setShownAt b o e :=
  ⟨fieldsAt_of_pieceAt (fs := [some e.tx.pre, some e.tx.post, some e.tx.main, some e.rx.peaking, some e.rx.gain])
      (pieceAt_left (y := [signedByte e.rx.dfe1, signedByte e.rx.dfe2]) h),
    getD_of_pieceAt (pieceAt_head (pieceAt_right
      (x := [byte e.tx.pre, byte e.tx.post, byte e.tx.main, byte e.rx.peaking, byte e.rx.gain]) h)),
    getD_of_pieceAt (pieceAt_tail (pieceAt_right
      (x := [byte e.tx.pre, byte e.tx.post, byte e.tx.main, byte e.rx.peaking, byte e.rx.gain]) h))⟩

theorem jobBytes_eq (j : Job) : j.bytes = [some j.face.val, some (jobKindCode j.kind), some (requesterCode j.requester),
    some (if j.requester = .switch then j.tag.toNat else 0)].map orAbsent := by
  have tag : (if j.requester = .switch then j.tag else 0#8) =
      orAbsent (some (if j.requester = .switch then j.tag.toNat else 0)) := by
    split
    · exact (orAbsent_toNat j.tag).symm
    · rfl
  rw [Job.bytes, tag]
  rfl

theorem jobAt_of_pieceAt {j : Job} (h : pieceAt b o j.bytes) : jobAt b o j := by
  rw [jobBytes_eq] at h
  exact fieldsAt_of_pieceAt h

theorem length_jobBytes (j : Job) : j.bytes.length = 4 := rfl

/-! ### Captures and notices -/

theorem length_captureEntry (x : CaptureEntry) : x.bytes.length = 6 := rfl

theorem captureAt_of_pieceAt {c : Capture} (h : pieceAt b o c.bytes) : captureAt b o c := by
  rw [Capture.bytes, boolByte_eq, edgeByte] at h
  have front := pieceAt_left h
  have entries := pieceAt_right h
  refine ⟨longAt_of_pieceAt (pieceAt_left front), fieldsAt_of_pieceAt (fs := [some c.slot.val, some (sourceCode c.source),
    c.edge.map edgeCode, some (legStateCode c.legState), some c.tally, some c.overflow.toNat, some c.entries.length])
    (pieceAt_right front), fun i x hx => ?_⟩
  have entry := pieceAt_entry length_captureEntry entries hx
  exact ⟨fieldsAt_of_pieceAt (fs := [some x.face.val, x.lastMargin.map (·.val), some (signalCode x.signal),
    some (lockCode x.lock)]) (pieceAt_left entry), wordAt_of_pieceAt (pieceAt_right entry)⟩

end

theorem length_captureBytes (c : Capture) : c.bytes.length = 11 + 6 * c.entries.length := by
  have entries := length_flatMap_const length_captureEntry c.entries
  simp only [Capture.bytes, List.length_append, entries]
  rfl

theorem noticeAt_bytes (n : Notice) : noticeAt n.bytes n := by
  have whole := pieceAt_whole n.bytes
  cases n with
  | legState st l old new cause width =>
    have head := pieceAt_left whole
    exact ⟨longAt_of_pieceAt (pieceAt_tail head), fieldsAt_of_pieceAt (fs := [some 1]) (pieceAt_head head),
      fieldsAt_of_pieceAt (fs := [some l.val, some (legStateCode old), some (legStateCode new), some (causeCode cause),
        some width]) (pieceAt_right whole)⟩
  | error st sev r =>
    have head := pieceAt_left whole
    have rest := pieceAt_right whole
    exact ⟨longAt_of_pieceAt (pieceAt_tail head), fieldsAt_of_pieceAt (fs := [some 2]) (pieceAt_head head),
      fieldsAt_of_pieceAt (fs := [some (severityCode sev)]) (pieceAt_head rest), errorRecordAt_of_pieceAt (pieceAt_tail rest)⟩
  | jobDone st tag f outcome margin =>
    have head := pieceAt_left whole
    have rest := pieceAt_right whole
    refine ⟨longAt_of_pieceAt (pieceAt_tail head), fieldsAt_of_pieceAt (fs := [some 3]) (pieceAt_head head),
      fieldsAt_of_pieceAt ?_⟩
    rw [List.map_cons, orAbsent_toNat]
    exact rest
  | reaction st l j src e state =>
    have head := pieceAt_left whole
    exact ⟨longAt_of_pieceAt (pieceAt_tail head), fieldsAt_of_pieceAt (fs := [some 4]) (pieceAt_head head),
      fieldsAt_of_pieceAt (fs := [some l.val, some j.val, some (sourceCode src), e.map edgeCode, some (legStateCode state)])
        (pieceAt_right whole)⟩
  | storeDone st p act ok =>
    have head := pieceAt_left whole
    have rest := pieceAt_right whole
    refine ⟨longAt_of_pieceAt (pieceAt_tail head), fieldsAt_of_pieceAt (fs := [some 5]) (pieceAt_head head),
      fieldsAt_of_pieceAt ?_⟩
    cases ok <;> exact rest
  | testDone st l cause elapsed cs =>
    have front := pieceAt_left whole
    have start := pieceAt_left front
    have head := pieceAt_left start
    exact ⟨longAt_of_pieceAt (pieceAt_tail head), fieldsAt_of_pieceAt (fs := [some 6]) (pieceAt_head head),
      fieldsAt_of_pieceAt (fs := [some l.val, some (testEndCode cause)]) (pieceAt_right start),
      longAt_of_pieceAt (pieceAt_right front), checkersAt_of_pieceAt (pieceAt_right whole)⟩

end Sys2Proof.Machine

/-! The bodies of the read requests and the training words, assembled from their pieces (spec/12 R173 to R178). -/

namespace Sys2Proof.Machine

/-! ### The lists a body runs over -/

theorem getElem?_allPaths (p : PathId) : allPaths[p.val]? = some p := by revert p; decide
theorem getElem?_allLegs (l : LegId) : allLegs[l.val]? = some l := by revert l; decide
theorem getElem?_allSlots (j : SlotId) : allSlots[j.val]? = some j := by revert j; decide

theorem getElem?_toList {α : Type} {n : Nat} (v : Vector α n) (i : Fin n) : v.toList[i.val]? = some v[i] := by
  rw [Vector.getElem?_toList]
  exact Vector.getElem?_eq_getElem i.isLt

/-! ### READ MAP -/

theorem length_placeBytes (p : Option Place) : (placeBytes p).length = 2 := by cases p <;> rfl

theorem length_mapBytes (s : State) : s.mapBytes.length = 52 := by
  have places := length_flatMap_const length_placeBytes s.plan.toList
  simp only [State.mapBytes, List.length_append, List.length_map, places, Vector.length_toList]
  rfl

theorem mapByte_at (s : State) (p : PathId) : fieldsAt s.mapBytes p.val [(s.map[p]).map (·.val)] := by
  have lanes := pieceAt_left (pieceAt_left (pieceAt_left (pieceAt_whole s.mapBytes)))
  have entry := pieceAt_byte lanes (getElem?_toList s.map p)
  rw [Nat.zero_add] at entry
  exact fieldsAt_of_pieceAt entry

theorem placeBytes_at (s : State) (c : Lane) : fieldsAt s.mapBytes (8 + 2 * c.val) (match s.plan[c] with
    | some q => [some q.leg.val, some q.pos.val]
    | none => [none, some 0]) := by
  have places := pieceAt_right (pieceAt_left (pieceAt_left (pieceAt_whole s.mapBytes)))
  have entry := pieceAt_entry length_placeBytes places (getElem?_toList s.plan c)
  rw [List.length_map, Vector.length_toList, Nat.zero_add] at entry
  refine fieldsAt_of_pieceAt ?_
  cases at_c : s.plan[c] <;> rw [at_c] at entry <;> exact entry

theorem pathBytes_at (s : State) (p : PathId) : fieldsAt s.mapBytes (24 + 3 * p.val)
    [(s.place p).map (·.leg.val), (s.place p).map (·.pos.val), some (pathStateCode (s.path p))] := by
  have paths := pieceAt_right (pieceAt_left (pieceAt_whole s.mapBytes))
  have entry := pieceAt_entry (m := 3) (fun _ => rfl) paths (getElem?_allPaths p)
  have places := length_flatMap_const length_placeBytes s.plan.toList
  rw [List.length_append, List.length_map, places, Vector.length_toList, Vector.length_toList, Nat.zero_add] at entry
  refine fieldsAt_of_pieceAt ?_
  simp only [State.pathLeg, State.pathPos, Option.map_map] at entry
  exact entry

theorem widthByte_at (s : State) (l : LegId) : fieldsAt s.mapBytes (48 + l.val) [some (s.leg l).configuredWidth] := by
  have widths := pieceAt_right (pieceAt_whole s.mapBytes)
  have entry := pieceAt_byte widths (getElem?_allLegs l)
  have places := length_flatMap_const length_placeBytes s.plan.toList
  simp only [List.length_append, List.length_map, places, Vector.length_toList, Nat.zero_add] at entry
  exact fieldsAt_of_pieceAt entry

/-! ### READ LEG and READ FACE -/

/-- The one-byte fields of the leg record. -/
def legFields (s : State) (l : LegId) : List (Option Nat) :=
  let x := s.leg l
  [some l.val, some x.enabled.toNat, some (legStateCode x.state), some x.configuredWidth, some x.currentWidth,
    some x.minimumWidth, some (rateIndex x.targetRate), x.agreedRate.map rateIndex, some x.attemptCount,
    some x.retryBudget, some x.excluded.toNat, some x.group.toNat, some (trainCauseCode x.trainingCause),
    x.failureCause.map failCauseCode, some x.holdRequest.toNat, some x.trainingLimit, some x.holdMinimum,
    some x.trimInterval, some x.marginFloor, some x.slipLimit, some (s.wiresOf l).present.asserted.toNat,
    if x.state = .training then x.record.map (·.attempt) else none,
    some (x.holdTimer.isSome.toNat + 2 * x.limitTimer.isSome.toNat + 4 * x.trimTimer.isSome.toNat)]

theorem legBytes_eq (s : State) (l : LegId) : s.legBytes l = (legFields s l).map orAbsent
    ++ le16 ((s.leg l).holdTimer.getD 0) ++ le16 ((s.leg l).limitTimer.getD 0) ++ le16 ((s.leg l).trimTimer.getD 0) := by
  simp only [State.legBytes, legFields, List.map_cons, List.map_nil, boolByte_eq, setByte_eq]
  rfl

theorem legBytes_at (s : State) (l : LegId) :
    (s.legBytes l).length = 29 ∧ fieldsAt (s.legBytes l) 0 (legFields s l)
    ∧ wordAt (s.legBytes l) 23 ((s.leg l).holdTimer.getD 0) ∧ wordAt (s.legBytes l) 25 ((s.leg l).limitTimer.getD 0)
    ∧ wordAt (s.legBytes l) 27 ((s.leg l).trimTimer.getD 0) := by
  rw [legBytes_eq]
  have trimPart := pieceAt_whole ((legFields s l).map orAbsent ++ le16 ((s.leg l).holdTimer.getD 0)
    ++ le16 ((s.leg l).limitTimer.getD 0) ++ le16 ((s.leg l).trimTimer.getD 0))
  have limitPart := pieceAt_left trimPart
  have holdPart := pieceAt_left limitPart
  exact ⟨rfl, fieldsAt_of_pieceAt (pieceAt_left holdPart), wordAt_of_pieceAt (pieceAt_right holdPart),
    wordAt_of_pieceAt (pieceAt_right limitPart), wordAt_of_pieceAt (pieceAt_right trimPart)⟩

theorem faceBytes_at (s : State) (f : FaceId) :
    (s.faceBytes f).length = 24 ∧ setShownAt (s.faceBytes f) 0 (s.face f).active
    ∧ setShownAt (s.faceBytes f) 7 (s.face f).staged
    ∧ fieldsAt (s.faceBytes f) 14
      [some ((s.face f).pending.toNat + 2 * (s.face f).swapOnCompletion.toNat + 4 * (s.face f).pinned.toNat),
        (s.face f).lastMargin.map (·.val), some (statusCode (s.face f).status), some (signalCode (s.monitor f).signal),
        some (lockCode (s.monitor f).lock)]
    ∧ wordAt (s.faceBytes f) 19 (s.monitor f).slips
    ∧ fieldsAt (s.faceBytes f) 21 [some (f.val / 2), some (f.val % 2), some (pathStateCode (s.path (facePath f)))] := by
  have whole := pieceAt_whole (s.faceBytes f)
  have upToSlips := pieceAt_left whole
  have upToMonitor := pieceAt_left upToSlips
  have sets := pieceAt_left upToMonitor
  have ident : pieceAt (s.faceBytes f) 21
      [byte (facePath f).val, boolByte (isCFace f), byte (pathStateCode (s.path (facePath f)))] := pieceAt_right whole
  rw [boolByte_isCFace] at ident
  exact ⟨rfl, setShownAt_of_pieceAt (pieceAt_left sets), setShownAt_of_pieceAt (pieceAt_right sets),
    fieldsAt_of_pieceAt (pieceAt_right upToMonitor), wordAt_of_pieceAt (pieceAt_right upToSlips), fieldsAt_of_pieceAt ident⟩

/-! ### READ LOG -/

theorem length_tallyBytes (t : Tally) : t.bytes.length = 5 := rfl

theorem length_errorBytes (e : ErrorUnit) (sev : Severity) : (e.bytes sev).length = 63 := by
  have tallies := length_flatMap_const length_tallyBytes e.tallies.toList
  simp only [ErrorUnit.bytes, List.length_append, List.length_map, length_recordBytes, tallies, Vector.length_toList]
  rfl

theorem settingByte_at (e : ErrorUnit) (sev : Severity) (k : Fin 14) : fieldsAt (e.bytes sev) (29 + k.val)
    [some ((e.settings[k]).enable.toNat + 2 * severityCode (e.settings[k]).severity)] := by
  have settings := pieceAt_right (pieceAt_left (pieceAt_whole (e.bytes sev)))
  have entry := pieceAt_byte settings (getElem?_toList e.settings k)
  simp only [List.length_append, length_recordBytes, List.length_singleton, Nat.zero_add] at entry
  exact fieldsAt_of_pieceAt (fs := [some _]) entry

theorem tallyBytes_at (e : ErrorUnit) (sev : Severity) (l : LegId) :
    fieldsAt (e.bytes sev) (43 + 5 * l.val) [some (e.tallies[l]).value, some (e.tallies[l]).overflow.toNat]
    ∧ wordAt (e.bytes sev) (45 + 5 * l.val) (e.tallies[l]).kinds.toNat
    ∧ fieldsAt (e.bytes sev) (47 + 5 * l.val) [some (e.tallies[l]).threshold] := by
  have tallies := pieceAt_right (pieceAt_whole (e.bytes sev))
  have entry := pieceAt_entry length_tallyBytes tallies (getElem?_toList e.tallies l)
  simp only [List.length_append, List.length_map, length_recordBytes, List.length_singleton, Vector.length_toList,
    Nat.zero_add, Tally.bytes, boolByte_eq] at entry
  have front := pieceAt_left entry
  have kinds := wordAt_of_pieceAt (pieceAt_right front)
  have threshold := fieldsAt_of_pieceAt (fs := [some (e.tallies[l]).threshold]) (pieceAt_right entry)
  refine ⟨fieldsAt_of_pieceAt (fs := [some _, some _]) (pieceAt_left front), ?_, ?_⟩
  · rw [show 45 + 5 * l.val = 43 + 5 * l.val + 2 by omega]
    exact kinds
  · rw [show 47 + 5 * l.val = 43 + 5 * l.val + 4 by omega]
    exact threshold

theorem logBytes_at (e : ErrorUnit) (sev : Severity) : errorRecordAt (e.bytes sev) 0 (e.log sev).first
    ∧ errorRecordAt (e.bytes sev) 14 (e.log sev).next ∧ fieldsAt (e.bytes sev) 28 [some (e.log sev).further] := by
  have front := pieceAt_left (pieceAt_left (pieceAt_whole (e.bytes sev)))
  have records := pieceAt_left front
  have next := pieceAt_right records
  have further := pieceAt_right front
  simp only [List.length_append, length_recordBytes, Nat.zero_add] at next further
  exact ⟨errorRecordAt_recordBytes (pieceAt_left records), errorRecordAt_recordBytes next,
    fieldsAt_of_pieceAt (fs := [some _]) further⟩

/-! ### READ SIDEBAND and READ REACTIONS -/

theorem legWireBytes_at (s : State) (high : Bool) (l : LegId) : fieldsAt (s.sidebandBytes high) (4 * l.val)
    [some ((!(s.wiresOf l).present.wireLow).toNat + 2 * (!(s.wiresOf l).alert.wireLow).toNat
       + 4 * (!(s.wiresOf l).wake.wireLow).toNat + 8 * (!s.holdAsserted l).toNat),
     some ((s.wiresOf l).present.asserted.toNat + 2 * (s.wiresOf l).alert.asserted.toNat
       + 4 * (s.wiresOf l).wake.asserted.toNat + 8 * (s.wiresOf l).alertLatch.toNat),
     some (s.slotValues l).toNat, some (s.frame.lastSent[l]).toNat] := by
  have legs := pieceAt_left (pieceAt_whole (s.sidebandBytes high))
  have entry := pieceAt_entry (m := 4) (fun _ => rfl) legs (getElem?_allLegs l)
  rw [Nat.zero_add] at entry
  simp only [State.legWireBytes, setByte_eq] at entry
  exact fieldsAt_of_pieceAt (fs := [some _, some _, some _, some _]) entry

theorem frameBytes_at (s : State) (high : Bool) : fieldsAt (s.sidebandBytes high) 16
    [some high.toNat, some (frameStateCode s.frame.state), some (slotPlanCode s.frame.plan.slots),
     some (bitTimeCode s.frame.plan.bit), some (startWidthCode s.frame.plan.start), some (modeCode s.frame.mode),
     some s.frame.enableRequest.toNat, some (modeCode s.frame.modeRequest), some s.frame.haltRequest.toNat,
     some s.frame.changePending.toNat] := by
  have tail := pieceAt_right (pieceAt_whole (s.sidebandBytes high))
  simp only [boolByte_eq] at tail
  exact fieldsAt_of_pieceAt tail

theorem slotBytes_at (s : State) (l : LegId) (j : SlotId) : fieldsAt (s.reactionBytes l) (4 * j.val)
    [some (sourceCode (s.slot l j).source), (s.slot l j).edge.map edgeModeCode, (s.slot l j).action.map actionCode,
     some (s.slot l j).fires] := by
  have slots := pieceAt_left (pieceAt_whole (s.reactionBytes l))
  have entry := pieceAt_entry (m := 4) (fun _ => rfl) slots (getElem?_allSlots j)
  rw [Nat.zero_add] at entry
  exact fieldsAt_of_pieceAt entry

theorem captureBytes_at (s : State) (l : LegId) : match (s.leg l).capture with
    | some c => (s.reactionBytes l).length = 28 + 6 * c.entries.length ∧ fieldsAt (s.reactionBytes l) 16 [some 1]
        ∧ captureAt (s.reactionBytes l) 17 c
    | none => (s.reactionBytes l).length = 17 ∧ fieldsAt (s.reactionBytes l) 16 [some 0] := by
  have tail := pieceAt_right (pieceAt_whole (s.reactionBytes l))
  have bytes : s.reactionBytes l = allSlots.flatMap (fun j => (s.slot l j).bytes)
    ++ (match (s.leg l).capture with
        | some c => 1#8 :: c.bytes
        | none => [0#8]) := rfl
  have slots := length_flatMap_const (m := 4) (g := fun j => (s.slot l j).bytes) (fun _ => rfl) allSlots
  rw [slots] at tail
  cases captured : (s.leg l).capture with
  | none =>
    rw [captured] at bytes tail
    exact ⟨by rw [bytes, List.length_append, slots]; rfl, fieldsAt_of_pieceAt (fs := [some 0]) tail⟩
  | some c =>
    rw [captured] at bytes tail
    refine ⟨?_, fieldsAt_of_pieceAt (fs := [some 1]) (pieceAt_head tail), captureAt_of_pieceAt (pieceAt_tail tail)⟩
    rw [bytes, List.length_append, slots, List.length_cons, length_captureBytes]
    simp only [allSlots, List.length_cons, List.length_nil]
    omega

/-! ### READ TUNE QUEUE -/

/-- The jobs that wait, in the order of their faces. -/
def Engine.pending (e : Engine) : List Job := allFaces.filterMap (fun f => e.queue[f])

section
variable (e : Engine)

theorem length_jobs (js : List Job) : (js.flatMap Job.bytes).length = 4 * js.length := length_flatMap_const length_jobBytes js

theorem length_runningBytes (r : Option RunningJob) : (runningBytes r).length = 7 := by cases r <;> rfl
theorem length_suspendedBytes (x : Option SuspendedJob) : (suspendedBytes x).length = 5 := by cases x <;> rfl

theorem engineBytes_eq : e.bytes = [boolByte e.running.isSome] ++ runningBytes e.running ++ suspendedBytes e.suspended
    ++ [byte e.pending.length] ++ e.pending.flatMap Job.bytes ++ [byte e.held.length]
    ++ (e.held.take 11).flatMap Job.bytes
    ++ [byte e.urgentPointer.val, byte e.routinePointer.val, byte e.probePointer.val] ++ le16 e.mask.toNat := rfl

theorem length_engineBytes : e.bytes.length = 20 + 4 * e.pending.length + 4 * min 11 e.held.length := by
  simp only [engineBytes_eq, List.length_append, length_runningBytes, length_suspendedBytes, length_jobs,
    List.length_cons, List.length_nil, List.length_take, le16]
  omega

variable {b : List Byte} {o : Nat}

/-- The fields of the running job, or their seven bytes of 0xFF. -/
def runningAt (b : List Byte) (o : Nat) (r : Option RunningJob) : Prop :=
  match r with
  | some r => jobAt b o r.job ∧ fieldsAt b (o + 4) [some r.stepsDone, some r.sinceStart, some r.cancelling.toNat]
  | none => fieldsAt b o (List.replicate 7 none)

/-- The fields of the suspended job, or their five bytes of 0xFF. -/
def suspendedAt (b : List Byte) (o : Nat) (x : Option SuspendedJob) : Prop :=
  match x with
  | some x => jobAt b o x.job ∧ fieldsAt b (o + 4) [some x.stepsDone]
  | none => fieldsAt b o (List.replicate 5 none)

theorem runningAt_of_pieceAt {r : Option RunningJob} (h : pieceAt b o (runningBytes r)) : runningAt b o r := by
  cases r with
  | none => exact fieldsAt_of_pieceAt h
  | some r =>
    have rest := pieceAt_right h
    rw [boolByte_eq] at rest
    exact ⟨jobAt_of_pieceAt (pieceAt_left h),
      fieldsAt_of_pieceAt (fs := [some r.stepsDone, some r.sinceStart, some r.cancelling.toNat]) rest⟩

theorem suspendedAt_of_pieceAt {x : Option SuspendedJob} (h : pieceAt b o (suspendedBytes x)) : suspendedAt b o x := by
  cases x with
  | none => exact fieldsAt_of_pieceAt h
  | some x => exact ⟨jobAt_of_pieceAt (pieceAt_left h), fieldsAt_of_pieceAt (fs := [some x.stepsDone]) (pieceAt_right h)⟩

theorem jobsAt_of_pieceAt {js : List Job} {i : Nat} {j : Job} (h : pieceAt b o (js.flatMap Job.bytes))
    (hj : js[i]? = some j) : jobAt b (o + 4 * i) j :=
  jobAt_of_pieceAt (pieceAt_entry length_jobBytes h hj)

/-- The pieces of the reply to READ TUNE QUEUE, each at its offset. -/
theorem engine_pieces : pieceAt e.bytes 0 [boolByte e.running.isSome] ∧ pieceAt e.bytes 1 (runningBytes e.running)
    ∧ pieceAt e.bytes 8 (suspendedBytes e.suspended) ∧ pieceAt e.bytes 13 [byte e.pending.length]
    ∧ pieceAt e.bytes 14 (e.pending.flatMap Job.bytes)
    ∧ pieceAt e.bytes (14 + 4 * e.pending.length) [byte e.held.length]
    ∧ pieceAt e.bytes (15 + 4 * e.pending.length) ((e.held.take 11).flatMap Job.bytes)
    ∧ pieceAt e.bytes (15 + 4 * e.pending.length + 4 * min 11 e.held.length)
        [byte e.urgentPointer.val, byte e.routinePointer.val, byte e.probePointer.val]
    ∧ pieceAt e.bytes (18 + 4 * e.pending.length + 4 * min 11 e.held.length) (le16 e.mask.toNat) := by
  have whole := pieceAt_whole e.bytes
  conv at whole => rhs; rw [engineBytes_eq]
  have p8 := pieceAt_left whole
  have p7 := pieceAt_left p8
  have p6 := pieceAt_left p7
  have p5 := pieceAt_left p6
  have p4 := pieceAt_left p5
  have p3 := pieceAt_left p4
  have p2 := pieceAt_left p3
  have mask := pieceAt_right whole
  have pointers := pieceAt_right p8
  have held := pieceAt_right p7
  have count := pieceAt_right p6
  have jobs := pieceAt_right p5
  have waiting := pieceAt_right p4
  have suspended := pieceAt_right p3
  have running := pieceAt_right p2
  simp only [List.length_append, length_runningBytes, length_suspendedBytes, length_jobs, List.length_cons,
    List.length_nil, List.length_take, Nat.zero_add, Nat.reduceAdd] at mask pointers held count jobs waiting suspended running
  refine ⟨pieceAt_left p2, running, suspended, waiting, jobs, count, ?_, ?_, ?_⟩
  · rw [show 15 + 4 * e.pending.length = 14 + 4 * e.pending.length + 1 by omega]
    exact held
  · rw [show 15 + 4 * e.pending.length = 14 + 4 * e.pending.length + 1 by omega]
    exact pointers
  · rw [show 18 + 4 * e.pending.length + 4 * min 11 e.held.length =
      14 + 4 * e.pending.length + 1 + 4 * min 11 e.held.length + 3 by omega]
    exact mask

end

/-! ### TEST READ, the pages and the training words -/

theorem length_testBytes (r : TestRecord) : r.bytes.length = 18 + 11 * r.checkers.length := by
  have entries := length_flatMap_const length_checkerRecord r.checkers
  simp only [TestRecord.bytes, checkerBytes, stageBytes, le16, le32, List.length_append, List.length_cons, List.length_nil,
    entries]
  omega

theorem testBytes_at (r : TestRecord) :
    fieldsAt r.bytes 0 [some (testStatusCode r.status), some (facesChoiceCode r.faces)]
    ∧ longAt r.bytes 2 r.taps.toNat ∧ longAt r.bytes 6 r.seed.toNat ∧ wordAt r.bytes 10 r.limit ∧ longAt r.bytes 12 r.elapsed
    ∧ fieldsAt r.bytes 16 [r.endCause.map testEndCode] ∧ checkersAt r.bytes 17 r.checkers := by
  have whole := pieceAt_whole r.bytes
  have p6 := pieceAt_left whole
  have p5 := pieceAt_left p6
  have p4 := pieceAt_left p5
  have p3 := pieceAt_left p4
  have p2 := pieceAt_left p3
  exact ⟨fieldsAt_of_pieceAt (fs := [some (testStatusCode r.status), some (facesChoiceCode r.faces)]) (pieceAt_left p2),
    longAt_of_pieceAt (pieceAt_right p2), longAt_of_pieceAt (pieceAt_right p3), wordAt_of_pieceAt (pieceAt_right p4),
    longAt_of_pieceAt (pieceAt_right p5), fieldsAt_of_pieceAt (fs := [_]) (pieceAt_right p6),
    checkersAt_of_pieceAt (pieceAt_right whole)⟩

theorem pageBytes_at (p : Page) : fieldsAt p.bytes 0 [some (pageStateCode p.content), some p.locked.toNat] := by
  have front := pieceAt_left (pieceAt_whole p.bytes)
  rw [boolByte_eq] at front
  exact fieldsAt_of_pieceAt (fs := [some (pageStateCode p.content), some p.locked.toNat]) front

theorem length_covered (w : TrainingWord) : w.covered.length = 3 := by cases w <;> rfl

theorem wordBytes_check (w : TrainingWord) : w.bytes.length = 4 ∧ w.bytes.getD 3 0#8 = crc8 (w.bytes.take 3) := by
  have check : pieceAt w.bytes 3 [crc8 w.covered] := by
    have tail := pieceAt_right (pieceAt_whole w.bytes)
    rwa [length_covered] at tail
  have covered : w.bytes.take 3 = w.covered := by
    rw [TrainingWord.bytes, ← length_covered w, List.take_left]
  refine ⟨?_, ?_⟩
  · rw [TrainingWord.bytes, List.length_append, length_covered]
    rfl
  · rw [covered]
    exact getD_of_pieceAt check

theorem widthCode_listed {width code : Nat} (h : (width, code) ∈ [(1, 0), (2, 1), (4, 2)]) : widthCode width = code := by
  simp only [List.mem_cons, Prod.mk.injEq, List.not_mem_nil, or_false] at h
  rcases h with ⟨rfl, rfl⟩ | ⟨rfl, rfl⟩ | ⟨rfl, rfl⟩ <;> rfl

/-! ### The CRC-8 of R173 -/

theorem crcBit_eq (r : Byte) (x : Bool) :
    crcBit r x = (r <<< 1) ^^^ (if r.getLsbD 7 ≠ x then 0x07#8 else 0#8) := by
  have top : r.msb = r.getLsbD 7 := BitVec.msb_eq_getLsbD_last r
  rw [crcBit, top]
  cases r.getLsbD 7 <;> cases x <;> simp

theorem crc8_snoc (bytes : List Byte) (b : Byte) : crc8 (bytes ++ [b]) =
    (List.range 8).foldl (fun (r : Byte) k =>
      (r <<< 1) ^^^ (if r.getLsbD 7 ≠ b.getLsbD (7 - k) then 0x07#8 else 0#8)) (crc8 bytes) := by
  have bits : [7, 6, 5, 4, 3, 2, 1, 0] = (List.range 8).map (fun k => 7 - k) := rfl
  rw [crc8, List.foldl_append, List.foldl_cons, List.foldl_nil, crcByte, bits, List.foldl_map]
  simp only [crcBit_eq]
  rfl

/-! ### The statement -/

theorem engineBytes_at (e : Engine) :
    fieldsAt e.bytes 0 [some e.running.isSome.toNat]
    ∧ runningAt e.bytes 1 e.running ∧ suspendedAt e.bytes 8 e.suspended
    ∧ fieldsAt e.bytes 13 [some e.pending.length]
    ∧ (∀ (i : Nat) (j : Job), e.pending[i]? = some j → jobAt e.bytes (14 + 4 * i) j)
    ∧ fieldsAt e.bytes (14 + 4 * e.pending.length) [some e.held.length]
    ∧ (∀ (i : Nat) (j : Job), i < 11 → e.held[i]? = some j → jobAt e.bytes (15 + 4 * e.pending.length + 4 * i) j)
    ∧ fieldsAt e.bytes (15 + 4 * e.pending.length + 4 * min 11 e.held.length)
        [some e.urgentPointer.val, some e.routinePointer.val, some e.probePointer.val]
    ∧ wordAt e.bytes (18 + 4 * e.pending.length + 4 * min 11 e.held.length) e.mask.toNat := by
  obtain ⟨present, running, suspended, waiting, jobs, count, held, pointers, mask⟩ := engine_pieces e
  rw [boolByte_eq] at present
  refine ⟨fieldsAt_of_pieceAt (fs := [some e.running.isSome.toNat]) present, runningAt_of_pieceAt running,
    suspendedAt_of_pieceAt suspended, fieldsAt_of_pieceAt (fs := [some e.pending.length]) waiting,
    fun i j hj => jobsAt_of_pieceAt jobs hj, fieldsAt_of_pieceAt (fs := [some e.held.length]) count, fun i j hi hj => ?_,
    fieldsAt_of_pieceAt (fs := [some _, some _, some _]) pointers, wordAt_of_pieceAt mask⟩
  refine jobsAt_of_pieceAt held ?_
  rwa [List.getElem?_take_of_lt hi]

theorem wordBytes_at (w : TrainingWord) : match w with
    | .announce pos width rates attempt =>
      (∀ code : Nat, (width, code) ∈ [(1, 0), (2, 1), (4, 2)] →
        fieldsAt w.bytes 0 [some 1, some (pos.val + 4 * code + 16 * rates.toNat)])
      ∧ fieldsAt w.bytes 2 [some attempt]
    | .answer outcome pre post =>
      fieldsAt w.bytes 0 [some 3, some (match outcome with
        | .applied => 0
        | .atLimit => 1
        | .pinned => 2), some (pre + 16 * post)]
    | .ready => fieldsAt w.bytes 0 [some 4, some 0, some 0]
    | .abort reason => fieldsAt w.bytes 0 [some 5, some (match reason with
        | .reset => 0
        | .giveUp => 1), some 0] := by
  have covered := pieceAt_left (pieceAt_whole w.bytes)
  cases w with
  | announce pos width rates attempt =>
    refine ⟨fun code listed => ?_, fieldsAt_of_pieceAt (fs := [some attempt]) (pieceAt_tail (pieceAt_tail covered))⟩
    have front := pieceAt_left (x := [1#8, byte (pos.val + 4 * widthCode width + 16 * rates.toNat)]) (y := [byte attempt]) covered
    rw [widthCode_listed listed] at front
    exact fieldsAt_of_pieceAt (fs := [some 1, some _]) front
  | answer outcome pre post =>
    cases outcome <;> exact fieldsAt_of_pieceAt (fs := [some 3, some _, some (pre + 16 * post)]) covered
  | ready => exact fieldsAt_of_pieceAt (fs := [some 4, some 0, some 0]) covered
  | abort reason => cases reason <;> exact fieldsAt_of_pieceAt (fs := [some 5, some _, some 0]) covered

/-- Settles O13: each body is a chain of pieces, and each field is read off the piece at its offset. -/
theorem replyBodiesAreLaidOut : Obligations.ReplyBodiesAreLaidOut := by
  refine ⟨codesAsGiven_holds, fun s => ⟨length_mapBytes s, fun p => ⟨mapByte_at s p, pathBytes_at s p⟩, placeBytes_at s,
    widthByte_at s⟩, legBytes_at, faceBytes_at, fun e sev => ?_, fun s high => ⟨rfl, legWireBytes_at s high,
    frameBytes_at s high⟩, fun s l => ⟨slotBytes_at s l, captureBytes_at s l⟩, fun e => ⟨length_engineBytes e,
    engineBytes_at e⟩, fun r => ⟨length_testBytes r, testBytes_at r⟩, fun p => ⟨pageBytes_at p, rfl⟩,
    fun w => ?_, rfl, crc8_snoc, fun r => ⟨length_errorRecord r, errorRecordAt_of_pieceAt (pieceAt_whole _)⟩, noticeAt_bytes⟩
  · obtain ⟨first, next, further⟩ := logBytes_at e sev
    exact ⟨length_errorBytes e sev, first, next, further, settingByte_at e sev, tallyBytes_at e sev⟩
  · obtain ⟨length, check⟩ := wordBytes_check w
    exact ⟨length, check, wordBytes_at w⟩

end Sys2Proof.Machine

/-! Words inside an exchange: the leg and the record they meet (spec/03 R46, R48), and a partner ADJUST (R56, R81). -/

namespace Sys2Proof.Machine

section
variable {s : State} {f : FaceId} {q : Place} {r : TrainRecord}

theorem faceLeg_of_place (h : s.place (facePath f) = some q) : s.faceLeg f = some q.leg := by
  rw [State.faceLeg, State.pathLeg, h]
  rfl

theorem exchange_of_inExchange (h : s.inExchange f q r) : s.exchange f = some (q.leg, r) := by
  obtain ⟨path, place, _, record, _⟩ := h
  unfold State.exchange
  rw [path, faceLeg_of_place place]
  simp only [record, Option.map_some]

end

/-! ### ADJUST -/

theorem adjustOf_eq (post up : Bool) : adjustOf ⟨boolByte post, boolByte (!up), crc8 [2#8, boolByte post, boolByte (!up)]⟩ =
    some (if post then .post else .pre, up) := by
  have bound (x : Bool) : (boolByte x).toNat < 2 := by cases x <;> decide
  have checks : wordChecks ⟨boolByte post, boolByte (!up), crc8 [2#8, boolByte post, boolByte (!up)]⟩ 2#8 = true :=
    beq_self_eq_true _
  unfold adjustOf
  rw [checks, if_pos (by simp only [bound, decide_true, Bool.and_self])]
  cases post <;> cases up <;> rfl

/-- The step is out of range (R81): a tap above its limit, or the two together above theirs, or a tap below 0. -/
def TxHalf.outOfRange (tx : TxHalf) (post up : Bool) : Bool :=
  if up = true then
    (if post = true then decide (14 < tx.post + 1) else decide (10 < tx.pre + 1)) || decide (24 < tx.pre + tx.post + 1)
  else decide ((if post = true then tx.post else tx.pre) = 0)

/-- The half after one step of a tap. -/
def TxHalf.stepped (tx : TxHalf) (post up : Bool) : TxHalf :=
  if post = true then ⟨tx.pre, if up = true then tx.post + 1 else tx.post - 1⟩
  else ⟨if up = true then tx.pre + 1 else tx.pre - 1, tx.post⟩

theorem txStep_eq (tx : TxHalf) (post up : Bool) : tx.step (if post then .post else .pre) up =
    if tx.outOfRange post up = true then none else some (tx.stepped post up) := by
  have negate (c : Prop) [Decidable c] (x : TxHalf) : (if c then some x else none) = if ¬c then none else some x := by
    by_cases h : c <;> simp [h]
  cases post <;> cases up <;> simp only [TxHalf.step, TxHalf.outOfRange, TxHalf.stepped, if_true, if_false,
    Bool.false_eq_true, decide_eq_true_eq]
  · rw [negate]
    congr 1
    simp only [Bool.or_eq_true, decide_eq_true_eq, eq_iff_iff]
    omega
  · rw [negate]
    congr 1
    simp only [Bool.or_eq_true, decide_eq_true_eq, eq_iff_iff]
    omega

/-- Settles O53: the word decodes to the tap and the direction, the face of an exchange takes the step, and the ANSWER carries
the half after it. -/
theorem adjustMovesATapAndIsAnswered : Obligations.AdjustMovesATapAndIsAnswered := by
  unfold Obligations.AdjustMovesATapAndIsAnswered
  intro s f q r post up inside status b1 b2 tx moved out outcome after
  refine ⟨?_, rfl⟩
  have taken : exec (.partnerAdjust f ⟨b1, b2, crc8 [2#8, b1, b2]⟩) s =
      .next (s.takeAdjust f (if post then .post else .pre) up) := by
    show execPartnerAdjust _ _ s = _
    simp only [execPartnerAdjust, b1, b2, adjustOf_eq, exchange_of_inExchange inside, if_neg status]
  have judged : (s.face f).adjust (if post then .post else .pre) up = (outcome, after) := by
    have range : out = tx.outOfRange post up := rfl
    have half : moved = tx.stepped post up := rfl
    rw [Face.adjust, txStep_eq]
    cases pinned : (s.face f).pinned <;> cases bad : tx.outOfRange post up <;>
      simp [after, outcome, pinned, range, bad, half, tx]
  rw [taken]
  simp only [State.takeAdjust, judged]
  rfl

end Sys2Proof.Machine

/-! The checkers of a running test, one face at a time (spec/09 R153), and what a microsecond changes (log entry 1). -/

namespace Sys2Proof.Machine

/-! ### One checker -/

theorem testChecker_modChecker_same (t : TestRecord) (f : FaceId) (g : Checker → Checker) :
    (t.modChecker f g).checkerOf f = (t.checkerOf f).map g := by
  unfold TestRecord.modChecker
  by_cases running : t.status = .running
  · rw [if_pos running, TestRecord.checkerOf, TestRecord.checkerOf, if_pos running, if_pos running]
    dsimp only
    induction t.checkers with
    | nil => rfl
    | cons c cs ih =>
      by_cases same : c.face = f
      · simp [same]
      · simpa [List.find?_cons, same] using ih
  · rw [if_neg running, TestRecord.checkerOf, if_neg running]
    rfl

theorem testChecker_modChecker_other (t : TestRecord) {f k : FaceId} (other : k ≠ f) (g : Checker → Checker) :
    (t.modChecker f g).checkerOf k = t.checkerOf k := by
  unfold TestRecord.modChecker
  by_cases running : t.status = .running
  · rw [if_pos running, TestRecord.checkerOf, TestRecord.checkerOf, if_pos running, if_pos running]
    dsimp only
    induction t.checkers with
    | nil => rfl
    | cons c cs ih =>
      by_cases same : c.face = f
      · have skipped : c.face ≠ k := fun e => other (e.symm.trans same)
        have missed : ¬f = k := fun e => other e.symm
        simpa [List.find?_cons, same, missed] using ih
      · by_cases found : c.face = k
        · simp [found, other]
        · simpa [List.find?_cons, same, found] using ih
  · rw [if_neg running]

/-- A test is as it was, but for the contents of its checkers. -/
def testLike (x y : Option TestRecord) : Prop :=
  match x with
  | none => y = none
  | some r => ∃ cs : List CheckerRecord, cs.map (·.face) = r.checkers.map (·.face) ∧ y = some { r with checkers := cs }

theorem testLike_refl (x : Option TestRecord) : testLike x x := by
  cases x with
  | none => rfl
  | some r => exact ⟨r.checkers, rfl, rfl⟩

theorem testLike_trans {x y z : Option TestRecord} (h : testLike x y) (h' : testLike y z) : testLike x z := by
  cases x with
  | none =>
    cases (show y = none from h)
    exact h'
  | some r =>
    obtain ⟨cs, faces, rfl⟩ := h
    obtain ⟨cs', faces', rfl⟩ := h'
    exact ⟨cs', faces'.trans faces, rfl⟩

theorem testLike_modChecker (t : TestRecord) (f : FaceId) (g : Checker → Checker) :
    testLike (some t) (some (t.modChecker f g)) := by
  unfold TestRecord.modChecker
  split
  · refine ⟨t.checkers.map (fun c => if c.face = f then { c with checker := g c.checker } else c), ?_, rfl⟩
    rw [List.map_map]
    refine List.map_congr_left fun c _ => ?_
    dsimp only [Function.comp]
    split <;> rfl
  · exact testLike_refl _

section
variable (s : State) (f : FaceId) (g : Stages → Checker → Checker)

theorem modChecker_footprint : s.modChecker f g = { s with tests := (s.modChecker f g).tests } := by
  unfold State.modChecker
  split <;> rfl

theorem test_modChecker (l : LegId) : testLike (s.test l) ((s.modChecker f g).test l) := by
  unfold State.modChecker
  split
  · rename_i m _
    by_cases same : l = m
    · subst same
      rw [State.test_setTest]
      cases at_l : s.test l with
      | none => rfl
      | some t => exact testLike_modChecker t f (g t.taps)
    · rw [State.test_setTest_other _ _ _ _ same]
      exact testLike_refl _
  · exact testLike_refl _

variable {s f g}

theorem checkerOf_modChecker {l : LegId} {r : TestRecord} (leg : s.faceLeg f = some l) (test : s.test l = some r) :
    (s.modChecker f g).checkerOf f = (s.checkerOf f).map (g r.taps) := by
  have moved : s.modChecker f g = s.setTest l (some (r.modChecker f (g r.taps))) := by
    rw [State.modChecker, leg]
    simp only [test, Option.map_some]
  have stays : (s.setTest l (some (r.modChecker f (g r.taps)))).faceLeg f = some l := leg
  rw [moved, State.checkerOf, State.checkerOf, stays, leg]
  simp only [State.test_setTest, test, Option.bind_some, testChecker_modChecker_same]

/-- What a change that does not look at the taps makes of the checker. -/
theorem checkerOf_modChecker_const (c : Checker → Checker) :
    (s.modChecker f (fun _ => c)).checkerOf f = (s.checkerOf f).map c := by
  cases leg : s.faceLeg f with
  | none =>
    rw [State.modChecker, leg]
    simp only [State.checkerOf, leg, Option.map_none]
  | some l =>
    cases test : s.test l with
    | some r => exact checkerOf_modChecker leg test
    | none =>
      have kept : (s.modChecker f (fun _ => c)).faceLeg f = some l := by
        rw [modChecker_footprint]
        exact leg
      have still : (s.modChecker f (fun _ => c)).test l = none := by
        have like := test_modChecker s f (fun _ => c) l
        rw [test] at like
        exact like
      simp only [State.checkerOf, kept, still, leg, test, Option.bind_none, Option.map_none]

theorem checkerOf_setTest {l : LegId} {t : Option TestRecord} {k : FaceId} : (s.setTest l t).checkerOf k =
    if s.faceLeg k = some l then t.bind (fun x => x.checkerOf k) else s.checkerOf k := by
  have stays : (s.setTest l t).faceLeg k = s.faceLeg k := rfl
  simp only [State.checkerOf, stays]
  cases at_k : s.faceLeg k with
  | none => rfl
  | some m =>
    by_cases same : m = l
    · subst same
      simp only [State.test_setTest, if_true]
    · simp only [State.test_setTest_other _ _ _ _ same, Option.some.injEq, same, if_false]

theorem checkerOf_modChecker_other {k : FaceId} (other : k ≠ f) : (s.modChecker f g).checkerOf k = s.checkerOf k := by
  unfold State.modChecker
  cases leg : s.faceLeg f with
  | none => rfl
  | some l =>
    dsimp only
    rw [checkerOf_setTest]
    split
    · rename_i at_k
      rw [State.checkerOf, at_k]
      dsimp only
      cases s.test l with
      | none => rfl
      | some r => exact testChecker_modChecker_other r other (g r.taps)
    · rfl

end

/-! ### One face in a microsecond -/

/-- The part of a microsecond that one face's receiver and generator take. -/
def State.tickFace (s : State) (f : FaceId) : State := (s.seekAgain f).runGenerator f

/-- Only checkers and generators may have moved. -/
def State.facesTicked (s t : State) : Prop :=
  t = { s with tests := t.tests, generators := t.generators } ∧ ∀ l : LegId, testLike (s.test l) (t.test l)

theorem facesTicked_refl (s : State) : s.facesTicked s := ⟨rfl, fun _ => testLike_refl _⟩

theorem facesTicked_trans {s t u : State} (h : s.facesTicked t) (h' : t.facesTicked u) : s.facesTicked u := by
  obtain ⟨kept, tests⟩ := h
  obtain ⟨kept', tests'⟩ := h'
  refine ⟨?_, fun l => testLike_trans (tests l) (tests' l)⟩
  rw [kept] at kept'
  exact kept'

section
variable (s : State) (f : FaceId)

theorem facesTicked_seekAgain : s.facesTicked (s.seekAgain f) := by
  unfold State.seekAgain
  split
  · exact ⟨by rw [modChecker_footprint], fun l => test_modChecker s f _ l⟩
  · exact facesTicked_refl s

theorem generators_seekAgain : (s.seekAgain f).generators = s.generators := by
  unfold State.seekAgain
  split
  · rw [modChecker_footprint]
  · rfl

theorem runGenerator_footprint : s.runGenerator f = { s with generators := (s.runGenerator f).generators } := by
  unfold State.runGenerator
  split
  · split <;> rfl
  · rfl

theorem facesTicked_runGenerator : s.facesTicked (s.runGenerator f) := by
  refine ⟨by rw [runGenerator_footprint], fun l => ?_⟩
  rw [runGenerator_footprint]
  exact testLike_refl _

theorem checkerOf_runGenerator (k : FaceId) : (s.runGenerator f).checkerOf k = s.checkerOf k := by
  rw [runGenerator_footprint]
  rfl

theorem generators_runGenerator_other {k : FaceId} (other : k ≠ f) : (s.runGenerator f).generators[k] = s.generators[k] := by
  unfold State.runGenerator
  split
  · split
    · exact modAt_other _ _ _ _ other
    · rfl
  · rfl

theorem facesTicked_tickFace : s.facesTicked (s.tickFace f) :=
  facesTicked_trans (facesTicked_seekAgain s f) (facesTicked_runGenerator _ f)

theorem facesTicked_foldl (fs : List FaceId) : s.facesTicked (fs.foldl State.tickFace s) :=
  foldl_rel facesTicked_refl (fun _ _ _ => facesTicked_trans) facesTicked_tickFace fs s

theorem checkerOf_tickFace_same : (s.tickFace f).checkerOf f =
    (s.checkerOf f).map (fun k => if (s.monitor f).lock = .locked then k.relock else k) := by
  rw [State.tickFace, checkerOf_runGenerator, State.seekAgain]
  split
  · exact checkerOf_modChecker_const Checker.relock
  · simp

theorem checkerOf_tickFace_other {k : FaceId} (other : k ≠ f) : (s.tickFace f).checkerOf k = s.checkerOf k := by
  rw [State.tickFace, checkerOf_runGenerator, State.seekAgain]
  split
  · exact checkerOf_modChecker_other other
  · rfl

theorem generators_tickFace_other {k : FaceId} (other : k ≠ f) : (s.tickFace f).generators[k] = s.generators[k] := by
  rw [State.tickFace, generators_runGenerator_other _ _ other, generators_seekAgain]

variable {s f}

theorem generators_tickFace_same {v : Stages} {l : LegId} {r : TestRecord} {rate : Rate} (runs : s.generators[f] = some v)
    (leg : s.faceLeg f = some l) (test : s.test l = some r) (agreed : (s.leg l).agreedRate = some rate) :
    (s.tickFace f).generators[f] = some (patternSteps r.taps (bitsPerMicrosecond rate) v) := by
  obtain ⟨kept, tests⟩ := facesTicked_seekAgain s f
  have like := tests l
  rw [test] at like
  obtain ⟨cs, _, test'⟩ := like
  have runs' : (s.seekAgain f).generators[f] = some v := by rw [generators_seekAgain, runs]
  have leg' : (s.seekAgain f).faceLeg f = some l := by
    rw [kept]
    exact leg
  have agreed' : ((s.seekAgain f).leg l).agreedRate = some rate := by
    rw [kept]
    exact agreed
  rw [State.tickFace, State.runGenerator, runs', leg']
  simp only [test', agreed']
  exact modAt_same _ _ _

end

/-! ### All faces in a microsecond -/

theorem mem_allFaces (f : FaceId) : f ∈ allFaces := by revert f; decide

section
variable (s : State) (f : FaceId)

theorem foldl_tickFace_absent {fs : List FaceId} (absent : f ∉ fs) :
    (fs.foldl State.tickFace s).checkerOf f = s.checkerOf f ∧ (fs.foldl State.tickFace s).generators[f] = s.generators[f] := by
  induction fs generalizing s with
  | nil => exact ⟨rfl, rfl⟩
  | cons g gs ih =>
    rw [List.mem_cons, not_or] at absent
    obtain ⟨other, absent⟩ := absent
    obtain ⟨checker, generator⟩ := ih (s.tickFace g) absent
    exact ⟨checker.trans (checkerOf_tickFace_other s g other), generator.trans (generators_tickFace_other s g other)⟩

/-- A face's own part is taken on a state in which nothing of it has moved, and nothing of it moves after. -/
theorem foldl_tickFace_at : ∃ u : State, s.facesTicked u ∧ u.checkerOf f = s.checkerOf f ∧ u.generators[f] = s.generators[f]
    ∧ (allFaces.foldl State.tickFace s).checkerOf f = (u.tickFace f).checkerOf f
    ∧ (allFaces.foldl State.tickFace s).generators[f] = (u.tickFace f).generators[f] := by
  have nodup : allFaces.Nodup := by decide
  obtain ⟨front, back, split⟩ := List.append_of_mem (mem_allFaces f)
  rw [split] at nodup
  have disjoint := List.nodup_append.mp nodup
  have absentFront : f ∉ front := fun h => disjoint.2.2 f h f List.mem_cons_self rfl
  have absentBack : f ∉ back := (List.nodup_cons.mp disjoint.2.1).1
  obtain ⟨checker, generator⟩ := foldl_tickFace_absent s f absentFront
  have after := foldl_tickFace_absent ((front.foldl State.tickFace s).tickFace f) f absentBack
  refine ⟨front.foldl State.tickFace s, facesTicked_foldl s front, checker, generator, ?_⟩
  rw [split, List.foldl_append, List.foldl_cons]
  exact after

theorem checkerOf_allTicked : (allFaces.foldl State.tickFace s).checkerOf f =
    (s.checkerOf f).map (fun k => if (s.monitor f).lock = .locked then k.relock else k) := by
  obtain ⟨u, ⟨kept, _⟩, checker, _, after, _⟩ := foldl_tickFace_at s f
  have monitor : u.monitor f = s.monitor f := by rw [kept]; rfl
  rw [after, checkerOf_tickFace_same, checker, monitor]

variable {s f}

theorem generators_allTicked {v : Stages} {l : LegId} {r : TestRecord} {rate : Rate} (runs : s.generators[f] = some v)
    (leg : s.faceLeg f = some l) (test : s.test l = some r) (agreed : (s.leg l).agreedRate = some rate) :
    (allFaces.foldl State.tickFace s).generators[f] = some (patternSteps r.taps (bitsPerMicrosecond rate) v) := by
  obtain ⟨u, ⟨kept, tests⟩, _, generator, _, after⟩ := foldl_tickFace_at s f
  have like := tests l
  rw [test] at like
  obtain ⟨cs, _, test'⟩ := like
  have leg' : u.faceLeg f = some l := by
    rw [kept]
    exact leg
  have agreed' : (u.leg l).agreedRate = some rate := by
    rw [kept]
    exact agreed
  rw [after, generators_tickFace_same (generator.trans runs) leg' test' agreed']

end

end Sys2Proof.Machine

/-! What a step does when no command waits: one microsecond (log entry 1). -/

namespace Sys2Proof.Machine

/-! ### What falls due -/

section
variable (s : State) (l : LegId) (f : FaceId) (i : Instr)

theorem filter_due {x : Filter} {w : WireId} : x.due w = true ↔ x.wireLow ≠ x.asserted ∧ filterTime w ≤ x.stable := by
  simp [Filter.due, bne_iff_ne]

theorem mem_dueTimers : i ∈ s.dueTimers l ↔
    (i = .holdTimerExpiry l ∧ (s.leg l).holdTimer = some 0) ∨ (i = .trainingLimitExpiry l ∧ (s.leg l).limitTimer = some 0)
    ∨ (i = .trimTimerExpiry l ∧ (s.leg l).trimTimer = some 0)
    ∨ (i = .testLimitExpiry l ∧ ∃ r : TestRecord, s.test l = some r ∧ r.status = .running ∧ r.limitTimer = some 0) := by
  have single (c : Prop) [Decidable c] (j : Instr) : i ∈ (if c then [j] else []) ↔ i = j ∧ c := by
    by_cases h : c <;> simp [h]
  simp only [State.dueTimers, List.mem_append, single, Option.any_eq_true, Bool.and_eq_true, beq_iff_eq]
  tauto

/-- A filter that settles at its wire's level, of whichever level. -/
theorem filter_settles {x : Filter} {w : WireId} {g : Bool → Instr} : (x.due w = true ∧ i = g x.wireLow) ↔
    (i = g true ∧ x.settlesAt true (filterTime w)) ∨ (i = g false ∧ x.settlesAt false (filterTime w)) := by
  rw [filter_due]
  obtain ⟨low, asserted, stable⟩ := x
  cases low <;> simp only [Filter.settlesAt] <;> cases asserted <;> simp [and_comm]

theorem mem_dueFilters : i ∈ s.dueFilters l ↔
    ((i = .presenceRise l ∧ (s.wiresOf l).present.settlesAt true 10000)
      ∨ (i = .presenceFall l ∧ (s.wiresOf l).present.settlesAt false 10000))
    ∨ ((i = .alertRise l ∧ (s.wiresOf l).alert.settlesAt true 1000)
      ∨ (i = .alertFall l ∧ (s.wiresOf l).alert.settlesAt false 1000))
    ∨ (i = .wakeChange l ∧ (s.wiresOf l).wake.settlesAt true 1000)
      ∨ (i = .wakeChange l ∧ (s.wiresOf l).wake.settlesAt false 1000) := by
  have single (c : Prop) [Decidable c] (j : Instr) : (if c then some j else none) = some i ↔ c ∧ i = j := by
    by_cases h : c <;> simp [h, eq_comm]
  have present := filter_settles i (x := (s.wiresOf l).present) (w := .present) (g := filterEvent l .present)
  have alert := filter_settles i (x := (s.wiresOf l).alert) (w := .alert) (g := filterEvent l .alert)
  have wake := filter_settles i (x := (s.wiresOf l).wake) (w := .wake) (g := filterEvent l .wake)
  refine Iff.trans ?_ (or_congr present (or_congr alert wake))
  simp only [State.dueFilters, List.mem_filterMap, single, List.mem_cons, List.not_mem_nil, or_false, or_and_right, exists_or,
    exists_eq_left]
  exact Iff.rfl

theorem dueAnnounce_iff : s.dueAnnounce f = true ↔ s.path (facePath f) = .training ∧ (s.face f).status = .announced
    ∧ ∃ (l : LegId) (r : TrainRecord), s.faceLeg f = some l ∧ (s.leg l).record = some r
        ∧ setHas r.partnerAnnounced f.val = false := by
  unfold State.dueAnnounce State.exchange
  cases path : s.path (facePath f) <;> cases leg : s.faceLeg f <;> simp
  rename_i l
  cases record : (s.leg l).record <;> simp

theorem mem_dueFrame : i ∈ s.dueFrame ↔
    (i = .frameGoodEnd ∧ s.frame.state = .sending ∧ ∃ x : Snapshot, s.frame.snapshot = some x ∧ frameMicros x.plan ≤ s.frame.elapsed)
    ∨ (i = .frameStart ∧ s.frame.state = .idle ∧ s.frame.gap = 0
      ∧ (s.frame.mode = .continuous ∨ s.frame.changePending = true ∨ s.frame.startWanted = true)) := by
  unfold State.dueFrame FrameEngine.callsForFrame
  cases state : s.frame.state <;> cases shot : s.frame.snapshot <;> simp
  all_goals tauto

end

theorem mem_perLeg {i : Instr} {d : LegId → List Instr} : i ∈ allLegs.flatMap d ↔ ∃ l : LegId, i ∈ d l := by
  simp only [List.mem_flatMap, mem_allLegs, true_and]

theorem mem_perFace {i : Instr} {c : FaceId → Bool} {g : FaceId → Instr} :
    i ∈ (allFaces.filter c).map g ↔ ∃ f : FaceId, c f = true ∧ i = g f := by
  simp only [List.mem_map, List.mem_filter, mem_allFaces, true_and, eq_comm]

/-- What has fallen due in a state, at a millisecond or between two. -/
def State.due (s : State) (ms : Prop) (i : Instr) : Prop :=
  (ms ∧ ((∃ l : LegId, i ∈ s.dueTimers l) ∨ (∃ f : FaceId, s.dueWindow f = true ∧ i = .slipWindowEnd f)
    ∨ ∃ f : FaceId, s.dueAnnounce f = true ∧ i = .announceRepeat f))
  ∨ (∃ l : LegId, i ∈ s.dueFilters l) ∨ i ∈ s.dueFrame

theorem fallsDue_of_due {s : State} {ms : Prop} {i : Instr} (h : s.due ms i) : s.fallsDue ms i := by
  simp only [State.due, mem_dueTimers, mem_dueFilters, mem_dueFrame, dueAnnounce_iff, State.dueWindow, Bool.and_eq_true,
    bne_iff_ne, beq_iff_eq] at h
  rcases h with ⟨at_ms, ⟨l, timer⟩ | ⟨f, window, rfl⟩ | ⟨f, repeats, rfl⟩⟩ | ⟨l, filter⟩ | frame
  · rcases timer with ⟨rfl, out⟩ | ⟨rfl, out⟩ | ⟨rfl, out⟩ | ⟨rfl, out⟩ <;> exact ⟨at_ms, out⟩
  · exact ⟨at_ms, window⟩
  · exact ⟨at_ms, repeats⟩
  · rcases filter with present | alert | wake
    · rcases present with ⟨rfl, settles⟩ | ⟨rfl, settles⟩ <;> exact settles
    · rcases alert with ⟨rfl, settles⟩ | ⟨rfl, settles⟩ <;> exact settles
    · rcases wake with ⟨rfl, settles⟩ | ⟨rfl, settles⟩ <;> exact ⟨_, settles⟩
  · rcases frame with ⟨rfl, ends⟩ | ⟨rfl, starts⟩
    · exact ends
    · exact starts

theorem due_of_fallsDue {s : State} {ms : Prop} {i : Instr} (h : s.fallsDue ms i) : s.due ms i := by
  simp only [State.due, mem_dueTimers, mem_dueFilters, mem_dueFrame, dueAnnounce_iff, State.dueWindow, Bool.and_eq_true,
    bne_iff_ne, beq_iff_eq]
  unfold State.fallsDue at h
  split at h
  case h_1 l => exact .inl ⟨h.1, .inl ⟨l, .inl ⟨rfl, h.2⟩⟩⟩
  case h_2 l => exact .inl ⟨h.1, .inl ⟨l, .inr (.inl ⟨rfl, h.2⟩)⟩⟩
  case h_3 l => exact .inl ⟨h.1, .inl ⟨l, .inr (.inr (.inl ⟨rfl, h.2⟩))⟩⟩
  case h_4 l => exact .inl ⟨h.1, .inl ⟨l, .inr (.inr (.inr ⟨rfl, h.2⟩))⟩⟩
  case h_5 f => exact .inl ⟨h.1, .inr (.inl ⟨f, h.2, rfl⟩)⟩
  case h_6 f => exact .inl ⟨h.1, .inr (.inr ⟨f, h.2, rfl⟩)⟩
  case h_7 l => exact .inr (.inl ⟨l, .inl (.inl ⟨rfl, h⟩)⟩)
  case h_8 l => exact .inr (.inl ⟨l, .inl (.inr ⟨rfl, h⟩)⟩)
  case h_9 l => exact .inr (.inl ⟨l, .inr (.inl (.inl ⟨rfl, h⟩))⟩)
  case h_10 l => exact .inr (.inl ⟨l, .inr (.inl (.inr ⟨rfl, h⟩))⟩)
  case h_11 l =>
    obtain ⟨low, settles⟩ := h
    refine .inr (.inl ⟨l, .inr (.inr ?_)⟩)
    cases low
    · exact .inr ⟨rfl, settles⟩
    · exact .inl ⟨rfl, settles⟩
  case h_12 => exact .inr (.inr (.inl ⟨rfl, h⟩))
  case h_13 => exact .inr (.inr (.inr ⟨rfl, h⟩))
  case h_14 => exact h.elim

theorem due_iff {s : State} {ms : Prop} {i : Instr} : s.due ms i ↔ s.fallsDue ms i := ⟨fallsDue_of_due, due_of_fallsDue⟩

/-! ### The state after a microsecond -/

section
variable (s : State)

/-- A microsecond's work that is not a face's: the frame engine's and the filters' time. -/
def State.tickWires (s : State) : State := { s with frame := s.frame.tick, wires := s.wires.map LegWires.tick }

theorem tickMicro_eq : s.tickMicro = allFaces.foldl State.tickFace s.tickWires := rfl

theorem facesTicked_tickMicro : s.tickWires.facesTicked s.tickMicro := facesTicked_foldl _ _

/-- The state after a tick, but for the queue: at a millisecond the counters run, else the microseconds grow. -/
def State.ticked (s : State) : State :=
  if s.clock.micros + 1 < 1000 then { s.tickMicro with clock := { s.clock with micros := s.clock.micros + 1 } }
  else s.tickMicro.tickMs

theorem clock_tickMicro : s.tickMicro.clock = s.clock := (congrArg State.clock (facesTicked_tickMicro s).1 :)
theorem pending_tickMicro : s.tickMicro.pending = s.pending := (congrArg State.pending (facesTicked_tickMicro s).1 :)

theorem tick_footprint : s.tick = { s.ticked with pending := s.tick.pending } := by
  have clock := clock_tickMicro s
  unfold State.tick State.ticked
  generalize s.tickMicro = u at clock ⊢
  rw [← clock]
  by_cases between : u.clock.micros + 1 < 1000
  · simp only [if_neg (show ¬(u.clock.micros + 1 ≥ 1000) by omega), if_pos between]
  · simp only [if_pos (show u.clock.micros + 1 ≥ 1000 by omega), if_neg between]

theorem due_queueless (p : List Instr) (ms : Prop) (i : Instr) : ({ s with pending := p } : State).due ms i ↔ s.due ms i :=
  Iff.rfl

theorem mem_pending_tick (empty : s.pending = []) (i : Instr) :
    i ∈ s.tick.pending ↔ s.tick.fallsDue (¬(s.clock.micros + 1 < 1000)) i := by
  have clock := clock_tickMicro s
  have queue := (pending_tickMicro s).trans empty
  rw [← due_iff, tick_footprint, due_queueless]
  unfold State.tick State.ticked
  generalize s.tickMicro = u at clock queue ⊢
  rw [← clock]
  by_cases between : u.clock.micros + 1 < 1000
  · simp only [if_neg (show ¬(u.clock.micros + 1 ≥ 1000) by omega), if_true, queue, List.nil_append, List.mem_append,
      mem_perLeg, State.due, not_true, false_and, false_or, between]
    exact Iff.rfl
  · have queueMs : u.tickMs.pending = [] := queue
    simp only [if_pos (show u.clock.micros + 1 ≥ 1000 by omega), if_false, queueMs, List.nil_append, List.mem_append,
      mem_perLeg, mem_perFace, State.due, State.dueMs, not_false_eq_true, true_and, between, or_assoc]
    exact or_congr_right (or_congr_right or_left_comm)

/-! What a millisecond counts. -/

theorem leg_tickMs (l : LegId) : s.tickMs.leg l = (s.leg l).tickMs := by simp [State.leg, State.tickMs]
theorem monitor_tickMs (f : FaceId) : s.tickMs.monitor f = (s.monitor f).tickMs := by simp [State.monitor, State.tickMs]
theorem test_tickMs (l : LegId) : s.tickMs.test l = (s.test l).map TestRecord.tickMs := by simp [State.test, State.tickMs]

theorem testChecker_tickMs (r : TestRecord) (f : FaceId) : r.tickMs.checkerOf f = r.checkerOf f := by
  unfold TestRecord.tickMs
  split <;> rfl

theorem checkerOf_tickMs (f : FaceId) : s.tickMs.checkerOf f = s.checkerOf f := by
  have leg : s.tickMs.faceLeg f = s.faceLeg f := rfl
  simp only [State.checkerOf, leg, test_tickMs]
  cases s.faceLeg f with
  | none => rfl
  | some l =>
    dsimp only
    cases s.test l with
    | none => rfl
    | some r => exact testChecker_tickMs r f

theorem wiresOf_tickWires (l : LegId) : s.tickWires.wiresOf l = (s.wiresOf l).tick := by
  simp [State.wiresOf, State.tickWires]

end

theorem frameTick_eq (x : FrameEngine) : x.tick =
    let bit := match x.plan.bit with
      | .us1 => 1
      | .us2 => 2
      | .us4 => 4
    if x.state = .sending then { x with elapsed := x.elapsed + 1 }
    else if x.state = .idle ∧ 0 < x.gap then
      (if x.bitPhase + 1 < bit then { x with bitPhase := x.bitPhase + 1 }
       else { x with gap := x.gap - 1, bitPhase := 0 })
    else x := by
  have bits : (match x.plan.bit with
    | .us1 => 1
    | .us2 => 2
    | .us4 => 4) = bitMicros x.plan.bit := by cases x.plan.bit <;> rfl
  rw [bits]
  unfold FrameEngine.tick
  cases state : x.state with
  | idle =>
    by_cases gap : x.gap = 0
    · simp [gap]
    · by_cases phase : x.bitPhase + 1 < bitMicros x.plan.bit
      · simp [gap, Nat.pos_of_ne_zero gap, phase, Nat.not_le.mpr phase]
      · simp [gap, Nat.pos_of_ne_zero gap, phase, Nat.not_lt.mp phase]
  | sending => simp
  | disabled => simp
  | halted => simp

theorem relocked_eq (locked : Prop) [Decidable locked] (k : Checker) : (if locked then k.relock else k) =
    if k.state = .lost ∧ locked then { k with state := .seeking, history := 0#31, gathered := 0, run := 0 } else k := by
  by_cases h : locked <;> cases state : k.state <;> simp [h, Checker.relock, Checker.seek, state]

theorem testTicked_of_like {x y : Option TestRecord} {r : TestRecord} (like : testLike x y) (at_x : x = some r) :
    ∃ cs : List CheckerRecord, cs.map (·.face) = r.checkers.map (·.face) ∧ y = some { r with checkers := cs } := by
  rw [at_x] at like
  exact like

/-- Settles O2: a tick is a microsecond of the filters, the frame engine and each face, and at a millisecond a count of each
timer; the queue then holds what falls due. -/
theorem idleStepIsOneMicrosecond : Obligations.IdleStepIsOneMicrosecond := by
  unfold Obligations.IdleStepIsOneMicrosecond
  intro s empty ms
  have stepped : step s = .next s.tick := by simp only [step, empty]
  have queue := mem_pending_tick s empty
  refine ⟨s.tick, stepped, ?_⟩
  obtain ⟨kept, tests⟩ := facesTicked_tickMicro s
  have wires (l : LegId) : s.tickMicro.wiresOf l = (s.wiresOf l).tick :=
    (congrArg (fun v : Vector LegWires 4 => v[l]) (congrArg State.wires kept)).trans (wiresOf_tickWires s l)
  have checkers (f : FaceId) : s.tickMicro.checkerOf f = (s.checkerOf f).map (fun k =>
      if k.state = .lost ∧ (s.monitor f).lock = .locked
      then { k with state := .seeking, history := 0#31, gathered := 0, run := 0 } else k) := by
    rw [tickMicro_eq, checkerOf_allTicked]
    simp only [relocked_eq]
    rfl
  have generators {f : FaceId} {l : LegId} {r : TestRecord} {rate : Rate} {v : Stages} :
      s.generators[f] = some v → s.faceLeg f = some l → s.test l = some r → (s.leg l).agreedRate = some rate →
      s.tickMicro.generators[f] = some (patternSteps r.taps (bitsPerMicrosecond rate) v) := fun runs leg test agreed =>
    generators_allTicked (s := s.tickWires) runs leg test agreed
  have frame : s.tickMicro.frame = s.frame.tick := congrArg State.frame kept
  rw [frameTick_eq] at frame
  have none_kept (l : LegId) (absent : s.test l = none) : s.tickMicro.test l = none := by
    have like := tests l
    rw [show s.tickWires.test l = s.test l from rfl, absent] at like
    exact like
  have moved (l : LegId) (r : TestRecord) (test : s.test l = some r) := testTicked_of_like (tests l) (show _ = some r from test)
  rw [tick_footprint] at queue ⊢
  unfold State.ticked at queue ⊢
  generalize s.tickMicro = u at *
  generalize s.tick.pending = p at *
  obtain ⟨T, G, shape⟩ : ∃ T G, u = { s.tickWires with tests := T, generators := G } := ⟨_, _, kept⟩
  subst shape
  by_cases between : s.clock.micros + 1 < 1000
  · simp only [ms, between, if_true, if_false, not_true, and_false] at queue ⊢
    exact ⟨trivial, trivial, trivial, trivial, rfl, rfl, rfl, rfl, rfl, rfl, rfl, rfl, rfl, rfl, rfl, rfl, rfl, rfl, rfl, fun _ => rfl,
      fun _ => rfl, wires, frame, none_kept, moved, checkers, fun f l r rate v => generators, queue⟩
  · simp only [ms, between, if_false, not_false_eq_true, and_true] at queue ⊢
    refine ⟨rfl, rfl, rfl, rfl, rfl, rfl, rfl, rfl, rfl, rfl, rfl, rfl, rfl, rfl, rfl, rfl, rfl, rfl, rfl, leg_tickMs _,
      monitor_tickMs _, wires, frame, fun l absent => ?_, fun l r test => ?_, fun f => ?_, fun f l r rate v => generators, queue⟩
    · exact (test_tickMs _ l).trans (congrArg _ (none_kept l absent))
    · obtain ⟨cs, same, at_l⟩ := moved l r test
      refine ⟨cs, same, (test_tickMs _ l).trans ((congrArg _ at_l).trans ?_)⟩
      simp only [Option.map_some, TestRecord.tickMs]
      split <;> rfl
    · exact (checkerOf_tickMs _ f).trans (checkers f)

end Sys2Proof.Machine

/-! The load image (spec/10 R4, R71, R159): what a page's record gives each of its fields. -/

namespace Sys2Proof.Machine

/-! ### What a decoded field says of its byte -/

section
variable {bs : List Byte} {i : Nat}

theorem rangeAt_some {lo hi n : Nat} (h : rangeAt lo hi bs i = some n) : n = byteAt bs i := by
  unfold rangeAt at h
  split at h
  · exact (Option.some.inj h).symm
  · cases h

theorem widthAt_some {n : Nat} (h : widthAt bs i = some n) : n = byteAt bs i := by
  unfold widthAt at h
  split at h
  · exact (Option.some.inj h).symm
  · cases h

theorem flagAt_some {b : Bool} (h : flagAt bs i = some b) : b = true ↔ byteAt bs i = 1 := by
  unfold flagAt at h
  split at h
  · rename_i byte
    cases h
    simp [byte]
  · rename_i byte
    cases h
    simp [byte]
  · cases h

theorem rateAt_some {r : Rate} (h : rateAt bs i = some r) : rateIndex r = byteAt bs i := by
  unfold rateAt at h
  split at h
  case h_4 => cases h
  all_goals
    rename_i byte
    cases h
    exact byte.symm

theorem slotPlanAt_some {p : SlotPlan} (h : slotPlanAt bs i = some p) : slotPlanCode p = byteAt bs i := by
  unfold slotPlanAt at h
  split at h
  case h_3 => cases h
  all_goals
    rename_i byte
    cases h
    exact byte.symm

theorem bitTimeAt_some {b : BitTime} (h : bitTimeAt bs i = some b) : bitTimeCode b = byteAt bs i := by
  unfold bitTimeAt at h
  split at h
  case h_4 => cases h
  all_goals
    rename_i byte
    cases h
    exact byte.symm

theorem startWidthAt_some {w : StartWidth} (h : startWidthAt bs i = some w) : startWidthCode w = byteAt bs i := by
  unfold startWidthAt at h
  split at h
  case h_4 => cases h
  all_goals
    rename_i byte
    cases h
    exact byte.symm

theorem modeAt_some {m : FrameMode} (h : modeAt bs i = some m) : modeCode m = byteAt bs i := by
  unfold modeAt at h
  split at h
  case h_3 => cases h
  all_goals
    rename_i byte
    cases h
    exact byte.symm

/-! ### Records of several fields -/

/-- The parameters of a leg are the bytes from an offset on. -/
def LegDefaults.readFrom (d : LegDefaults) (bs : List Byte) (i : Nat) : Prop :=
  rateIndex d.targetRate = byteAt bs i ∧ d.minimumWidth = byteAt bs (i + 1) ∧ d.retryBudget = byteAt bs (i + 2)
  ∧ d.trainingLimit = byteAt bs (i + 3) ∧ d.holdMinimum = byteAt bs (i + 4) ∧ d.trimInterval = byteAt bs (i + 5)
  ∧ d.marginFloor = byteAt bs (i + 6) ∧ d.slipLimit = byteAt bs (i + 7)

theorem legParamsAt_some {enabled : Bool} {d : LegDefaults} (h : legParamsAt enabled bs i = some d) :
    d.enabled = enabled ∧ d.readFrom bs i := by
  simp only [legParamsAt, Option.bind_eq_bind, Option.bind_eq_some_iff, Option.pure_def, Option.some.injEq] at h
  obtain ⟨rate, hrate, minimum, hminimum, budget, hbudget, limit, hlimit, hold, hhold, trim, htrim, floor, hfloor, slips,
    hslips, rfl⟩ := h
  exact ⟨rfl, rateAt_some hrate, widthAt_some hminimum, rangeAt_some hbudget, rangeAt_some hlimit, rangeAt_some hhold,
    rangeAt_some htrim, rangeAt_some hfloor, rangeAt_some hslips⟩

theorem framePlanAt_some {p : FramePlan} (h : framePlanAt bs i = some p) : slotPlanCode p.slots = byteAt bs i
    ∧ bitTimeCode p.bit = byteAt bs (i + 1) ∧ startWidthCode p.start = byteAt bs (i + 2) := by
  simp only [framePlanAt, Option.bind_eq_bind, Option.bind_eq_some_iff, Option.pure_def, Option.some.injEq] at h
  obtain ⟨slots, hslots, bit, hbit, start, hstart, rfl⟩ := h
  exact ⟨slotPlanAt_some hslots, bitTimeAt_some hbit, startWidthAt_some hstart⟩

theorem legDefaultsAt_some {d : LegDefaults} {k : Nat} (h : legDefaultsAt bs k = some d) :
    (d.enabled = true ↔ byteAt bs (9 * k) = 1) ∧ d.readFrom bs (9 * k + 1) := by
  unfold legDefaultsAt at h
  split at h
  · rename_i enabled flag
    obtain ⟨rfl, fields⟩ := legParamsAt_some h
    exact ⟨flagAt_some flag, fields⟩
  · cases h

/-- A set whose fields fit meets the limit on pre and post by itself (R69). -/
theorem validPreset_fits {k : Nat} (h : setFits bs (6 * k)) : validPreset bs k = some
    ⟨⟨byteAt bs (6 * k), byteAt bs (6 * k + 1)⟩,
      ⟨byteAt bs (6 * k + 2), byteAt bs (6 * k + 3), signedAt bs (6 * k + 4), signedAt bs (6 * k + 5)⟩⟩ := by
  obtain ⟨⟨_, pre⟩, ⟨_, post⟩, ⟨_, peaking⟩, ⟨_, gain⟩, dfe1, dfe1', dfe2, dfe2'⟩ := h
  have total : byteAt bs (6 * k) + byteAt bs (6 * k + 1) ≤ 24 := by omega
  simp [validPreset, presetAt, eqSetAt, EqSet.valid, pre, post, peaking, gain, dfe1, dfe1', dfe2, dfe2', total]

theorem validPreset_unfit {k : Nat} (h : ¬setFits bs (6 * k)) : validPreset bs k = none := by
  have none : presetAt bs k = none := Option.not_isSome_iff_eq_none.mp fun some => h ((isSome_eqSetAt _ _).mp some)
  rw [validPreset, none]

/-! ### The CABLE record -/

theorem planEntryAt_of_pieceAt {p : Option Place} (h : pieceAt bs i (placeBytes p)) : planEntryAt bs i = some p := by
  cases p with
  | none =>
    have unused : byteAt bs i = 0xFF := byteAt_of_pieceAt (pieceAt_head h)
    have zero : byteAt bs (i + 1) = ((0 : Fin 4) : Fin 4).val := byteAt_of_pieceAt (x := 0#8) (pieceAt_tail h)
    simp only [planEntryAt, finAt_of zero, unused, if_true]
  | some q =>
    have small : q.leg.val % 256 = q.leg.val := Nat.mod_eq_of_lt (by omega)
    have small' : q.pos.val % 256 = q.pos.val := Nat.mod_eq_of_lt (by omega)
    have leg : byteAt bs i = q.leg.val := (byteAt_of_pieceAt (pieceAt_head h)).trans ((BitVec.toNat_ofNat _ _).trans small)
    have pos : byteAt bs (i + 1) = q.pos.val := (byteAt_of_pieceAt (pieceAt_tail h)).trans ((BitVec.toNat_ofNat _ _).trans small')
    have used : ¬q.leg.val = 255 := by omega
    simp only [planEntryAt, finAt_of pos, finAt_of leg, leg, used, if_false, Option.map_some]

theorem vector8_get {α : Type} (v : Vector α 8) (g : Nat → α) (h : ∀ k (hk : k < 8), g k = v[k]) : vector8 g = v :=
  Vector.ext fun k hk => by rw [getElem_vector8, h k hk]

theorem planAt_of_pieceAt {plan : Vector (Option Place) 8} (h : pieceAt bs i (plan.toList.flatMap placeBytes)) :
    planAt bs i = some plan := by
  have entry (k : Nat) (hk : k < 8) : planEntryAt bs (i + 2 * k) = some plan[k] :=
    planEntryAt_of_pieceAt (pieceAt_entry length_placeBytes h (getElem?_toList plan ⟨k, hk⟩))
  have decodes : allDecode 8 (fun k => planEntryAt bs (i + 2 * k)) = true :=
    (allDecode_iff _ _).mpr fun k hk => by rw [entry k hk]; rfl
  rw [planAt, if_pos decodes, vector8_get plan _ fun k hk => by rw [entry k hk]; rfl]

theorem mapAt_of_pieceAt {map : Vector (Option Lane) 8} (h : pieceAt bs i (map.toList.map mapByte)) :
    mapAt bs i = some map := by
  have entry (k : Nat) (hk : k < 8) : mapEntryAt bs (i + k) = some map[k] :=
    mapEntryAt_of (getD_of_pieceAt (pieceAt_byte h (getElem?_toList map ⟨k, hk⟩)))
  have decodes : allDecode 8 (fun k => mapEntryAt bs (i + k)) = true :=
    (allDecode_iff _ _).mpr fun k hk => by rw [entry k hk]; rfl
  rw [mapAt, if_pos decodes, vector8_get map _ fun k hk => by rw [entry k hk]; rfl]

end

theorem cableOf_bytes {name : List Byte} {plan : Vector (Option Place) 8} {map : Vector (Option Lane) 8}
    (h : name.length = 19) : cableOf (.written (name ++ plan.toList.flatMap placeBytes ++ map.toList.map mapByte)) =
      if mapValid map plan then some (plan, map) else none := by
  have whole := pieceAt_whole (name ++ plan.toList.flatMap placeBytes ++ map.toList.map mapByte)
  have planPart := pieceAt_right (pieceAt_left whole)
  have mapPart := pieceAt_right whole
  have places := length_flatMap_const length_placeBytes plan.toList
  rw [h, Nat.zero_add] at planPart
  rw [List.length_append, h, places, Vector.length_toList, Nat.zero_add] at mapPart
  simp only [cableOf, planAt_of_pieceAt planPart, mapAt_of_pieceAt mapPart]

/-- Whatever the CABLE page gives, plan and map meet R5 together (R4). -/
theorem loadImage_valid (pages : Vector Page 4) : mapValid (loadImage pages).map (loadImage pages).plan = true := by
  have given (content : PageContent) : mapValid ((cableOf content).getD (defaultPlan, defaultMap)).2
      ((cableOf content).getD (defaultPlan, defaultMap)).1 = true := by
    have default : mapValid defaultMap defaultPlan = true := by decide +kernel
    unfold cableOf
    split
    · split
      · split
        · rename_i valid
          exact valid
        · exact default
      · exact default
    all_goals exact default
  exact given pages[0].content

theorem getElem_fourOf {α : Type} (g : Nat → α) (l : LegId) : (fourOf g)[l] = g l.val := by
  unfold fourOf
  fin_cases l <;> rfl

theorem presetsOf_empty {content : PageContent} (h : content = .blank ∨ content = .torn) (f : FaceId) :
    (presetsOf content)[f] = factoryPreset := by
  rcases h with rfl | rfl <;> exact Vector.getElem_replicate f.isLt

theorem legsOf_empty {content : PageContent} (h : content = .blank ∨ content = .torn) (l : LegId) :
    (legsOf content)[l] = factoryLeg := by
  rcases h with rfl | rfl <;> exact Vector.getElem_replicate l.isLt

theorem presetsOf_written (r : List Byte) (f : FaceId) :
    (presetsOf (.written r))[f] = (validPreset r f.val).getD factoryPreset := getElem_vector16 _ f

theorem legsOf_written (r : List Byte) (l : LegId) : (legsOf (.written r))[l] = (legDefaultsAt r l.val).getD factoryLeg :=
  getElem_fourOf _ l

/-- The load image takes each field from its page (R159). -/
theorem imageFrom_loadImage (pages : Vector Page 4) : imageFrom pages (loadImage pages) := by
  dsimp only [imageFrom]
  have presets : (loadImage pages).presets = presetsOf pages[(1 : PageId)].content := rfl
  have legs : (loadImage pages).legs = legsOf pages[(2 : PageId)].content := rfl
  have plan : (loadImage pages).plan = ((cableOf pages[(0 : PageId)].content).getD (defaultPlan, defaultMap)).1 := rfl
  have map : (loadImage pages).map = ((cableOf pages[(0 : PageId)].content).getD (defaultPlan, defaultMap)).2 := rfl
  have framePlan : (loadImage pages).framePlan = (frameOf pages[(2 : PageId)].content).1 := rfl
  have mode : (loadImage pages).mode = (frameOf pages[(2 : PageId)].content).2.1 := rfl
  have enable : (loadImage pages).enable = (frameOf pages[(2 : PageId)].content).2.2 := rfl
  refine ⟨fun empty => ?noCable, fun name p m hname written => ?cable, fun empty f => ?noPresets, fun r f written => ?presets,
    fun empty => ?noDefaults, fun r written => ⟨fun l flag params => ?legs, fun fits => ?framePlan, fun fits => ?mode,
    fun fits => ?enable⟩⟩
  case noCable => rw [plan, map]; rcases empty with h | h <;> rw [h] <;> exact ⟨rfl, rfl⟩
  case cable =>
    rw [plan, map, written, cableOf_bytes hname]
    split <;> exact ⟨rfl, rfl⟩
  case noPresets => rw [presets]; exact presetsOf_empty empty f
  case presets =>
    rw [presets, written, presetsOf_written]
    exact ⟨fun fits => by rw [validPreset_fits fits]; rfl, fun unfit => by rw [validPreset_unfit unfit]; rfl⟩
  case noDefaults =>
    rw [framePlan, mode, enable, legs]
    refine ⟨?_, ?_, ?_, legsOf_empty empty⟩ <;> rcases empty with h | h <;> rw [h] <;> rfl
  case legs =>
    obtain ⟨d, hd⟩ := Option.isSome_iff_exists.mp ((isSome_legDefaultsAt r l.val).mpr ⟨flag, params⟩)
    have same : (loadImage pages).legs[l] = d := by rw [legs, written, legsOf_written, hd]; rfl
    rw [same]
    exact legDefaultsAt_some hd
  case framePlan =>
    obtain ⟨p, hp⟩ := Option.isSome_iff_exists.mp ((isSome_framePlanAt r 36).mpr fits)
    have same : (loadImage pages).framePlan = p := by rw [framePlan, written, frameOf, hp]; rfl
    rw [same]
    exact framePlanAt_some hp
  case mode =>
    obtain ⟨m, hm⟩ := Option.isSome_iff_exists.mp ((isSome_modeAt r 39).mpr fits)
    have same : (loadImage pages).mode = m := by rw [mode, written, frameOf, hm]; rfl
    rw [same]
    exact modeAt_some hm
  case enable =>
    obtain ⟨b, hb⟩ := Option.isSome_iff_exists.mp ((isSome_flagAt r 40).mpr fits)
    have same : (loadImage pages).enable = b := by rw [enable, written, frameOf, hb]; rfl
    rw [same]
    exact flagAt_some hb

end Sys2Proof.Machine

/-! The resets of the whole part (spec/11 R172). -/

namespace Sys2Proof.Machine

/-! ### The store's faults (R159) -/

theorem mem_storeFaults (pages : Vector Page 4) (d : Nat) : d ∈ storeFaults pages ↔
    (∃ p : PageId, pages[p].content = .torn ∧ d = p.val)
    ∨ (d = 0 ∧ (∃ r : List Byte, pages[(0 : PageId)].content = .written r) ∧ cableOf pages[(0 : PageId)].content = none)
    ∨ (d = 1 ∧ ∃ (r : List Byte) (k : Nat), pages[(1 : PageId)].content = .written r ∧ k < 16 ∧ validPreset r k = none) := by
  have every (p : PageId) : p ∈ allPages := by revert p; decide
  have written (x : PageContent) : x.isWritten = true ↔ ∃ r : List Byte, x = .written r := by
    cases x <;> simp [PageContent.isWritten]
  have fails (x : PageContent) : presetsFail x = true ↔
      ∃ (r : List Byte) (k : Nat), x = .written r ∧ k < 16 ∧ validPreset r k = none := by
    cases x with
    | written r =>
      simp only [presetsFail, Bool.not_eq_true', ← Bool.not_eq_true, allDecode_iff, not_forall, Option.not_isSome_iff_eq_none,
        PageContent.written.injEq, exists_prop]
      exact ⟨fun ⟨k, hk, bad⟩ => ⟨r, k, rfl, hk, bad⟩, fun ⟨_, k, e, hk, bad⟩ => ⟨k, hk, e ▸ bad⟩⟩
    | blank => simp [presetsFail]
    | torn => simp [presetsFail]
  have single (c : Prop) [Decidable c] (n : Nat) : d ∈ (if c then [n] else []) ↔ d = n ∧ c := by
    by_cases h : c <;> simp [h]
  have torn : d ∈ (allPages.filter (fun p => pages[p].content == .torn)).map (·.val) ↔
      ∃ p : PageId, pages[p].content = .torn ∧ d = p.val := by
    simp only [List.mem_map, List.mem_filter, every, true_and, beq_iff_eq, eq_comm (b := d)]
  rw [storeFaults, List.mem_append, List.mem_append, torn, single, single, Bool.and_eq_true, Option.isNone_iff_eq_none,
    or_assoc]
  exact or_congr_right (or_congr (and_congr_right fun _ => and_congr_left fun _ => written _)
    (and_congr_right fun _ => fails _))

theorem page_interrupt (x : Store) (p : PageId) : x.interrupt.pages[p] =
    match x.operation with
    | .idle => x.pages[p]
    | .erasing q | .writing q _ => if p = q then ⟨.torn, x.pages[p].locked⟩ else x.pages[p] := by
  have torn (q : PageId) : (modAt x.pages q (fun page => { page with content := .torn }))[p] =
      if p = q then ⟨.torn, x.pages[p].locked⟩ else x.pages[p] := by
    split
    · rename_i same
      rw [same, modAt_same]
    · rename_i other
      exact modAt_other _ _ _ _ other
  unfold Store.interrupt
  cases operation : x.operation with
  | idle => rfl
  | erasing q => exact torn q
  | writing q r => exact torn q

theorem operation_interrupt (x : Store) : x.interrupt.operation = .idle := by
  unfold Store.interrupt
  cases operation : x.operation with
  | idle => exact operation
  | erasing q => rfl
  | writing q r => rfl

/-! ### The reports of a reset -/

/-- The record of a STORE FAULT taken as a reset takes it (R123, R159). -/
def State.faultRecord (s : State) (d : Nat) : ErrorRecord :=
  ⟨.storeFault, .critical, none, none, none, none, none, s.clock.stamp, s.clock.epoch, some d⟩

/-- The state once the faults have joined the CRITICAL log (R124, R125). -/
def State.faulted (s : State) (ds : List Nat) : State :=
  { s with
    errors := { s.errors with critical := ds.foldl (fun g d => g.add (s.faultRecord d)) s.errors.critical }
    notices := match s.errors.critical.first, ds with
      | none, d :: _ => s.notices.take (.error s.clock.stamp .critical (s.faultRecord d))
      | _, _ => s.notices }

/-- A fault is reported by an error unit at rest, with every kind as R122 sets it. -/
theorem report_fault {s : State} (rest : s.tableAtRest) (settings : s.errors.settings = defaultSettings) (d : Nat) :
    s.report (s.partReport .storeFault (some d)) = s.faulted [d] := by
  have on : s.errors.settings[kindIndex (s.partReport .storeFault (some d)).kind] = ⟨true, .critical⟩ := by
    rw [settings]
    rfl
  have taken : s.takeReport (s.partReport .storeFault (some d)) = (s.noted (s.partReport .storeFault (some d)), none) :=
    takeReport_uncounted (by rw [on]) fun l h => by cases h.1
  rw [report_eq rest (fun l h => by cases h), taken]
  dsimp only
  rw [State.noted, on]
  unfold State.errorNotice State.faulted
  cases first : s.errors.critical.first with
  | none => simp [Report.toRecord, State.partReport, State.logReport, ErrorUnit.setLog, ErrorUnit.log, first,
      State.raiseNotice, State.faultRecord, State.stamp]
  | some x => simp [Report.toRecord, State.partReport, State.logReport, ErrorUnit.setLog, ErrorUnit.log, first,
      State.faultRecord, State.stamp]

theorem first_add (g : Log) (x : ErrorRecord) : (g.add x).first ≠ none := by
  unfold Log.add
  cases first : g.first <;> simp

theorem faulted_logged {s : State} (h : s.errors.critical.first ≠ none) (ds : List Nat) : s.faulted ds =
    { s with errors := { s.errors with critical := ds.foldl (fun g d => g.add (s.faultRecord d)) s.errors.critical } } := by
  unfold State.faulted
  cases first : s.errors.critical.first with
  | none => exact absurd first h
  | some x => rfl

theorem faulted_cons (s : State) (d : Nat) (ds : List Nat) : (s.faulted [d]).faulted ds = s.faulted (d :: ds) := by
  rw [faulted_logged (first_add _ _)]
  unfold State.faulted
  cases first : s.errors.critical.first <;> rfl

theorem report_faults {s : State} (rest : s.tableAtRest) (settings : s.errors.settings = defaultSettings) (ds : List Nat) :
    ds.foldl (fun s d => s.report (s.partReport .storeFault (some d))) s = s.faulted ds := by
  induction ds generalizing s with
  | nil =>
    rw [List.foldl_nil]
    unfold State.faulted
    cases s.errors.critical.first <;> rfl
  | cons d ds ih =>
    rw [List.foldl_cons, report_fault rest settings, ih (s := s.faulted [d]) rest settings, faulted_cons]

/-! ### The state after a reset -/

/-- The state once the load image's values are in force, before the frame that starts at once. -/
def State.loaded (s : State) (c : ResetCause) (strap : BitVec 2) : State :=
  ((s.beginReset c strap).faulted (storeFaults s.store.interrupt.pages)).loadBlocks (loadImage s.store.interrupt.pages)

theorem resetPart_eq (s : State) (c : ResetCause) (strap : BitVec 2) : s.resetPart c strap =
    if (loadImage s.store.interrupt.pages).enable = true then (s.loaded c strap).startFrame else s.loaded c strap := by
  have settings : (s.beginReset c strap).errors.settings = defaultSettings := by cases c <;> rfl
  have reports := report_faults (s := s.beginReset c strap) rfl settings (storeFaults s.store.interrupt.pages)
  have pages : (s.beginReset c strap).store.pages = s.store.interrupt.pages := rfl
  simp only [State.resetPart, pages, reports]
  rfl

theorem resetPart_footprint (s : State) (c : ResetCause) (strap : BitVec 2) :
    s.resetPart c strap = { s.loaded c strap with frame := (s.resetPart c strap).frame } := by
  rw [resetPart_eq]
  split <;> rfl

theorem frame_resetPart (s : State) (c : ResetCause) (strap : BitVec 2) :
    let x := (s.resetPart c strap).frame
    let i := loadImage s.store.interrupt.pages
    (x.state = if x.enableRequest then .sending else .disabled) ∧ x.plan = i.framePlan ∧ x.mode = i.mode
    ∧ x.enableRequest = i.enable ∧ x.modeRequest = i.mode ∧ x.haltRequest = false ∧ x.startWanted = false
    ∧ x.changePending = false ∧ x.lastSent = Vector.replicate 4 0#5 := by
  have enable : (s.loaded c strap).frame.enableRequest = (loadImage s.store.interrupt.pages).enable := rfl
  rw [resetPart_eq]
  by_cases on : (loadImage s.store.interrupt.pages).enable = true
  · rw [if_pos on]
    exact ⟨(if_pos (enable.trans on)).symm, rfl, rfl, rfl, rfl, rfl, rfl, rfl, rfl⟩
  · rw [if_neg on]
    exact ⟨(if_neg fun h => on (enable.symm.trans h)).symm, rfl, rfl, rfl, rfl, rfl, rfl, rfl, rfl⟩

section
variable (s : State) (c : ResetCause) (strap : BitVec 2)

theorem leg_loaded (l : LegId) : (s.loaded c strap).leg l = legAfterReset (loadImage s.store.interrupt.pages) l := by
  fin_cases l <;> rfl

theorem path_loaded (p : PathId) : (s.loaded c strap).path p = pathAfterReset (loadImage s.store.interrupt.pages) p := by
  fin_cases p <;> rfl

theorem face_loaded (f : FaceId) :
    (s.loaded c strap).face f = freshFace (loadImage s.store.interrupt.pages).presets[f] := by
  simp [State.face, State.loaded, State.loadBlocks]

theorem monitor_loaded (f : FaceId) : (s.loaded c strap).monitor f = idleMonitor 16 := by
  simp [State.monitor, State.loaded, State.loadBlocks]

theorem wiresOf_loaded (l : LegId) : (s.loaded c strap).wiresOf l = (s.wiresOf l).afterReset := by
  have wires : (s.loaded c strap).wires = s.wires.map LegWires.afterReset := rfl
  simp [State.wiresOf, wires]

theorem slot_loaded (l : LegId) (j : SlotId) : (s.loaded c strap).slot l j = emptySlot := by
  simp [State.slot, State.loaded, State.loadBlocks]

theorem test_loaded (l : LegId) : (s.loaded c strap).test l = none := by
  simp [State.test, State.loaded, State.loadBlocks]

theorem generators_loaded (f : FaceId) : (s.loaded c strap).generators[f] = none := by
  simp [State.loaded, State.loadBlocks]

theorem state_legAfterReset (i : Image) (l : LegId) : (legAfterReset i l).state =
    if (legAfterReset i l).enabled = false ∨ (legAfterReset i l).configuredWidth = 0 then .off else .absent := by
  have state : (legAfterReset i l).state = if !(i.legs[l]).enabled || widthIn i.map i.plan l == 0 then .off else .absent := rfl
  have enabled : (legAfterReset i l).enabled = (i.legs[l]).enabled := rfl
  have width : (legAfterReset i l).configuredWidth = widthIn i.map i.plan l := rfl
  rw [state, enabled, width]
  simp only [Bool.or_eq_true, Bool.not_eq_true', beq_iff_eq]

theorem take_emptyQueue (st : Stamp) (sev : Severity) (r : ErrorRecord) :
    (⟨[], 0#6, 0⟩ : NoticeQueue).take (.error st sev r) = ⟨[.error st sev r], 0#6, 0⟩ := by
  simp [NoticeQueue.take, setHas]

theorem notices_loaded : (s.loaded c strap).notices =
    ⟨(match (s.errors.afterReset c).critical.first, storeFaults s.store.interrupt.pages with
      | none, d :: _ => [.error (s.clock.afterReset c).stamp .critical
          ⟨.storeFault, .critical, none, none, none, none, none, (s.clock.afterReset c).stamp, (s.clock.afterReset c).epoch,
            some d⟩]
      | _, _ => []), 0#6, 0⟩ := by
  have notices : (s.loaded c strap).notices = ((s.beginReset c strap).faulted (storeFaults s.store.interrupt.pages)).notices :=
    rfl
  have log : (s.beginReset c strap).errors.critical.first = (s.errors.afterReset c).critical.first := rfl
  rw [notices, ← log]
  unfold State.faulted
  cases (s.beginReset c strap).errors.critical.first with
  | some x => rfl
  | none =>
    cases storeFaults s.store.interrupt.pages with
    | nil => rfl
    | cons d ds => exact take_emptyQueue _ _ _

/-- Every reset brings the part up. -/
theorem comesUp_resetPart : State.comesUp s (s.resetPart c strap) strap (s.errors.afterReset c).critical := by
  have frame := frame_resetPart s c strap
  rw [resetPart_footprint]
  generalize (s.resetPart c strap).frame = x at frame
  refine ⟨rfl, rfl, rfl, rfl, rfl, rfl, rfl, operation_interrupt _, page_interrupt s.store, rfl, imageFrom_loadImage _,
    mem_storeFaults _, rfl, ?notices, ?settings, ?tallies, rfl, rfl, loadImage_valid _, ?paths, ?faces, ?legs, frame⟩
  case notices => exact notices_loaded s c strap
  case settings => cases c <;> rfl
  case tallies => cases c <;> rfl
  case paths =>
    intro p
    refine (path_loaded s c strap p).trans ?_
    change pathAfterReset (loadImage s.store.interrupt.pages) p = if placeIn (loadImage s.store.interrupt.pages).map
      (loadImage s.store.interrupt.pages).plan p = none then .unmapped else .parked
    rw [pathAfterReset]
    cases placeIn (loadImage s.store.interrupt.pages).map (loadImage s.store.interrupt.pages).plan p <;> rfl
  case faces =>
    exact fun f => ⟨face_loaded s c strap f, congrArg Monitor.signal (monitor_loaded s c strap f),
      congrArg Monitor.lock (monitor_loaded s c strap f), congrArg Monitor.slips (monitor_loaded s c strap f),
      generators_loaded s c strap f⟩
  case legs =>
    intro l
    have wires := wiresOf_loaded s c strap l
    have leg : ({ s.loaded c strap with frame := x } : State).leg l = legAfterReset (loadImage s.store.interrupt.pages) l :=
      leg_loaded s c strap l
    have state := state_legAfterReset (loadImage s.store.interrupt.pages) l
    have held : (legAfterReset (loadImage s.store.interrupt.pages) l).state ≠ .held := by
      rw [state]
      split <;> decide
    dsimp only
    rw [State.holdAsserted, leg]
    exact ⟨rfl, rfl, rfl, rfl, rfl, rfl, rfl, rfl, rfl, rfl, state, rfl, rfl, rfl, rfl, rfl, rfl, rfl, rfl, rfl, rfl, rfl, rfl,
      rfl, test_loaded s c strap l, beq_eq_false_iff_ne.mpr held, wires, slot_loaded s c strap l⟩

theorem clock_resetPart : (s.resetPart c strap).clock = s.clock.afterReset c := by
  rw [resetPart_footprint]
  rfl

theorem logs_resetPart : (s.resetPart c strap).errors.major = (s.errors.afterReset c).major
    ∧ (s.resetPart c strap).errors.minor = (s.errors.afterReset c).minor := by
  rw [resetPart_footprint]
  exact ⟨rfl, rfl⟩

end

/-- Settles O7: the three resets are one, which begins, reports the store's faults and takes the load image's values. -/
theorem resetsBringThePartUp : Obligations.ResetsBringThePartUp := by
  unfold Obligations.ResetsBringThePartUp
  intro s strap
  refine ⟨⟨_, rfl, comesUp_resetPart s .power strap, clock_resetPart s .power strap, logs_resetPart s .power strap⟩,
    ⟨_, rfl, comesUp_resetPart s .pin strap, clock_resetPart s .pin strap, logs_resetPart s .pin strap⟩,
    fun tr ext held pending => ?_⟩
  obtain ⟨reply, held⟩ : ∃ reply, s.port.state = .replyHeld reply := by
    cases state : s.port.state with
    | replyHeld reply => exact ⟨reply, rfl⟩
    | ready => rw [state] at held; cases held
    | working w => rw [state] at held; cases held
  refine ⟨_, exec_partResetExecute held pending tr strap ext, ?_⟩
  have read : ∃ d : List Byte, (if tr = .read then { s with readData := reply } else s) = { s with readData := d } := by
    split
    · exact ⟨reply, rfl⟩
    · exact ⟨s.readData, rfl⟩
  obtain ⟨d, read⟩ := read
  rw [read]
  have up := comesUp_resetPart { s with readData := d } (if ext then .pin else .request) strap
  have clock := clock_resetPart { s with readData := d } (if ext then .pin else .request) strap
  have logs := logs_resetPart { s with readData := d } (if ext then .pin else .request) strap
  cases ext
  · exact ⟨up, clock, logs⟩
  · exact ⟨up, clock, logs⟩

end Sys2Proof.Machine

/-! The lane monitors (spec/06 R107 to R111): signal, lock, slips and their windows, and the delivery of a burst. -/

namespace Sys2Proof.Machine

/-! ### The error unit and the rest of the state -/

section
variable (s : State) (r : Report)

theorem noted_footprint : s.noted r = { s with errors := (s.noted r).errors, notices := (s.noted r).notices } := by
  unfold State.noted State.errorNotice
  dsimp only
  split <;> rfl

section
variable {s r} {u : State} (errors : u.errors = s.errors) (notices : u.notices = s.notices) (clock : u.clock = s.clock)
include errors notices clock

theorem noted_of_same : u.noted r = { u with errors := (s.noted r).errors, notices := (s.noted r).notices } := by
  have sameErrors : (u.noted r).errors = (s.noted r).errors := by simp only [errors_noted, errors, clock]
  have sameNotices : (u.noted r).notices = (s.noted r).notices := by simp only [notices_noted, errors, notices, clock]
  rw [← sameErrors, ← sameNotices]
  exact noted_footprint u r

/-- The error unit's taking looks at errors, notices and clock alone. -/
theorem takeReport_of_same : (u.takeReport r).1 =
    { u with errors := (s.takeReport r).1.errors, notices := (s.takeReport r).1.notices } := by
  have noted := noted_of_same (r := r) errors notices clock
  have counts (l : LegId) : u.counts r l ↔ s.counts r l := by
    simp only [State.counts, State.tally, errors]
  have same : u.errors.settings[kindIndex r.kind] = s.errors.settings[kindIndex r.kind] := by rw [errors]
  cases on : (s.errors.settings[kindIndex r.kind]).enable with
  | false =>
    rw [takeReport_off on, takeReport_off ((congrArg KindSetting.enable same).trans on), ← errors, ← notices]
  | true =>
    have on' := (congrArg KindSetting.enable same).trans on
    by_cases counted : ∃ l : LegId, s.counts r l
    · obtain ⟨l, counted⟩ := counted
      rw [takeReport_counted on counted, takeReport_counted on' ((counts l).mpr counted), noted]
      rfl
    · have uncounted (l : LegId) : ¬s.counts r l := fun h => counted ⟨l, h⟩
      rw [takeReport_uncounted on uncounted, takeReport_uncounted on' fun l h => uncounted l ((counts l).mp h), noted]

end

theorem errors_afterReports_cons (rs : List Report) : s.afterReports (r :: rs) = (s.takeReport r).1.afterReports rs := rfl

end

theorem afterReports_footprint (s : State) (rs : List Report) : s.afterReports rs =
    { s with errors := (s.afterReports rs).errors, notices := (s.afterReports rs).notices } := by
  induction rs generalizing s with
  | nil => rfl
  | cons r rs ih =>
    have step := ih (s.takeReport r).1
    rw [← errors_afterReports_cons] at step
    rw [takeReport_footprint] at step
    exact step

/-- The state with other reports in flight. -/
def State.withFlight (s : State) (fs : List Report) : State := { s with inFlight := fs }

theorem takeReport_withFlight (s : State) (r : Report) (fs : List Report) :
    ((s.withFlight fs).takeReport r).1 = (s.takeReport r).1.withFlight fs :=
  (takeReport_of_same (s := s) (u := s.withFlight fs) rfl rfl rfl).trans (congrArg (State.withFlight · fs) (takeReport_footprint s r)).symm

theorem afterReports_withFlight (s : State) (rs fs : List Report) :
    (s.withFlight fs).afterReports rs = (s.afterReports rs).withFlight fs := by
  induction rs generalizing s with
  | nil => rfl
  | cons r rs ih => rw [errors_afterReports_cons, takeReport_withFlight, ih, errors_afterReports_cons]

/-! ### Reports in flight that fire nothing -/

/-- Reports in flight of which each is taken by the error unit and nothing more, up to one at which the round stops. -/
theorem handUntil_taken {stop : Report → Bool} {xs ys : List Report} {s : State} {n : Nat} (rest : s.tableAtRest)
    (flight : s.inFlight = xs ++ ys) (go : ∀ x ∈ xs, stop x = false)
    (each : ∀ x ∈ xs, ∀ u : State, u.tableAtRest → u.slots = s.slots → u.handOver x = (u.takeReport x).1)
    (stops : ∀ (r : Report) (more : List Report), ys = r :: more → stop r = true) (hn : xs.length < n) :
    s.handUntil stop n = (s.afterReports xs).withFlight ys := by
  induction xs generalizing s n with
  | nil =>
    rw [List.nil_append] at flight
    have same : (s.afterReports []).withFlight ys = s := by rw [← flight]; rfl
    rw [same]
    cases n with
    | zero => rfl
    | succ n =>
      unfold State.handUntil
      split
      · rename_i r more at_head
        rw [if_pos (stops r more (flight.symm.trans at_head))]
      · rfl
  | cons x xs ih =>
    obtain ⟨m, rfl⟩ : ∃ m, n = m + 1 := ⟨n - 1, by simp at hn; omega⟩
    have head : s.inFlight = x :: (xs ++ ys) := flight
    have footprint := takeReport_footprint (s.withFlight (xs ++ ys)) x
    have taken := each x List.mem_cons_self (s.withFlight (xs ++ ys)) rest rfl
    have next : s.handUntil stop (m + 1) = ((s.withFlight (xs ++ ys)).handOver x).handUntil stop m :=
      handUntil_next m head (go x List.mem_cons_self)
    rw [next, taken, ih]
    · rw [takeReport_withFlight, afterReports_withFlight, errors_afterReports_cons]
      rfl
    · rw [footprint]
      exact rest
    · rw [footprint]
      rfl
    · exact fun y hy => go y (List.mem_cons_of_mem _ hy)
    · intro y hy u at_rest slots
      rw [footprint] at slots
      exact each y (List.mem_cons_of_mem _ hy) u at_rest slots
    · simp at hn
      omega

/-- A burst whose leg has no slot on it or on a threshold goes to the error unit alone. -/
theorem handOver_burst {u : State} {r : Report} {l : LegId} (kind : r.kind = .slipBurst) (leg : r.leg = some l)
    (rest : u.tableAtRest) (threshold : u.noSlotOn l .tallyThreshold) (burst : u.noSlotOn l .slipBurst) :
    u.handOver r = (u.takeReport r).1 := by
  have handed : u.handOver r = u.handSlipBurst r := by
    unfold State.handOver
    rw [kind]
  have only (k : LegId) (hk : r.leg = some k) : u.noSlotOn k .tallyThreshold := by
    rw [leg] at hk
    injection hk with hk
    rwa [← hk]
  have footprint := takeReport_footprint u r
  rw [handed, State.handSlipBurst, report_eq rest only, leg]
  exact tableTake_eq (by rw [footprint]; exact rest) (by rw [footprint]; exact burst)

/-- A report of another block whose leg has no slot on a threshold goes to the error unit alone. -/
theorem handOver_taken {u : State} {r : Report} (other : r.ofMonitor = false) (rest : u.tableAtRest)
    (threshold : ∀ k : LegId, u.noSlotOn k .tallyThreshold) : u.handOver r = (u.takeReport r).1 := by
  rw [handOver_other other]
  exact report_eq rest fun k _ => threshold k

theorem noSlotOn_of_slots {s u : State} {l : LegId} {src : Source} (slots : u.slots = s.slots) (h : s.noSlotOn l src) :
    u.noSlotOn l src := by
  intro j
  have same : u.slot l j = s.slot l j := by simp only [State.slot, slots]
  rw [same]
  exact h j

/-- The delivery of the only report in flight leaves none. -/
theorem deliverReport_only {s : State} {r : Report} {f : FaceId} (flight : s.inFlight = [r]) (face : r.face = some f) :
    s.deliverReport r.kind f = s.handFlight := by
  obtain ⟨_, more, inFlight, none⟩ := takingKept_handOver { s with inFlight := [] } r
  have empty : (State.handOver { s with inFlight := [] } r).inFlight = [] := by rw [inFlight, none rfl]; rfl
  have rounds : s.handRounds = 31 + 1 := by rw [State.handRounds, flight]; rfl
  rw [deliverReport_next flight rfl face, State.handWaiting, handUntil_nil _ empty, State.handFlight, rounds,
    handUntil_next _ flight rfl, handUntil_nil _ empty]

/-! ### One monitor -/

section
variable {s : State} {f : FaceId}

theorem slip_eq {d : Delivery} (hd : d ≠ .delivered) : exec (.slip ⟨f, d⟩) s =
    .next (if (s.monitor f).lock ≠ .locked then s
      else if (s.monitor f).slips = (s.monitor f).windowLimit ∧ (s.monitor f).burstRaised = false then
        (if d = .now then (s.modMonitor f (fun m => { m.countSlip with burstRaised := true })).handNow (s.burstReport f)
         else (s.modMonitor f (fun m => { m.countSlip with burstRaised := true })).raiseReport (s.burstReport f))
      else s.modMonitor f Monitor.countSlip) := by
  have bursts : (s.monitor f).bursts = true ↔
      (s.monitor f).slips = (s.monitor f).windowLimit ∧ (s.monitor f).burstRaised = false := by
    simp [Monitor.bursts]
  show execSlip _ s = _
  simp only [execSlip, bursts]
  cases d with
  | delivered => exact absurd rfl hd
  | now => rfl
  | raised => rfl

theorem burstReport_eq {l : LegId} (leg : s.faceLeg f = some l) :
    s.burstReport f = s.errorAtFace l .slipBurst f (some (min 65535 ((s.monitor f).slips + 1))) := by
  simp only [State.burstReport, State.faceReport, leg]
  rfl

theorem burst_now {l : LegId} (empty : s.inFlight = []) (rest : s.tableAtRest) (threshold : s.noSlotOn l .tallyThreshold)
    (burst : s.noSlotOn l .slipBurst) (leg : s.faceLeg f = some l) (g : Monitor → Monitor) :
    (s.modMonitor f g).handNow (s.burstReport f) = (s.takeReport (s.burstReport f)).1.modMonitor f g := by
  have taken := handOver_burst (u := s.modMonitor f g) (r := s.burstReport f) rfl leg rest threshold burst
  have footprint := takeReport_footprint s (s.burstReport f)
  rw [handNow_empty (s := s.modMonitor f g) empty, taken, takeReport_of_same (s := s) (u := s.modMonitor f g) rfl rfl rfl]
  exact (congrArg (State.modMonitor · f g) footprint).symm

end

theorem relock_eq (k : Checker) : k.relock =
    if k.state = .lost then { k with state := .seeking, history := 0#31, gathered := 0, run := 0 } else k := by
  have relocked := relocked_eq True k
  simp only [if_true, and_true] at relocked
  exact relocked

theorem lockAcquired_eq {s : State} {f : FaceId} (present : (s.monitor f).signal = .present)
    (unlocked : (s.monitor f).lock = .unlocked) : ∃ t, exec (.lockAcquired f) s = .next t
      ∧ t.monitor f = { s.monitor f with lock := .locked } ∧ (∀ g : FaceId, g ≠ f → t.monitor g = s.monitor g)
      ∧ t.checkerOf f = (s.checkerOf f).map (fun k =>
          if k.state = .lost then { k with state := .seeking, history := 0#31, gathered := 0, run := 0 } else k)
      ∧ t.legs = s.legs ∧ t.paths = s.paths ∧ t.errors = s.errors ∧ t.notices = s.notices := by
  have acquired : exec (.lockAcquired f) s =
      .next ((s.modMonitor f (fun m => { m with lock := .locked })).modChecker f (fun _ k => k.relock)) :=
    congrArg _ (if_pos ⟨present, unlocked⟩)
  have checker := checkerOf_modChecker_const (s := s.modMonitor f (fun m => { m with lock := .locked })) (f := f) Checker.relock
  refine ⟨_, acquired, ?_⟩
  rw [checker, modChecker_footprint]
  refine ⟨State.monitor_modMonitor s f _, fun g hg => State.monitor_modMonitor_other s f g _ hg, ?_, rfl, rfl, rfl, rfl⟩
  exact congrArg (Option.map · _) (funext relock_eq)

/-- A burst that is raised and not delivered waits behind what is in flight. -/
theorem raise_burst (s : State) (f : FaceId) : (s.modMonitor f (fun m => { m.countSlip with burstRaised := true })).raiseReport
    (s.burstReport f) = { s.modMonitor f (fun m => { m.countSlip with burstRaised := true }) with
      inFlight := s.inFlight ++ [s.burstReport f] } := rfl

/-- The earliest report is a burst that fires no slot, and the ones behind it are other blocks' (R126; log entry 38). -/
theorem deliver_burst {s : State} {f : FaceId} {l : LegId} {raised : Report} {xs ys : List Report}
    (flight : s.inFlight = raised :: xs ++ ys) (kind : raised.kind = .slipBurst) (face : raised.face = some f)
    (leg : raised.leg = some l) (rest : s.tableAtRest) (threshold : s.noSlotOn l .tallyThreshold)
    (burst : s.noSlotOn l .slipBurst) (next : monitorNext ys) (others : ∀ x ∈ xs, x.ofMonitor = false)
    (each : ∀ x ∈ xs, ∀ u : State, u.tableAtRest → u.slots = s.slots → u.handOver x = (u.takeReport x).1) :
    exec (.slip ⟨f, .delivered⟩) s = .next ((s.afterReports (raised :: xs)).withFlight ys)
    ∧ (ys = [] → s.handFlight = (s.afterReports (raised :: xs)).withFlight ys) := by
  have first : ∀ u : State, u.tableAtRest → u.slots = s.slots → u.handOver raised = (u.takeReport raised).1 :=
    fun u at_rest slots => handOver_burst kind leg at_rest (noSlotOn_of_slots slots threshold) (noSlotOn_of_slots slots burst)
  constructor
  · have footprint := takeReport_footprint (s.withFlight (xs ++ ys)) raised
    have delivered : s.deliverReport .slipBurst f = ((s.withFlight (xs ++ ys)).handOver raised).handWaiting :=
      deliverReport_next flight kind face
    have handed := first (s.withFlight (xs ++ ys)) rest rfl
    have waiting : ((s.withFlight (xs ++ ys)).takeReport raised).1.inFlight = xs ++ ys := by rw [footprint]; rfl
    have behind := handUntil_taken (stop := Report.ofMonitor) (s := ((s.withFlight (xs ++ ys)).takeReport raised).1)
      (n := State.handRounds ((s.withFlight (xs ++ ys)).takeReport raised).1) (by rw [footprint]; exact rest) waiting others
      (fun x hx u at_rest slots => each x hx u at_rest (by rw [slots, footprint]; rfl))
      (fun r more e => (ofMonitor_iff r).mpr (next r more e))
      (by rw [State.handRounds, waiting, List.length_append]; omega)
    show Host.Outcome.next (s.deliverReport .slipBurst f) = _
    rw [delivered, handed, State.handWaiting, behind, takeReport_withFlight, afterReports_withFlight,
      ← errors_afterReports_cons]
    rfl
  · intro none
    subst none
    rw [List.append_nil] at flight
    refine handUntil_taken rest (by rw [flight, List.append_nil]) (fun _ _ => rfl) (fun x hx => ?_)
      (fun r more e => by cases e) (by rw [State.handRounds, flight]; omega)
    rcases List.mem_cons.mp hx with rfl | hx
    · exact first
    · exact each x hx

/-- Settles O56: each command changes one monitor, and a burst that fires no slot is taken by the error unit alone. -/
theorem monitorsFollowTheReceiver : Obligations.MonitorsFollowTheReceiver := by
  unfold Obligations.MonitorsFollowTheReceiver
  intro s f m
  refine ⟨⟨fun lost => congrArg _ (if_pos lost), fun other => congrArg _ (if_neg other)⟩,
    ⟨lockAcquired_eq, fun other => congrArg _ (if_neg (not_and_or.mpr other))⟩,
    fun d hd => ⟨fun unlocked => ?unlocked, fun locked counts => ?counts⟩, fun l locked limit fresh leg => ?burst,
    fun raised xs ys l flight kind face leg rest threshold burst next => ⟨fun alone => ?alone, fun others thresholds => ?behind⟩,
    fun raised flight face => ⟨fun kind => ?_, fun kind => ?_, fun kind => ?_⟩, handFlight_nil, fun other => ?none,
    fun idle => congrArg _ (if_pos idle), fun l watched leg => ?window⟩
  case unlocked => rw [slip_eq hd, if_pos unlocked]
  case counts =>
    have quiet : ¬((s.monitor f).slips = (s.monitor f).windowLimit ∧ (s.monitor f).burstRaised = false) := by
      rintro ⟨limit, fresh⟩
      rcases counts with h | h
      · exact h limit
      · exact Bool.false_ne_true (fresh.symm.trans h)
    rw [slip_eq hd, if_neg (not_not.mpr locked), if_neg quiet]
    rfl
  case burst =>
    have report := burstReport_eq leg
    have bursts (d : Delivery) (hd : d ≠ .delivered) : exec (.slip ⟨f, d⟩) s = .next
        (if d = .now then (s.modMonitor f (fun m => { m.countSlip with burstRaised := true })).handNow (s.burstReport f)
         else (s.modMonitor f (fun m => { m.countSlip with burstRaised := true })).raiseReport (s.burstReport f)) := by
      rw [slip_eq hd, if_neg (not_not.mpr locked), if_pos ⟨limit, fresh⟩]
    refine ⟨fun empty rest threshold burst => ?_, fun waits => ?_, ?_⟩
    · rw [bursts _ (by decide), if_pos rfl, burst_now empty rest threshold burst leg, report,
        takeReport_footprint]
      rfl
    · rw [bursts _ (by decide), if_pos rfl, handNow_waits (s := s.modMonitor f _) waits, report]
      rfl
    · rw [bursts _ (by decide), if_neg (by decide), raise_burst, report]
      rfl
  case alone =>
    subst alone
    exact (deliver_burst flight kind face leg rest threshold burst next (fun _ h => by cases h) (fun _ h => by cases h)).1
  case behind =>
    have other (x : Report) (hx : x ∈ xs) : x.ofMonitor = false := by
      obtain ⟨signal, lock, slip⟩ := others x hx
      simp [Report.ofMonitor, signal, lock, slip]
    exact deliver_burst flight kind face leg rest threshold burst next other fun x hx u at_rest slots =>
      handOver_taken (other x hx) at_rest fun k => noSlotOn_of_slots slots (thresholds k)
  case none => exact congrArg _ (deliverReport_other other)
  case window =>
    refine (congrArg _ (if_neg watched)).trans ?_
    rw [leg]
  all_goals
    have delivered := deliverReport_only flight face
    rw [kind] at delivered
    exact congrArg _ delivered

end Sys2Proof.Machine

/-! Two checkers of one face in one test record: the first locks, and the second goes on seeking only within the same command. -/

namespace Sys2Proof.Machine

/-- A SEEKING checker one right prediction short of its lock. -/
def nearlyLocked : Checker := ⟨.seeking, 0, 0, 0, 0#31, 31, 63, 0, 0⟩

/-- A SEEKING checker with an empty history. -/
def seekingAnew : Checker := ⟨.seeking, 0, 0, 0, 0#31, 0, 0, 0, 0⟩

/-- A running test that lists face 0 twice. -/
def twiceSought : TestRecord := ⟨.running, .c, 0#31, 1#31, 0, 0, none, none, [⟨0, nearlyLocked⟩, ⟨0, seekingAnew⟩]⟩

/-- The part after reset with that test on leg 0. -/
def twiceSoughtState : State := { State.reset with tests := #v[some twiceSought, none, none, none] }

/-- The bits that the second checker of the record has gathered. -/
def State.gatheredSecond (s : State) : Option Nat := (s.test 0).bind (fun r => (r.checkers[1]?).map (·.checker.gathered))

/-- Two bits in one command: both are gathered by the second checker. -/
theorem exec_twoBits : ∃ t : State, exec (.checkerLock 0 [false, false]) twiceSoughtState = .next t
    ∧ t.gatheredSecond = some 2 := ⟨_, rfl, by decide +kernel⟩

/-- The same bits in two commands: the first locks the first checker, and the second command then changes nothing. -/
theorem exec_oneBit_twice : ∃ t u : State, exec (.checkerLock 0 [false]) twiceSoughtState = .next t
    ∧ exec (.checkerLock 0 [false]) t = .next u ∧ u.gatheredSecond = some 1 := ⟨_, _, rfl, rfl, by decide +kernel⟩

/-- Refutes O47: the statement ranges over states whose test record lists a face twice, which no test start makes; there the
bits after the lock of the first checker reach the second one only where they stand in the command that locks. -/
theorem not_checkersCountAndLose : ¬ Obligations.CheckersCountAndLose := by
  unfold Obligations.CheckersCountAndLose
  intro h
  have bounded : nearlyLocked.bounded := by simp [nearlyLocked, Checker.bounded]
  obtain ⟨-, -, split, -⟩ := h twiceSoughtState 0 0 twiceSought nearlyLocked rfl rfl rfl rfl bounded
  obtain ⟨t, first, both⟩ := split [false] [false]
  obtain ⟨t', u, first', second, one⟩ := exec_oneBit_twice
  obtain ⟨v, whole, two⟩ := exec_twoBits
  cases first.symm.trans first'
  cases (whole.symm.trans both).trans second
  cases one.symm.trans two

end Sys2Proof.Machine

/-! The start of an attempt (spec/02 R30, spec/03 R50): what it makes of the leg, its paths, their monitors and faces, and which
words go out. -/

namespace Sys2Proof.Machine

/-! ### What a leg's own work may touch -/

/-- Nothing but the path states, the leg contexts, faces, monitors, engine, frame engine and sent words may have changed. -/
def State.legWork (s t : State) : Prop :=
  t = { s with
    paths := t.paths, legs := t.legs, faces := t.faces, monitors := t.monitors, engine := t.engine, frame := t.frame
    sent := t.sent }

theorem legWork_refl (s : State) : s.legWork s := rfl

theorem legWork_trans {s t u : State} (h : s.legWork t) (h' : t.legWork u) : s.legWork u := by
  unfold State.legWork at *
  rw [h] at h'
  exact h'

theorem legWork_modLeg (s : State) (l : LegId) (g : Leg → Leg) : s.legWork (s.modLeg l g) := rfl

theorem legWork_setLegState (s : State) (l : LegId) (st : LegState) : s.legWork (s.setLegState l st) := by
  unfold State.setLegState
  rw [judge_footprint]
  rfl

theorem legWork_setPaths (s : State) (ps : List PathId) (st : PathState) : s.legWork (s.setPaths ps st) := by
  rw [setPaths_footprint]
  rfl

/-- Nothing but faces, monitors, engine and sent words may have changed. -/
def State.faceWork (s t : State) : Prop :=
  t = { s with faces := t.faces, monitors := t.monitors, engine := t.engine, sent := t.sent }

theorem faceWork_refl (s : State) : s.faceWork s := rfl

theorem faceWork_trans {s t u : State} (h : s.faceWork t) (h' : t.faceWork u) : s.faceWork u := by
  unfold State.faceWork at *
  rw [h] at h'
  exact h'

theorem State.faceWork.legWork {s t : State} (h : s.faceWork t) : s.legWork t := by
  unfold State.faceWork at h
  unfold State.legWork
  rw [h]

theorem State.faceWork.legs {s t : State} (h : s.faceWork t) : t.legs = s.legs := (congrArg State.legs h :)
theorem State.faceWork.paths {s t : State} (h : s.faceWork t) : t.paths = s.paths := (congrArg State.paths h :)

theorem faceWork_foldl {α : Type} {g : State → α → State} (step : ∀ (s : State) (x : α), s.faceWork (g s x)) (xs : List α)
    (s : State) : s.faceWork (xs.foldl g s) :=
  foldl_rel faceWork_refl (fun _ _ _ => faceWork_trans) step xs s

theorem faceWork_settleFace (s : State) (f : FaceId) : s.faceWork (s.settleFace f) := by
  rw [settleFace_footprint]
  rfl

theorem faceWork_setStatus (s : State) (f : FaceId) (st : TrainStatus) : s.faceWork (s.setStatus f st) := rfl
theorem faceWork_startMonitors (s : State) (p : PathId) (n : Nat) : s.faceWork (s.startMonitors p n) := rfl
theorem faceWork_sendAnnounce (s : State) (l : LegId) (f : FaceId) : s.faceWork (s.sendAnnounce l f) := rfl

theorem faceWork_announceFaces (s : State) (l : LegId) (fs : List FaceId) : s.faceWork (s.announceFaces l fs) :=
  faceWork_trans (faceWork_foldl (fun s f => faceWork_setStatus s f _) fs s)
    (faceWork_foldl (fun s f => faceWork_sendAnnounce s l f) fs _)

/-! ### Faces, one component at a time -/

/-- What a list of faces that are given a status leaves of a face. -/
theorem face_setStatuses (fs : List FaceId) (st : TrainStatus) (s : State) (f : FaceId) :
    (fs.foldl (fun s f => s.setStatus f st) s).face f = if f ∈ fs then { s.face f with status := st } else s.face f := by
  induction fs generalizing s with
  | nil => simp
  | cons g gs ih =>
    rw [List.foldl_cons, ih, State.setStatus, State.face_modFace_eq]
    by_cases same : f = g
    · simp [same]
    · simp [same]

theorem Face.settled_settled (x : Face) : x.settled.settled = x.settled := by
  unfold Face.settled
  by_cases pending : x.pending = true <;> simp [pending, Face.swapped]

theorem face_settleFaces (fs : List FaceId) (s : State) (f : FaceId) :
    (fs.foldl (fun s f => s.settleFace f) s).face f = if f ∈ fs then (s.face f).settled else s.face f := by
  induction fs generalizing s with
  | nil => simp
  | cons g gs ih =>
    rw [List.foldl_cons, ih, face_settleFace]
    by_cases same : f = g
    · simp [same, Face.settled_settled]
    · simp [same]

theorem monitor_startMonitors (s : State) (p : PathId) (n : Nat) (f : FaceId) :
    (s.startMonitors p n).monitor f = if facePath f = p then Monitor.start n else s.monitor f := by
  simp only [State.startMonitors, monitor_modMonitor_eq, facePath_eq_iff]
  by_cases hs : f = sFace p <;> by_cases hc : f = cFace p <;> simp [hs, hc]

/-! Fields that the folds over faces and paths leave as they are. -/

theorem setStatuses_footprint (fs : List FaceId) (st : TrainStatus) (s : State) :
    fs.foldl (fun s f => s.setStatus f st) s = { s with faces := (fs.foldl (fun s f => s.setStatus f st) s).faces } := by
  induction fs generalizing s with
  | nil => rfl
  | cons f fs ih =>
    rw [List.foldl_cons]
    exact ih (s.setStatus f st)

theorem settleFaces_footprint (fs : List FaceId) (s : State) : fs.foldl (fun s f => s.settleFace f) s =
    { s with
      faces := (fs.foldl (fun s f => s.settleFace f) s).faces
      engine := (fs.foldl (fun s f => s.settleFace f) s).engine } := by
  induction fs generalizing s with
  | nil => rfl
  | cons f fs ih =>
    have step := ih (s.settleFace f)
    rw [List.foldl_cons]
    rw [settleFace_footprint] at step ⊢
    exact step

theorem startAll_footprint (ps : List PathId) (n : Nat) (s : State) : ps.foldl (fun s p => s.startMonitors p n) s =
    { s with monitors := (ps.foldl (fun s p => s.startMonitors p n) s).monitors } := by
  induction ps generalizing s with
  | nil => rfl
  | cons p ps ih =>
    rw [List.foldl_cons]
    exact ih (s.startMonitors p n)

section
variable (fs : List FaceId) (ps : List PathId) (st : TrainStatus) (n : Nat) (s : State) (f : FaceId)

theorem monitor_setStatuses : (fs.foldl (fun s f => s.setStatus f st) s).monitor f = s.monitor f := by
  rw [setStatuses_footprint]
  rfl

theorem sent_setStatuses : (fs.foldl (fun s f => s.setStatus f st) s).sent = s.sent := by rw [setStatuses_footprint]

theorem monitor_settleFaces : (fs.foldl (fun s f => s.settleFace f) s).monitor f = s.monitor f := by
  rw [settleFaces_footprint]
  rfl

theorem sent_settleFaces : (fs.foldl (fun s f => s.settleFace f) s).sent = s.sent := by rw [settleFaces_footprint]

theorem face_startAll : (ps.foldl (fun s p => s.startMonitors p n) s).face f = s.face f := by
  rw [startAll_footprint]
  rfl

theorem sent_startAll : (ps.foldl (fun s p => s.startMonitors p n) s).sent = s.sent := by rw [startAll_footprint]

end

theorem monitor_startAll (ps : List PathId) (n : Nat) (s : State) (f : FaceId) :
    (ps.foldl (fun s p => s.startMonitors p n) s).monitor f = if facePath f ∈ ps then Monitor.start n else s.monitor f := by
  induction ps generalizing s with
  | nil => simp
  | cons p ps ih =>
    rw [List.foldl_cons, ih, monitor_startMonitors]
    by_cases same : facePath f = p
    · simp [same]
    · simp [same]

theorem mem_map_cFace (ps : List PathId) (f : FaceId) : f ∈ ps.map cFace ↔ facePath f ∈ ps ∧ isCFace f = true := by
  have back (f : FaceId) (p : PathId) : cFace p = f ↔ facePath f = p ∧ isCFace f = true := by
    revert f p
    decide
  simp only [List.mem_map, back]
  exact ⟨fun ⟨p, hp, path, c⟩ => ⟨path ▸ hp, c⟩, fun ⟨hp, c⟩ => ⟨facePath f, hp, rfl, c⟩⟩

theorem mem_map_sFace (ps : List PathId) (f : FaceId) : f ∈ ps.map sFace ↔ facePath f ∈ ps ∧ isCFace f = false := by
  have back (f : FaceId) (p : PathId) : sFace p = f ↔ facePath f = p ∧ isCFace f = false := by
    revert f p
    decide
  simp only [List.mem_map, back]
  exact ⟨fun ⟨p, hp, path, c⟩ => ⟨path ▸ hp, c⟩, fun ⟨hp, c⟩ => ⟨facePath f, hp, rfl, c⟩⟩

theorem isCFace_cFace (p : PathId) : isCFace (cFace p) = true := by revert p; decide
theorem isCFace_sFace (p : PathId) : isCFace (sFace p) = false := by revert p; decide

theorem facesOfPaths_filter_c (ps : List PathId) : (facesOfPaths ps).filter isCFace = ps.map cFace := by
  induction ps with
  | nil => rfl
  | cons p ps ih =>
    have cons : facesOfPaths (p :: ps) = sFace p :: cFace p :: facesOfPaths ps := rfl
    rw [cons, List.filter_cons_of_neg (by simp [isCFace_sFace]), List.filter_cons_of_pos (isCFace_cFace p), ih, List.map_cons]

/-! ### Words -/

theorem announceFaces_eq (s : State) (l : LegId) (fs : List FaceId) : s.announceFaces l fs =
    { fs.foldl (fun s f => s.setStatus f .announced) s with sent := s.sent ++ fs.map (fun f => ⟨f, s.announceWord l f⟩) } := by
  have sends (gs : List FaceId) (u : State) : gs.foldl (fun s f => s.sendAnnounce l f) u =
      { u with sent := u.sent ++ gs.map (fun f => ⟨f, u.announceWord l f⟩) } := by
    induction gs generalizing u with
    | nil => simp
    | cons g gs ih =>
      rw [List.foldl_cons, ih]
      have word (f : FaceId) : (u.sendAnnounce l g).announceWord l f = u.announceWord l f := rfl
      have sent : (u.sendAnnounce l g).sent = u.sent ++ [⟨g, u.announceWord l g⟩] := rfl
      simp only [word, sent, List.append_assoc, List.map_cons, List.singleton_append]
      rfl
  unfold State.announceFaces
  rw [sends]
  have same := setStatuses_footprint fs .announced s
  generalize fs.foldl (fun s f => s.setStatus f .announced) s = u at same ⊢
  rw [same]
  rfl

/-! ### The paths and faces of a leg, as filters of the lists of all -/

/-- Whether a path is one of a leg's, at a position of a set. -/
def State.pathOn (s : State) (l : LegId) (g : PosSet) (p : PathId) : Bool :=
  match s.place p with
  | some q => q.leg == l && setHas g q.pos
  | none => false

theorem pathsAt_eq (s : State) (l : LegId) (g : PosSet) : s.pathsAt l g = allPaths.filter (s.pathOn l g) := by
  unfold State.pathsAt State.legPaths pathsIn
  rw [List.filter_filter]
  refine List.filter_congr fun p _ => ?_
  have place : placeIn s.map s.plan p = s.place p := rfl
  rw [place]
  unfold State.pathPos State.pathOn
  cases s.place p with
  | none => rfl
  | some q => simp [Bool.and_comm]

theorem facesOfPaths_filter (P : PathId → Bool) (ps : List PathId) :
    facesOfPaths (ps.filter P) = (facesOfPaths ps).filter (fun f => P (facePath f)) := by
  induction ps with
  | nil => rfl
  | cons p ps ih =>
    have cons (qs : List PathId) : facesOfPaths (p :: qs) = sFace p :: cFace p :: facesOfPaths qs := rfl
    cases on : P p
    · rw [List.filter_cons_of_neg (by simp [on]), ih, cons, List.filter_cons_of_neg (by simp [facePath_sFace, on]),
        List.filter_cons_of_neg (by simp [facePath_cFace, on])]
    · rw [List.filter_cons_of_pos on, cons, ih, cons, List.filter_cons_of_pos (by simp [facePath_sFace, on]),
        List.filter_cons_of_pos (by simp [facePath_cFace, on])]

theorem facesOfPaths_all : facesOfPaths allPaths = allFaces := rfl

theorem pathOn_facePath (s : State) (l : LegId) (g : PosSet) (f : FaceId) : s.pathOn l g (facePath f) = s.onPositions l g f := rfl

theorem facesAt_eq (s : State) (l : LegId) (g : PosSet) :
    facesOfPaths (s.pathsAt l g) = allFaces.filter (s.onPositions l g) := by
  rw [pathsAt_eq, facesOfPaths_filter, facesOfPaths_all]
  rfl

theorem groupFaces_eq (s : State) (l : LegId) : s.groupFaces l = allFaces.filter (s.onGroup l) := facesAt_eq s l _

theorem legFaces_eq (s : State) (l : LegId) : s.legFaces l = allFaces.filter (s.onLeg l) := by
  unfold State.legFaces State.legPaths pathsIn
  rw [facesOfPaths_filter, facesOfPaths_all]
  rfl

theorem cFacesAt_eq (s : State) (l : LegId) (g : PosSet) :
    (s.pathsAt l g).map cFace = allFaces.filter (fun f => s.onPositions l g f && isCFace f) := by
  rw [← facesOfPaths_filter_c, facesAt_eq, List.filter_filter]
  exact List.filter_congr fun f _ => Bool.and_comm _ _

theorem mem_pathsAt_facePath (s : State) (l : LegId) (g : PosSet) (f : FaceId) :
    facePath f ∈ s.pathsAt l g ↔ s.onPositions l g f = true := by
  rw [pathsAt_eq, List.mem_filter, ← pathOn_facePath]
  exact and_iff_right (mem_allPaths _)

/-! ### The stages of an attempt's start -/

/-- The leg context of an attempt that has begun (R30). -/
def Leg.attempting (x : Leg) (w : Nat) (g : PosSet) : Leg :=
  { x with
    state := .training, currentWidth := w, group := g, agreedRate := none, holdTimer := none, trimTimer := none
    limitTimer := some (10 * x.trainingLimit)
    record := some (freshRecord (x.attemptCount + 1) (ratesUpTo x.targetRate)) }

/-- The paths of a leg outside a set of positions. -/
def State.pathsOff (s : State) (l : LegId) (g : PosSet) : List PathId :=
  (s.legPaths l).filter (fun p => !(s.pathsAt l g).contains p)

/-- The state once the leg has moved. -/
def State.attemptLeg (s : State) (l : LegId) (w : Nat) (g : PosSet) : State :=
  (s.modLeg l (fun x => { x with
    currentWidth := w, group := g, agreedRate := none, holdTimer := none, trimTimer := none
    limitTimer := some (10 * x.trainingLimit)
    record := some (freshRecord ((s.leg l).attemptCount + 1) (ratesUpTo (s.leg l).targetRate)) })).setLegState l .training

/-- The state once the leg and its paths have moved. -/
def State.attemptMoved (s : State) (l : LegId) (w : Nat) (g : PosSet) : State :=
  ((s.attemptLeg l w g).setPaths (s.pathsAt l g) .training).setPaths (s.pathsOff l g) .benched

/-- The state once the monitors of the group have started, its faces have settled and its S-faces are IDLE. -/
def State.attemptSettled (s : State) (l : LegId) (w : Nat) (g : PosSet) : State :=
  ((s.pathsAt l g).map sFace).foldl (fun s f => s.setStatus f .idle)
    ((facesOfPaths (s.pathsAt l g)).foldl (fun s f => s.settleFace f)
      ((s.pathsAt l g).foldl (fun t p => t.startMonitors p (s.leg l).slipLimit) (s.attemptMoved l w g)))

theorem beginAttempt_eq (s : State) (l : LegId) (w : Nat) (g : PosSet) :
    s.beginAttempt l w g = (s.attemptSettled l w g).announceFaces l ((s.pathsAt l g).map cFace) := rfl

section
variable (s : State) (l : LegId) (w : Nat) (g : PosSet)

theorem faceWork_attemptSettled : (s.attemptMoved l w g).faceWork (s.attemptSettled l w g) :=
  faceWork_trans (faceWork_trans (faceWork_foldl (fun s p => faceWork_startMonitors s p _) _ _)
    (faceWork_foldl faceWork_settleFace _ _)) (faceWork_foldl (fun s f => faceWork_setStatus s f _) _ _)

theorem faceWork_beginAttempt : (s.attemptMoved l w g).faceWork (s.beginAttempt l w g) :=
  faceWork_trans (faceWork_attemptSettled s l w g) (faceWork_announceFaces _ l _)

theorem attemptLeg_footprint : s.attemptLeg l w g =
    { s with legs := (s.attemptLeg l w g).legs, frame := (s.attemptLeg l w g).frame } := by
  unfold State.attemptLeg State.setLegState
  rw [judge_footprint]
  rfl

theorem legWork_attemptMoved : s.legWork (s.attemptMoved l w g) := by
  have leg : s.legWork (s.attemptLeg l w g) := by
    rw [attemptLeg_footprint]
    rfl
  exact legWork_trans (legWork_trans leg (legWork_setPaths _ _ _)) (legWork_setPaths _ _ _)

theorem path_attemptLeg (p : PathId) : (s.attemptLeg l w g).path p = s.path p := by rw [attemptLeg_footprint]; rfl
theorem face_attemptLeg (f : FaceId) : (s.attemptLeg l w g).face f = s.face f := by rw [attemptLeg_footprint]; rfl
theorem monitor_attemptLeg (f : FaceId) : (s.attemptLeg l w g).monitor f = s.monitor f := by rw [attemptLeg_footprint]; rfl

theorem legWork_beginAttempt : s.legWork (s.beginAttempt l w g) :=
  legWork_trans (legWork_attemptMoved s l w g) (faceWork_beginAttempt s l w g).legWork

theorem leg_setLegState_eq (st : LegState) (k : LegId) :
    (s.setLegState l st).leg k = if k = l then { s.leg l with state := st } else s.leg k := by
  have legs : (s.setLegState l st).leg k = (s.modLeg l (fun x => { x with state := st })).leg k := by
    unfold State.setLegState
    rw [judge_footprint]
    rfl
  rw [legs, State.leg_modLeg_eq]

theorem leg_beginAttempt (k : LegId) :
    (s.beginAttempt l w g).leg k = if k = l then (s.leg l).attempting w g else s.leg k := by
  have legs : (s.beginAttempt l w g).leg k = (s.attemptMoved l w g).leg k := by
    simp only [State.leg, (faceWork_beginAttempt s l w g).legs]
  rw [legs, State.attemptMoved, State.leg_setPaths, State.leg_setPaths, State.attemptLeg, leg_setLegState_eq]
  by_cases own : k = l
  · subst own
    rw [if_pos rfl, if_pos rfl, State.leg_modLeg]
    rfl
  · rw [if_neg own, if_neg own, State.leg_modLeg_other _ _ _ _ own]

theorem mem_pathsOff {p : PathId} : p ∈ s.pathsOff l g ↔ s.pathLeg p = some l ∧ p ∉ s.pathsAt l g := by
  simp [State.pathsOff, mem_legPaths]

theorem path_beginAttempt (p : PathId) : (s.beginAttempt l w g).path p =
    if p ∈ s.pathsAt l g then .training else if s.pathLeg p = some l then .benched else s.path p := by
  have paths : (s.beginAttempt l w g).path p = (s.attemptMoved l w g).path p := by
    simp only [State.path, (faceWork_beginAttempt s l w g).paths]
  rw [paths, State.attemptMoved, path_setPaths, path_setPaths, path_attemptLeg]
  by_cases inside : p ∈ s.pathsAt l g <;> by_cases own : s.pathLeg p = some l <;> simp [mem_pathsOff, inside, own]

/-- The monitors of the group start (R106), those of a path that enters BENCHED stop (R105). -/
theorem monitor_beginAttempt (f : FaceId) : (s.beginAttempt l w g).monitor f =
    if facePath f ∈ s.pathsAt l g then Monitor.start (s.leg l).slipLimit
    else if s.pathLeg (facePath f) = some l ∧ s.path (facePath f) ≠ .benched then (s.monitor f).stop
    else s.monitor f := by
  have announced (fs : List FaceId) (u : State) : (u.announceFaces l fs).monitor f = u.monitor f := by
    rw [announceFaces_eq]
    exact monitor_setStatuses fs _ u f
  rw [beginAttempt_eq, announced, State.attemptSettled, monitor_setStatuses, monitor_settleFaces, monitor_startAll,
    State.attemptMoved, monitor_setPaths, monitor_setPaths, path_setPaths, path_attemptLeg, monitor_attemptLeg]
  by_cases inside : facePath f ∈ s.pathsAt l g <;> by_cases own : s.pathLeg (facePath f) = some l <;>
    simp [mem_pathsOff, inside, own, watchedState]

/-- The faces of the group settle, C-faces ANNOUNCED and S-faces IDLE; those of a path that enters BENCHED settle (R9, R76). -/
theorem face_beginAttempt (f : FaceId) : (s.beginAttempt l w g).face f =
    if facePath f ∈ s.pathsAt l g then { (s.face f).settled with status := if isCFace f then .announced else .idle }
    else if s.pathLeg (facePath f) = some l ∧ s.path (facePath f) ≠ .benched then (s.face f).settled
    else s.face f := by
  have announced (fs : List FaceId) (u : State) : (u.announceFaces l fs).face f =
      if f ∈ fs then { u.face f with status := .announced } else u.face f := by
    rw [announceFaces_eq]
    exact face_setStatuses fs _ u f
  rw [beginAttempt_eq, announced, State.attemptSettled, face_setStatuses, face_settleFaces, face_startAll,
    State.attemptMoved, face_setPaths, face_setPaths, path_setPaths, path_attemptLeg, face_attemptLeg]
  by_cases inside : facePath f ∈ s.pathsAt l g
  · cases side : isCFace f <;> simp [mem_map_cFace, mem_map_sFace, mem_facesOfPaths, inside, side, isQuietState, mem_pathsOff]
  · by_cases own : s.pathLeg (facePath f) = some l <;>
      simp [mem_map_cFace, mem_map_sFace, mem_facesOfPaths, inside, own, isQuietState, mem_pathsOff]

/-- Each group C-face is announced, with the offer (R50). -/
theorem sent_beginAttempt : (s.beginAttempt l w g).sent = s.sent ++ s.announces l w g ((s.leg l).attemptCount + 1) := by
  have work := legWork_trans (legWork_attemptMoved s l w g) (faceWork_attemptSettled s l w g).legWork
  have leg : (s.attemptSettled l w g).leg l = (s.leg l).attempting w g := by
    have whole := leg_beginAttempt s l w g l
    rw [if_pos rfl] at whole
    rw [← whole]
    simp only [State.leg, (faceWork_attemptSettled s l w g).legs, (faceWork_beginAttempt s l w g).legs]
  have sent : (s.attemptSettled l w g).sent = s.sent := by
    unfold State.attemptSettled State.attemptMoved
    rw [sent_setStatuses, sent_settleFaces, sent_startAll, setPaths_footprint, setPaths_footprint, attemptLeg_footprint]
  have place (p : PathId) : (s.attemptSettled l w g).place p = s.place p := by
    rw [work]
    rfl
  rw [beginAttempt_eq, announceFaces_eq]
  show (s.attemptSettled l w g).sent ++ _ = _
  rw [sent, cFacesAt_eq]
  unfold State.announces
  congr 1
  refine List.map_congr_left fun f hf => ?_
  have side : isCFace f = true := by
    have both := (List.mem_filter.mp hf).2
    rw [Bool.and_eq_true] at both
    exact both.2
  simp only [State.announceWord, leg, State.pathPos, place, side, if_true]
  rfl

end

end Sys2Proof.Machine

/-! The start of an attempt and of a series, as the statements speak of them (spec/02 R30), and what they leave of the rest. -/

namespace Sys2Proof.Machine

/-! ### Faces but for their status -/

theorem Face.sameSet_refl (x : Face) : x.sameSet x := rfl

theorem Face.sameSet_trans {x y z : Face} (h : x.sameSet y) (h' : y.sameSet z) : x.sameSet z := by
  unfold Face.sameSet at *
  rw [h] at h'
  exact h'

theorem Face.sameSet_status (x : Face) (st : TrainStatus) : x.sameSet { x with status := st } := rfl

theorem Face.sameSet_settled {x y : Face} (h : x.sameSet y) : x.settled.sameSet y.settled := by
  unfold Face.sameSet at h ⊢
  rw [h]
  unfold Face.settled
  by_cases pending : x.pending = true <;> simp [pending, Face.swapped]

/-! ### An attempt that begins from another state -/

/-- An attempt of the leg that begins in `u` begins as from `s`: places and limits are the same, the leg's faces differ by what
a settle point and a status change, and a path that `u` has BENCHED has entered that state or was in it. -/
structure State.attemptLike (s u : State) (l : LegId) : Prop where
  place : ∀ p : PathId, u.place p = s.place p
  slip : (u.leg l).slipLimit = (s.leg l).slipLimit
  training : (u.leg l).trainingLimit = (s.leg l).trainingLimit
  target : (u.leg l).targetRate = (s.leg l).targetRate
  settled : ∀ f : FaceId, s.faceLeg f = some l → (s.face f).settled.sameSet (u.face f).settled
  enters : ∀ p : PathId, s.pathLeg p = some l → s.path p ≠ .benched → u.path p = .benched → s.pathRests u p
  stays : ∀ (p : PathId) (q : Place), s.place p = some q → q.leg = l → s.path p = .benched →
    setHas (s.leg l).group q.pos.val = false → u.path p = .benched ∧ s.pathKept u p

theorem pathKept_of_eq {s u : State} (faces : u.faces = s.faces) (monitors : u.monitors = s.monitors) (p : PathId) :
    s.pathKept u p := by
  intro f _
  have face : u.face f = s.face f := by simp only [State.face, faces]
  have monitor : u.monitor f = s.monitor f := by simp only [State.monitor, monitors]
  exact ⟨monitor, by rw [face]; rfl⟩

/-- A change of the leg's own context alone. -/
theorem attemptLike_of_eq {s u : State} {l : LegId} (map : u.map = s.map) (plan : u.plan = s.plan) (paths : u.paths = s.paths)
    (faces : u.faces = s.faces) (monitors : u.monitors = s.monitors) (slip : (u.leg l).slipLimit = (s.leg l).slipLimit)
    (training : (u.leg l).trainingLimit = (s.leg l).trainingLimit) (target : (u.leg l).targetRate = (s.leg l).targetRate) :
    s.attemptLike u l where
  place p := by simp only [State.place, map, plan]
  slip := slip
  training := training
  target := target
  settled f _ := by
    have face : u.face f = s.face f := by simp only [State.face, faces]
    rw [face]
    rfl
  enters p _ away benched := by
    have path : u.path p = s.path p := by simp only [State.path, paths]
    exact absurd (path.symm.trans benched) away
  stays p q _ _ benched _ := by
    have path : u.path p = s.path p := by simp only [State.path, paths]
    exact ⟨path.trans benched, pathKept_of_eq faces monitors p⟩

section
variable {s u : State} {l : LegId}

theorem announces_of_like (like : s.attemptLike u l) (w : Nat) (g : PosSet) (n : Nat) :
    u.announces l w g n = s.announces l w g n := by
  have on (f : FaceId) : u.onPositions l g f = s.onPositions l g f := by
    unfold State.onPositions
    rw [like.place]
  unfold State.announces
  simp only [on, like.place, like.target]

/-- The paths of the leg after its attempt's start. -/
theorem path_begun (like : s.attemptLike u l) {w : Nat} {g : PosSet} {p : PathId} {q : Place} (hq : s.place p = some q)
    (hl : q.leg = l) (t : State) (ht : t = u.beginAttempt l w g) :
    if setHas g q.pos.val then
      t.path p = .training ∧ (t.face (cFace p)).status = .announced ∧ (t.face (sFace p)).status = .idle
        ∧ t.monitor (sFace p) = Monitor.start (s.leg l).slipLimit
        ∧ t.monitor (cFace p) = Monitor.start (s.leg l).slipLimit
        ∧ ∀ f : FaceId, facePath f = p → (s.face f).settled.sameSet (t.face f)
    else
      t.path p = .benched ∧ (s.path p ≠ .benched → s.pathRests t p)
        ∧ (s.path p = .benched → setHas (s.leg l).group q.pos.val = false → s.pathKept t p) := by
  subst ht
  have uq : u.place p = some q := (like.place p).trans hq
  have inside := mem_pathsAt (g := g) uq hl
  have own : u.pathLeg p = some l := by rw [State.pathLeg, uq, ← hl]; rfl
  have ownS : s.pathLeg p = some l := by rw [State.pathLeg, hq, ← hl]; rfl
  have legOf (f : FaceId) (hf : facePath f = p) : s.faceLeg f = some l := by rw [State.faceLeg, hf, ownS]
  by_cases on : setHas g q.pos.val = true
  · rw [if_pos on]
    have mem := inside.mpr on
    have face (f : FaceId) (hf : facePath f = p) : (u.beginAttempt l w g).face f =
        { (u.face f).settled with status := if isCFace f then .announced else .idle } := by
      rw [face_beginAttempt, hf, if_pos mem]
    have monitor (f : FaceId) (hf : facePath f = p) : (u.beginAttempt l w g).monitor f = Monitor.start (s.leg l).slipLimit := by
      rw [monitor_beginAttempt, hf, if_pos mem, like.slip]
    refine ⟨by rw [path_beginAttempt, if_pos mem], ?_, ?_, monitor _ (facePath_sFace p), monitor _ (facePath_cFace p),
      fun f hf => ?_⟩
    · rw [face _ (facePath_cFace p), isCFace_cFace]
      rfl
    · rw [face _ (facePath_sFace p), isCFace_sFace]
      rfl
    · rw [face f hf]
      exact Face.sameSet_trans (like.settled f (legOf f hf)) (Face.sameSet_status _ _)
  · rw [if_neg on]
    have out : p ∉ u.pathsAt l g := fun h => on (inside.mp h)
    have face (f : FaceId) (hf : facePath f = p) : (u.beginAttempt l w g).face f =
        if u.path p ≠ .benched then (u.face f).settled else u.face f := by
      rw [face_beginAttempt, hf, if_neg out]
      simp only [own, true_and]
    have monitor (f : FaceId) (hf : facePath f = p) : (u.beginAttempt l w g).monitor f =
        if u.path p ≠ .benched then (u.monitor f).stop else u.monitor f := by
      rw [monitor_beginAttempt, hf, if_neg out]
      simp only [own, true_and]
    refine ⟨by rw [path_beginAttempt, if_neg out, if_pos own], fun away f hf => ?_, fun benched free => ?_⟩
    · rw [face f hf, monitor f hf]
      by_cases there : u.path p = .benched
      · rw [if_neg (not_not.mpr there), if_neg (not_not.mpr there)]
        exact like.enters p ownS away there f hf
      · rw [if_pos there, if_pos there]
        exact ⟨rfl, rfl, rfl, like.settled f (legOf f hf)⟩
    · obtain ⟨there, kept⟩ := like.stays p q hq hl benched free
      intro f hf
      rw [face f hf, monitor f hf, if_neg (not_not.mpr there), if_neg (not_not.mpr there)]
      exact kept f hf

/-- An attempt has begun. -/
theorem attemptBegun_beginAttempt (like : s.attemptLike u l) (w : Nat) (g : PosSet) :
    s.attemptBegun (u.beginAttempt l w g) l w g u.sent := by
  have leg := leg_beginAttempt u l w g l
  rw [if_pos rfl] at leg
  have sent := sent_beginAttempt u l w g
  rw [announces_of_like like] at sent
  unfold State.attemptBegun
  rw [leg]
  refine ⟨rfl, rfl, rfl, rfl, rfl, rfl, ?_, ?_, sent, fun p q hq hl => path_begun like hq hl _ rfl⟩
  · rw [← like.training]
    rfl
  · rw [← like.target]
    rfl

end

/-! ### What stays -/

/-- A leg's own work leaves the rest as it was, where it keeps the other legs and the paths of theirs. -/
theorem othersKept_of_legWork {s t : State} {l : LegId} (work : s.legWork t) (legs : ∀ k : LegId, k ≠ l → t.leg k = s.leg k)
    (paths : ∀ p : PathId, s.pathLeg p ≠ some l → t.path p = s.path p)
    (faces : ∀ f : FaceId, s.faceLeg f ≠ some l → t.monitor f = s.monitor f ∧ t.face f = s.face f) : s.othersKept t l := by
  have test (k : LegId) : t.test k = s.test k := by rw [work]; rfl
  have face (f : FaceId) (p : PathId) (hf : facePath f = p) (hp : s.pathLeg p ≠ some l) :=
    faces f (by rw [State.faceLeg, hf]; exact hp)
  have fields : t.map = s.map ∧ t.plan = s.plan ∧ t.store = s.store ∧ t.image = s.image ∧ t.errors = s.errors
      ∧ t.slots = s.slots ∧ t.clock = s.clock ∧ t.table = s.table ∧ t.inFlight = s.inFlight ∧ t.bus = s.bus
      ∧ t.pending = s.pending := by
    rw [work]
    exact ⟨rfl, rfl, rfl, rfl, rfl, rfl, rfl, rfl, rfl, rfl, rfl⟩
  refine ⟨fun k hk => ⟨legs k hk, test k⟩, fun p hp => ⟨paths p hp, ?_, ?_, ?_, ?_⟩, fields⟩
  · exact (face _ p (facePath_sFace p) hp).1
  · exact (face _ p (facePath_cFace p) hp).1
  · exact (face _ p (facePath_sFace p) hp).2
  · exact (face _ p (facePath_cFace p) hp).2

theorem othersKept_trans {s t u : State} {l : LegId} (h : s.othersKept t l) (h' : t.othersKept u l) : s.othersKept u l := by
  obtain ⟨legs, paths, map, plan, store, image, errors, slots, clock, table, inFlight, bus, pending⟩ := h
  obtain ⟨legs', paths', map', plan', store', image', errors', slots', clock', table', inFlight', bus', pending'⟩ := h'
  have pathLeg (p : PathId) : t.pathLeg p = s.pathLeg p := by simp only [State.pathLeg, State.place, map, plan]
  refine ⟨fun k hk => ⟨(legs' k hk).1.trans (legs k hk).1, (legs' k hk).2.trans (legs k hk).2⟩, fun p hp => ?_,
    map'.trans map, plan'.trans plan, store'.trans store, image'.trans image, errors'.trans errors, slots'.trans slots,
    clock'.trans clock, table'.trans table, inFlight'.trans inFlight, bus'.trans bus, pending'.trans pending⟩
  obtain ⟨a, b, c, d, e⟩ := paths p hp
  obtain ⟨a', b', c', d', e'⟩ := paths' p (by rw [pathLeg]; exact hp)
  exact ⟨a'.trans a, b'.trans b, c'.trans c, d'.trans d, e'.trans e⟩

theorem othersKept_modLeg (s : State) (l : LegId) (g : Leg → Leg) : s.othersKept (s.modLeg l g) l :=
  othersKept_of_legWork rfl (fun k hk => State.leg_modLeg_other s l k g hk) (fun _ _ => rfl) (fun _ _ => ⟨rfl, rfl⟩)

theorem othersKept_beginAttempt (s : State) (l : LegId) (w : Nat) (g : PosSet) : s.othersKept (s.beginAttempt l w g) l := by
  have out (p : PathId) (hp : s.pathLeg p ≠ some l) : p ∉ s.pathsAt l g := fun h => hp (pathsAt_own p h)
  refine othersKept_of_legWork (legWork_beginAttempt s l w g) (fun k hk => ?_) (fun p hp => ?_) (fun f hf => ?_)
  · rw [leg_beginAttempt, if_neg hk]
  · rw [path_beginAttempt, if_neg (out p hp), if_neg hp]
  · rw [monitor_beginAttempt, face_beginAttempt, if_neg (out _ hf), if_neg (fun h => hf h.1), if_neg (out _ hf),
      if_neg (fun h => hf h.1)]
    exact ⟨rfl, rfl⟩

/-! ### A series -/

section
variable {s : State} {l : LegId} {w : Nat} {g : PosSet}

/-- The leg context at the start of a series, before its first attempt (R30). -/
def Leg.series (x : Leg) (c : TrainCause) : Leg :=
  { x with attemptCount := 0, trainingCause := c, holdTimer := none, trimTimer := none }

theorem startSeries_eq (c : TrainCause)
    (chosen : selectWidth (s.leg l).configuredWidth (s.leg l).minimumWidth (s.leg l).excluded = some (w, g)) :
    s.startSeries l c = (s.modLeg l (fun x => x.series c)).beginAttempt l w g := by
  have leg : (s.modLeg l (fun x => x.series c)).leg l = (s.leg l).series c := State.leg_modLeg s l _
  have started : s.startSeries l c = (s.modLeg l (fun x => x.series c)).startAttempt l := rfl
  rw [started, State.startAttempt, leg]
  have same : selectWidth ((s.leg l).series c).configuredWidth ((s.leg l).series c).minimumWidth ((s.leg l).series c).excluded =
      some (w, g) := chosen
  simp only [same]

theorem leg_startSeries (c : TrainCause)
    (chosen : selectWidth (s.leg l).configuredWidth (s.leg l).minimumWidth (s.leg l).excluded = some (w, g)) :
    (s.startSeries l c).leg l = ((s.leg l).series c).attempting w g := by
  rw [startSeries_eq c chosen, leg_beginAttempt, if_pos rfl, State.leg_modLeg]

/-- A series has begun from `u`, which differs from `s` as an attempt may. -/
theorem seriesBegun_startSeries {u : State} (like : s.attemptLike u l) (sent : u.sent = s.sent) (c : TrainCause)
    (chosen : selectWidth (u.leg l).configuredWidth (u.leg l).minimumWidth (u.leg l).excluded = some (w, g)) :
    s.seriesBegun (u.startSeries l c) l c w g := by
  have leg := leg_startSeries c chosen
  have first : s.attemptLike (u.modLeg l (fun x => x.series c)) l := by
    have own : (u.modLeg l (fun x => x.series c)).leg l = (u.leg l).series c := State.leg_modLeg u l _
    exact ⟨like.place, by rw [own]; exact like.slip, by rw [own]; exact like.training, by rw [own]; exact like.target,
      like.settled, like.enters, like.stays⟩
  refine ⟨?_, by rw [leg]; rfl, by rw [leg]; rfl⟩
  rw [startSeries_eq c chosen, ← sent]
  exact attemptBegun_beginAttempt first w g

theorem othersKept_startSeries (c : TrainCause)
    (chosen : selectWidth (s.leg l).configuredWidth (s.leg l).minimumWidth (s.leg l).excluded = some (w, g)) :
    s.othersKept (s.startSeries l c) l := by
  rw [startSeries_eq c chosen]
  exact othersKept_trans (othersKept_modLeg s l _) (othersKept_beginAttempt _ l w g)

end

end Sys2Proof.Machine

/-! A leg controller's taking that moves the leg: LEG RELEASE and the expiry of the hold timer (spec/02 R27, R29). -/

namespace Sys2Proof.Machine

/-! ### Takings that move the leg -/

/-- The LEG STATE notice of a taking that leaves `t` (R19). -/
def State.moveNotice (s t : State) (l : LegId) (e : Cause) : Notice :=
  .legState t.stamp l (s.leg l).state (t.leg l).state (noticeCause e (t.leg l)) (t.leg l).currentWidth

/-- A taking that moves the leg and leaves the table at rest raises one LEG STATE notice last (R19). -/
theorem legEvent_moved {s : State} {l : LegId} {e : Cause} {f : State → State} (rest : (f s).tableAtRest)
    (moved : ((f s).leg l).state ≠ (s.leg l).state) :
    s.legEvent l e f = (f s).raiseNotice (s.moveNotice (f s) l e) := by
  have taken := legTake_moved (e := e) moved
  rw [legEvent_eq, taken]
  · rfl
  · rw [taken]
    exact rest

/-- A taking that keeps the leg's state and leaves the table at rest raises nothing (R19). -/
theorem legEvent_same {s : State} {l : LegId} {e : Cause} {f : State → State} (rest : (f s).tableAtRest)
    (same : ((f s).leg l).state = (s.leg l).state) : s.legEvent l e f = f s := by
  have taken := legTake_same (e := e) same
  rw [legEvent_eq, taken]
  rw [taken]
  exact rest

theorem legRequest_byte (s : State) (l : LegId) (act : LegId → Answer) : legRequest [byte l.val] s act = act l :=
  withOperand_some s _ act l (legBody_byte l)

/-! ### A series that starts -/

section
variable {s u : State} {l : LegId} {c : TrainCause} {w : Nat} {g : PosSet}

theorem legWork_startSeries
    (chosen : selectWidth (s.leg l).configuredWidth (s.leg l).minimumWidth (s.leg l).excluded = some (w, g)) :
    s.legWork (s.startSeries l c) := by
  rw [startSeries_eq c chosen]
  exact legWork_trans (legWork_modLeg s l _) (legWork_beginAttempt _ l w g)

/-- The notice of a series that starts (R19). -/
theorem moveNotice_startSeries {e : Cause} (event : e ≠ .reset)
    (chosen : selectWidth (u.leg l).configuredWidth (u.leg l).minimumWidth (u.leg l).excluded = some (w, g)) :
    s.moveNotice (u.startSeries l c) l e = .legState u.stamp l (s.leg l).state .training (.train c) w := by
  have leg := leg_startSeries c chosen
  have stamp : (u.startSeries l c).stamp = u.stamp := by
    rw [State.stamp, legWork_startSeries chosen]
    rfl
  have cause : noticeCause e ((u.startSeries l c).leg l) = .train c := by
    rw [leg]
    cases e with
    | reset => exact absurd rfl event
    | _ => rfl
  unfold State.moveNotice
  rw [stamp, cause, leg]
  rfl

/-- An event has started a series from `u`: the series, what stays, and the LEG STATE notice last. -/
def State.seriesFrom (s u t : State) (l : LegId) (c : TrainCause) (w : Nat) (g : PosSet) : Prop :=
  s.seriesBegun t l c w g ∧ t.leg l = ((u.leg l).series c).attempting w g ∧ s.othersKept t l ∧ t.port = u.port
  ∧ t.notices = u.notices.take (.legState s.clock.stamp l (s.leg l).state .training (.train c) w)
  ∧ t.tests = u.tests ∧ t.generators = u.generators

theorem seriesFrom_legEvent {e : Cause} {f : State → State} (rest : s.tableAtRest) (event : e ≠ .reset)
    (moves : (s.leg l).state ≠ .training) (begins : f s = u.startSeries l c) (like : s.attemptLike u l)
    (sent : u.sent = s.sent) (kept : s.othersKept u l)
    (chosen : selectWidth (u.leg l).configuredWidth (u.leg l).minimumWidth (u.leg l).excluded = some (w, g)) :
    s.seriesFrom u (s.legEvent l e f) l c w g := by
  have begun := seriesBegun_startSeries like sent c chosen
  have leg := leg_startSeries c chosen
  have keeps := othersKept_trans kept (othersKept_startSeries c chosen)
  have notice := moveNotice_startSeries (s := s) (c := c) event chosen
  have work := legWork_startSeries (c := c) chosen
  obtain ⟨-, -, -, -, -, -, -, -, clock, table, -⟩ := kept
  rw [State.stamp, clock] at notice
  generalize u.startSeries l c = v at *
  have atRest : (f s).tableAtRest := by
    rw [begins, State.tableAtRest, work]
    exact table.trans rest
  have moved : ((f s).leg l).state ≠ (s.leg l).state := by
    rw [begins, leg]
    exact moves.symm
  have fields : v.port = u.port ∧ v.notices = u.notices ∧ v.tests = u.tests ∧ v.generators = u.generators := by
    rw [work]
    exact ⟨rfl, rfl, rfl, rfl⟩
  obtain ⟨port, notices, tests, generators⟩ := fields
  rw [legEvent_moved atRest moved, begins, notice]
  exact ⟨begun, leg, keeps, port, congrArg (NoticeQueue.take · _) notices, tests, generators⟩

/-- The same where only the leg's own context, now `x`, has changed before. -/
def State.seriesTaken (s t : State) (l : LegId) (x : Leg) (c : TrainCause) (w : Nat) (g : PosSet) : Prop :=
  s.seriesBegun t l c w g ∧ t.leg l = (x.series c).attempting w g ∧ s.othersKept t l ∧ t.port = s.port
  ∧ t.notices = s.notices.take (.legState s.clock.stamp l (s.leg l).state .training (.train c) w)

theorem seriesTaken_legEvent {e : Cause} {f : State → State} {x : Leg} (rest : s.tableAtRest) (event : e ≠ .reset)
    (moves : (s.leg l).state ≠ .training) (begins : f s = (s.modLeg l (fun _ => x)).startSeries l c)
    (slip : x.slipLimit = (s.leg l).slipLimit) (training : x.trainingLimit = (s.leg l).trainingLimit)
    (target : x.targetRate = (s.leg l).targetRate)
    (chosen : selectWidth x.configuredWidth x.minimumWidth x.excluded = some (w, g)) :
    s.seriesTaken (s.legEvent l e f) l x c w g := by
  have own : (s.modLeg l (fun _ => x)).leg l = x := State.leg_modLeg s l _
  have like : s.attemptLike (s.modLeg l (fun _ => x)) l := attemptLike_of_eq rfl rfl rfl rfl rfl
    (by rw [own]; exact slip) (by rw [own]; exact training) (by rw [own]; exact target)
  obtain ⟨begun, leg, kept, port, notices, -, -⟩ := seriesFrom_legEvent (e := e) rest event moves begins like rfl
    (othersKept_modLeg s l _) (by rw [own]; exact chosen)
  rw [own] at leg
  exact ⟨begun, leg, kept, port, notices⟩

/-- The same for a request that its leg controller takes as such an event. -/
theorem seriesTaken_request {tag code : Byte} {act : State → Answer} {e : Cause} {f : State → State} {x : Leg}
    (hport : s.takesRequests)
    (acts : act (s.acceptWrite (requestFrame tag code [byte l.val])) =
      .plain ((s.acceptWrite (requestFrame tag code [byte l.val])).legEvent l e f) .done)
    (taken : (s.acceptWrite (requestFrame tag code [byte l.val])).seriesTaken
      ((s.acceptWrite (requestFrame tag code [byte l.val])).legEvent l e f) l x c w g) :
    ∃ t, takeRequest code tag [byte l.val] act s = .next t ∧ s.seriesBegun t l c w g
      ∧ t.leg l = (x.series c).attempting w g ∧ s.othersKept t l
      ∧ t.port = (s.answered tag code [byte l.val] .done []).port
      ∧ t.notices = s.notices.take (.legState s.clock.stamp l (s.leg l).state .training (.train c) w) := by
  obtain ⟨begun, leg, kept, port, notices⟩ := taken
  exact ⟨_, takeRequest_acted hport (by decide : 1 ≤ 128) acts port, begun, leg, kept, rfl, notices⟩

end

/-! ### Leaving HELD -/

section
variable {s : State} {l : LegId}

theorem releaseLeg_stays (h : ¬((s.leg l).state = .held ∧ (s.leg l).holdTimer = none)) :
    s.releaseLeg l = s.modLeg l (fun x => { x with holdRequest := false }) := by
  have own : (s.modLeg l (fun x => { x with holdRequest := false })).leg l = { s.leg l with holdRequest := false } :=
    State.leg_modLeg s l _
  unfold State.releaseLeg
  simp only [own, if_neg h]

theorem modLeg_const (s : State) (l : LegId) (g : Leg → Leg) : s.modLeg l g = s.modLeg l (fun _ => g (s.leg l)) := rfl

theorem releaseLeg_leaves (held : (s.leg l).state = .held) (timer : (s.leg l).holdTimer = none) :
    s.releaseLeg l =
      (s.modLeg l (fun _ => { s.leg l with holdRequest := false })).startSeries l (s.leg l).trainingCause := by
  have own : (s.modLeg l (fun x => { x with holdRequest := false })).leg l = { s.leg l with holdRequest := false } :=
    State.leg_modLeg s l _
  unfold State.releaseLeg
  simp only [own, if_pos (And.intro held timer)]
  rfl

theorem expireHold_stays (h : (s.leg l).holdRequest = true) :
    s.expireHold l = s.modLeg l (fun x => { x with holdTimer := none }) := by
  have own : (s.modLeg l (fun x => { x with holdTimer := none })).leg l = { s.leg l with holdTimer := none } :=
    State.leg_modLeg s l _
  unfold State.expireHold
  simp only [own, if_pos h]

theorem expireHold_leaves (h : (s.leg l).holdRequest = false) :
    s.expireHold l = (s.modLeg l (fun _ => { s.leg l with holdTimer := none })).startSeries l (s.leg l).trainingCause := by
  have own : (s.modLeg l (fun x => { x with holdTimer := none })).leg l = { s.leg l with holdTimer := none } :=
    State.leg_modLeg s l _
  unfold State.expireHold
  simp only [own, if_neg (Bool.eq_false_iff.mp h)]
  rfl

theorem holdAsserted_training {t : State} (h : (t.leg l).state = .training) : t.holdAsserted l = false := by
  rw [State.holdAsserted, h]
  rfl

end

/-- Settles O17, by the series that a taking starts. -/
theorem heldLegsLeaveByReleaseOrExpiry : Obligations.HeldLegsLeaveByReleaseOrExpiry := by
  intro s tag l rest
  have acts (u : State) : legReleaseAct [byte l.val] u = .plain (u.legEvent l (.train .host) (fun s => s.releaseLeg l)) .done :=
    legRequest_byte u l _
  have expires (held : (s.leg l).state = .held) (timer : (s.leg l).holdTimer.isSome = true) :
      exec (.holdTimerExpiry l) s = .next (s.legEvent l (.train .first) (fun s => s.expireHold l)) :=
    congrArg Host.Outcome.next (if_pos ⟨held, timer⟩)
  refine ⟨fun hport stays => ?_, fun hport held timer w g chosen => ?_, fun held timer asked => ?_,
    fun held timer free w g chosen => ?_⟩
  · have released (u : State) (same : u.leg l = s.leg l) (table : u.tableAtRest) :
        u.legEvent l (.train .host) (fun s => s.releaseLeg l) = u.modLeg l (fun x => { x with holdRequest := false }) := by
      have body : u.releaseLeg l = u.modLeg l (fun x => { x with holdRequest := false }) :=
        releaseLeg_stays (by rw [same]; exact stays)
      rw [legEvent_same, body]
      · rw [body]
        exact table
      · rw [body, State.leg_modLeg]
    exact takeRequest_taken hport (by decide : 1 ≤ 128)
      ((acts _).trans (congrArg (Answer.plain · Result.done) (released _ rfl rest))) (.inr rfl)
  · obtain ⟨t, step, begun, leg, kept, port, notices⟩ := seriesTaken_request hport (acts _)
      (seriesTaken_legEvent (f := fun s => s.releaseLeg l) (x := { s.leg l with holdRequest := false }) rest Cause.noConfusion
        (ne_of_eq_of_ne held (by decide)) (releaseLeg_leaves held timer) rfl rfl rfl chosen)
    rw [held] at notices
    refine ⟨t, step, begun, ?_, holdAsserted_training begun.1.1, ?_, kept, port, notices⟩ <;> rw [leg] <;> rfl
  · have body := expireHold_stays asked
    rw [expires held timer, legEvent_same, body]
    · rw [body]
      exact rest
    · rw [body, State.leg_modLeg]
  · obtain ⟨begun, leg, kept, port, notices⟩ :=
      seriesTaken_legEvent (f := fun s => s.expireHold l) (x := { s.leg l with holdTimer := none }) (e := .train .first) rest
        Cause.noConfusion (ne_of_eq_of_ne held (by decide)) (expireHold_leaves free) rfl rfl rfl chosen
    rw [held] at notices
    refine ⟨_, expires held timer, begun, ?_, holdAsserted_training begun.1.1, kept, port, notices⟩
    rw [leg]
    rfl

end Sys2Proof.Machine

/-! A leg whose paths are all PARKED: the entry to HELD from a state without jobs (spec/02 R26), and LEG RETRAIN and LEG RESTORE
WIDTH (R37, R38). -/

namespace Sys2Proof.Machine

/-! ### Paths that park -/

/-- Places, path states and monitors are the same, and faces differ by their status alone. -/
structure State.restLike (s u : State) : Prop where
  place : ∀ p : PathId, u.place p = s.place p
  path : ∀ p : PathId, u.path p = s.path p
  monitor : ∀ f : FaceId, u.monitor f = s.monitor f
  face : ∀ f : FaceId, (s.face f).sameSet (u.face f)

theorem restLike_refl (s : State) : s.restLike s := ⟨fun _ => rfl, fun _ => rfl, fun _ => rfl, fun _ => rfl⟩

theorem restLike_trans {s t u : State} (h : s.restLike t) (h' : t.restLike u) : s.restLike u where
  place p := (h'.place p).trans (h.place p)
  path p := (h'.path p).trans (h.path p)
  monitor f := (h'.monitor f).trans (h.monitor f)
  face f := Face.sameSet_trans (h.face f) (h'.face f)

theorem restLike_of_eq {s u : State} (map : u.map = s.map) (plan : u.plan = s.plan) (paths : u.paths = s.paths)
    (monitors : u.monitors = s.monitors) (faces : u.faces = s.faces) : s.restLike u where
  place p := by simp only [State.place, map, plan]
  path p := by simp only [State.path, paths]
  monitor f := by simp only [State.monitor, monitors]
  face f := by
    have face : u.face f = s.face f := by simp only [State.face, faces]
    rw [face]
    rfl

theorem restLike_modLeg (s : State) (l : LegId) (g : Leg → Leg) : s.restLike (s.modLeg l g) :=
  restLike_of_eq rfl rfl rfl rfl rfl

section
variable {s u : State} {l : LegId}

theorem restLike_setLegState (st : LegState) : u.restLike (u.setLegState l st) := by
  unfold State.setLegState
  rw [judge_footprint]
  exact restLike_of_eq rfl rfl rfl rfl rfl

theorem monitor_parkLeg (f : FaceId) : (u.parkLeg l).monitor f =
    if u.faceLeg f = some l ∧ u.path (facePath f) ≠ .parked then (u.monitor f).stop else u.monitor f := by
  rw [State.parkLeg, monitor_setPaths]
  refine if_congr ?_ rfl rfl
  rw [mem_legPaths, State.faceLeg]
  exact and_congr Iff.rfl (and_iff_left rfl)

theorem face_parkLeg (f : FaceId) : (u.parkLeg l).face f =
    if u.faceLeg f = some l ∧ u.path (facePath f) ≠ .parked then (u.face f).settled else u.face f := by
  rw [State.parkLeg, face_setPaths]
  refine if_congr ?_ rfl rfl
  rw [mem_legPaths, State.faceLeg]
  exact and_congr Iff.rfl (and_iff_left rfl)

/-- Parking a leg, and what only moves training statuses before and after it, leaves every path of the leg PARKED (R9). -/
theorem legParked_parkLeg {t : State} (before : s.restLike u) (after : (u.parkLeg l).restLike t) : s.legParked t l := by
  intro p own
  have place : u.pathLeg p = some l := by
    rw [State.pathLeg, before.place]
    exact own
  have mine (f : FaceId) (hf : facePath f = p) : u.faceLeg f = some l := by rw [State.faceLeg, hf, place]
  refine ⟨by rw [after.path, path_parkLeg, if_pos place], ?_⟩
  by_cases parked : s.path p = .parked
  · rw [if_pos parked]
    intro f hf
    have stays : ¬(u.faceLeg f = some l ∧ u.path (facePath f) ≠ .parked) := by
      rw [hf, before.path]
      exact fun h => h.2 parked
    have monitor := after.monitor f
    have face := after.face f
    rw [monitor_parkLeg, if_neg stays, before.monitor] at monitor
    rw [face_parkLeg, if_neg stays] at face
    exact ⟨monitor, Face.sameSet_trans (before.face f) face⟩
  · rw [if_neg parked]
    intro f hf
    have enters : u.faceLeg f = some l ∧ u.path (facePath f) ≠ .parked := by
      rw [hf, before.path]
      exact ⟨mine f hf, parked⟩
    have monitor := after.monitor f
    have face := after.face f
    rw [monitor_parkLeg, if_pos enters] at monitor
    rw [face_parkLeg, if_pos enters] at face
    rw [monitor]
    exact ⟨rfl, rfl, rfl, Face.sameSet_trans (Face.sameSet_settled (before.face f)) face⟩

theorem legWork_parkLeg : u.legWork (u.parkLeg l) := legWork_setPaths u _ _

theorem othersKept_parkLeg : u.othersKept (u.parkLeg l) l := by
  refine othersKept_of_legWork legWork_parkLeg (fun k _ => State.leg_setPaths _ _ _ k) (fun p hp => ?_) (fun f hf => ?_)
  · rw [path_parkLeg, if_neg hp]
  · rw [monitor_parkLeg, face_parkLeg, if_neg (fun h => hf h.1), if_neg (fun h => hf h.1)]
    exact ⟨rfl, rfl⟩

theorem othersKept_setLegState (st : LegState) : u.othersKept (u.setLegState l st) l := by
  refine othersKept_of_legWork (legWork_setLegState u l st) (fun k hk => ?_) (fun p _ => (restLike_setLegState st).path p)
    (fun f _ => ?_)
  · rw [leg_setLegState_eq, if_neg hk]
  · unfold State.setLegState
    rw [judge_footprint]
    exact ⟨rfl, rfl⟩

theorem othersKept_refl (s : State) (l : LegId) : s.othersKept s l :=
  ⟨fun _ _ => ⟨rfl, rfl⟩, fun _ _ => ⟨rfl, rfl, rfl, rfl, rfl⟩, rfl, rfl, rfl, rfl, rfl, rfl, rfl, rfl, rfl, rfl, rfl⟩

/-- The leg parks and its context changes to one of another state. -/
def State.parkedAs (u : State) (l : LegId) (g : Leg → Leg) (st : LegState) : State :=
  ((u.parkLeg l).modLeg l g).setLegState l st

theorem leg_parkedAs (g : Leg → Leg) (st : LegState) : (u.parkedAs l g st).leg l = { g (u.leg l) with state := st } := by
  rw [State.parkedAs, leg_setLegState_eq, if_pos rfl, State.leg_modLeg, State.parkLeg, State.leg_setPaths]

theorem legWork_parkedAs (g : Leg → Leg) (st : LegState) : u.legWork (u.parkedAs l g st) :=
  legWork_trans (legWork_trans legWork_parkLeg (legWork_modLeg _ l g)) (legWork_setLegState _ l st)

theorem sent_parkedAs (g : Leg → Leg) (st : LegState) : (u.parkedAs l g st).sent = u.sent := by
  unfold State.parkedAs State.setLegState
  rw [judge_footprint]
  show (u.parkLeg l).sent = u.sent
  rw [parkLeg_footprint]

theorem othersKept_parkedAs (g : Leg → Leg) (st : LegState) : u.othersKept (u.parkedAs l g st) l :=
  othersKept_trans (othersKept_trans othersKept_parkLeg (othersKept_modLeg _ l g)) (othersKept_setLegState st)

theorem legParked_parkedAs (before : s.restLike u) (g : Leg → Leg) (st : LegState) : s.legParked (u.parkedAs l g st) l :=
  legParked_parkLeg before (restLike_trans (restLike_modLeg _ l g) (restLike_setLegState st))

/-! ### HELD, from a state that has no jobs -/

/-- The leg context of an entry to HELD (R26), before the state changes. -/
def Leg.holding (x : Leg) (c : TrainCause) : Leg :=
  { x with
    attemptCount := 0, currentWidth := 0, agreedRate := none, failureCause := none, group := 0#4, trainingCause := c,
    limitTimer := none, trimTimer := none, holdTimer := some x.holdMinimum }

theorem enterHeld_untrained (c : TrainCause) (untrained : isTrained (u.leg l).state = false) :
    u.enterHeld l c = u.parkedAs l (fun x => x.holding c) .held := by
  unfold State.enterHeld
  simp only [untrained, Bool.false_eq_true, if_false]
  rfl

theorem leg_enterHeld_untrained (c : TrainCause) (untrained : isTrained (u.leg l).state = false) :
    (u.enterHeld l c).leg l = (u.leg l).heldWith c := by
  rw [enterHeld_untrained c untrained, leg_parkedAs, Leg.heldWith]
  simp only [untrained, Bool.false_eq_true, if_false]
  rfl

end

/-! ### An entry to HELD that is taken -/

section
variable {s : State} {l : LegId}

/-- A leg controller's taking that enters HELD from a state without jobs has been done. -/
def State.heldTaken (s t : State) (l : LegId) (x : Leg) (c : TrainCause) (cause : Cause) : Prop :=
  t.leg l = x.heldWith c ∧ s.othersKept t l ∧ s.legParked t l ∧ t.sent = s.sent ∧ t.resultOwed = s.resultOwed
  ∧ s.engine.sameBut t.engine ∧ t.test l = s.test l ∧ t.wires = s.wires ∧ t.port = s.port
  ∧ t.notices = s.notices.take (.legState s.clock.stamp l (s.leg l).state .held cause 0)

theorem noticeCause_rest {e : Cause} {x : Leg} (rests : x.state = .held ∨ x.state = .off ∨ x.state = .absent) :
    noticeCause e x = e := by
  rcases rests with h | h | h <;> cases e <;> simp [noticeCause, h]

theorem engine_parkedAs {u : State} (g : Leg → Leg) (st : LegState) : u.engine.sameBut (u.parkedAs l g st).engine := by
  unfold State.parkedAs State.setLegState
  rw [judge_footprint]
  exact engine_setPaths _ _ _

/-- An event that changes the leg's own context and then enters HELD. -/
theorem heldTaken_legEvent {e : Cause} {f : State → State} {x : Leg} {c : TrainCause} (rest : s.tableAtRest)
    (moves : (s.leg l).state ≠ .held) (untrained : isTrained x.state = false)
    (enters : f s = (s.modLeg l (fun _ => x)).enterHeld l c) : s.heldTaken (s.legEvent l e f) l x c e := by
  have own : (s.modLeg l (fun _ => x)).leg l = x := State.leg_modLeg s l _
  have quiet : isTrained ((s.modLeg l (fun _ => x)).leg l).state = false := by
    rw [own]
    exact untrained
  have held := enterHeld_untrained c quiet
  have leg := leg_enterHeld_untrained c quiet
  have work := legWork_trans (legWork_modLeg s l (fun _ => x)) (legWork_parkedAs (l := l) (fun x => x.holding c) .held)
  have kept := othersKept_trans (othersKept_modLeg s l (fun _ => x)) (othersKept_parkedAs (fun x => x.holding c) .held)
  have parked := legParked_parkedAs (l := l) (restLike_modLeg s l (fun _ => x)) (fun x => x.holding c) .held
  have sent := sent_parkedAs (u := s.modLeg l (fun _ => x)) (l := l) (fun x => x.holding c) .held
  have engine := engine_parkedAs (u := s.modLeg l (fun _ => x)) (l := l) (fun x => x.holding c) .held
  rw [held] at enters leg
  rw [own] at leg
  generalize (s.modLeg l (fun _ => x)).parkedAs l (fun x => x.holding c) .held = u at *
  have table : (f s).tableAtRest := by
    rw [enters, work]
    exact rest
  have moved : ((f s).leg l).state ≠ (s.leg l).state := by
    rw [enters, leg]
    exact moves.symm
  have notice : s.moveNotice u l e = .legState s.clock.stamp l (s.leg l).state .held e 0 := by
    have stamp : u.stamp = s.clock.stamp := by
      rw [State.stamp, work]
    rw [State.moveNotice, leg, noticeCause_rest (.inl rfl), stamp]
    rfl
  rw [legEvent_moved table moved, enters, notice]
  have fields : u.resultOwed = s.resultOwed ∧ u.test l = s.test l ∧ u.wires = s.wires ∧ u.port = s.port
      ∧ u.notices = s.notices := by
    rw [work]
    exact ⟨rfl, rfl, rfl, rfl, rfl⟩
  obtain ⟨owed, test, wires, port, notices⟩ := fields
  exact ⟨leg, kept, parked, sent, owed, engine, test, wires, port, congrArg (NoticeQueue.take · _) notices⟩

/-- The same for a request that its leg controller takes as such an event. -/
theorem heldTaken_request {tag code : Byte} {act : State → Answer} {e : Cause} {f : State → State} {x : Leg} {c : TrainCause}
    (hport : s.takesRequests)
    (acts : act (s.acceptWrite (requestFrame tag code [byte l.val])) =
      .plain ((s.acceptWrite (requestFrame tag code [byte l.val])).legEvent l e f) .done)
    (taken : (s.acceptWrite (requestFrame tag code [byte l.val])).heldTaken
      ((s.acceptWrite (requestFrame tag code [byte l.val])).legEvent l e f) l x c e) :
    ∃ t, takeRequest code tag [byte l.val] act s = .next t
      ∧ t.port = (s.answered tag code [byte l.val] .done []).port ∧ t.leg l = x.heldWith c ∧ s.othersKept t l
      ∧ s.legParked t l ∧ t.sent = s.sent ∧ t.resultOwed = s.resultOwed ∧ s.engine.sameBut t.engine ∧ t.test l = s.test l
      ∧ t.notices = s.notices.take (.legState s.clock.stamp l (s.leg l).state .held e 0) := by
  obtain ⟨leg, kept, parked, sent, owed, engine, test, -, port, notices⟩ := taken
  exact ⟨_, takeRequest_acted hport (by decide : 1 ≤ 128) acts port, rfl, leg, kept, parked, sent, owed, engine, test, notices⟩

/-! ### LEG RETRAIN and LEG RESTORE WIDTH -/

theorem legRetrainAct_byte (s : State) (l : LegId) : legRetrainAct [byte l.val] s =
    match (s.leg l).state with
    | .active | .degraded => .plain (s.legEvent l (.train .host) (fun s => s.startSeries l .host)) .done
    | .failed => .plain (s.legEvent l (.train .host) (fun s => s.enterHeld l .host)) .done
    | .off | .absent | .held | .training | .test => .plain s .wrongState := legRequest_byte s l _

theorem legRetrainAct_linked (h : isLinked (s.leg l).state = true) :
    legRetrainAct [byte l.val] s = .plain (s.legEvent l (.train .host) (fun s => s.startSeries l .host)) .done := by
  rw [legRetrainAct_byte]
  cases st : (s.leg l).state with
  | active | degraded => rfl
  | _ =>
    rw [st] at h
    exact absurd h (by decide)

theorem modLeg_self (s : State) (l : LegId) : s.modLeg l (fun _ => s.leg l) = s := by
  have legs : (s.modLeg l (fun _ => s.leg l)).legs = s.legs := by
    refine Vector.ext fun i hi => ?_
    have same := State.leg_modLeg_eq s l ⟨i, hi⟩ (fun _ => s.leg l)
    by_cases own : (⟨i, hi⟩ : LegId) = l
    · rw [if_pos own, ← own] at same
      subst own
      exact same
    · rw [if_neg own] at same
      exact same
  calc s.modLeg l (fun _ => s.leg l) = { s with legs := (s.modLeg l (fun _ => s.leg l)).legs } := rfl
    _ = s := by rw [legs]

theorem startSeries_own {x : Leg} (own : s.leg l = x) (c : TrainCause) :
    s.startSeries l c = (s.modLeg l (fun _ => x)).startSeries l c := by rw [← own, modLeg_self]

theorem enterHeld_own {x : Leg} (own : s.leg l = x) (c : TrainCause) :
    s.enterHeld l c = (s.modLeg l (fun _ => x)).enterHeld l c := by rw [← own, modLeg_self]

theorem restoreWidth_stays (h : (s.leg l).state ≠ .degraded) :
    s.restoreWidth l = s.modLeg l (fun x => { x with excluded := 0#4 }) := by
  unfold State.restoreWidth
  simp only [if_neg h]

theorem restoreWidth_leaves (h : (s.leg l).state = .degraded) :
    s.restoreWidth l = (s.modLeg l (fun _ => { s.leg l with excluded := 0#4 })).startSeries l .restore := by
  unfold State.restoreWidth
  simp only [if_pos h]
  rfl

end

/-- Settles O21, by the series or the entry to HELD that each taking makes. -/
theorem retrainAndRestoreTakeEffect : Obligations.RetrainAndRestoreTakeEffect := by
  intro s tag l hport rest
  have restores (u : State) : legRestoreWidthAct [byte l.val] u =
      .plain (u.legEvent l (.train .restore) (fun s => s.restoreWidth l)) .done := legRequest_byte u l _
  refine ⟨fun refused => ?_, fun linked w g chosen => ?_, fun failed => ?_, fun stays => ?_, fun degraded w g chosen => ?_⟩
  · refine takeRequest_taken hport (by decide : 1 ≤ 128) ?_ (.inr rfl)
    rw [legRetrainAct_byte]
    have leg (bytes : List Byte) : (s.acceptWrite bytes).leg l = s.leg l := rfl
    simp only [List.mem_cons, List.not_mem_nil, or_false] at refused
    rcases refused with h | h | h | h | h <;> simp only [leg, h] <;> rfl
  · have moves : (s.leg l).state ≠ .training := fun h => by
      rw [h] at linked
      exact absurd linked (by decide)
    have taken (u : State) (own : u.leg l = s.leg l) (table : u.tableAtRest) :=
      seriesTaken_legEvent (f := fun s => s.startSeries l .host) (e := .train .host) (x := s.leg l) table Cause.noConfusion
        (by rw [own]; exact moves) (startSeries_own own .host) (by rw [own]) (by rw [own]) (by rw [own]) chosen
    obtain ⟨t, step, begun, leg, kept, port, notices⟩ := seriesTaken_request hport (legRetrainAct_linked linked)
      (taken _ rfl rest)
    refine ⟨t, step, begun, ?_, kept, port, notices⟩
    rw [leg]
    rfl
  · have acts (u : State) (same : (u.leg l).state = .failed) : legRetrainAct [byte l.val] u =
        .plain (u.legEvent l (.train .host) (fun s => s.enterHeld l .host)) .done := by
      rw [legRetrainAct_byte]
      simp only [same]
    have taken (u : State) (own : u.leg l = s.leg l) (table : u.tableAtRest) :=
      heldTaken_legEvent (f := fun s => s.enterHeld l .host) (e := .train .host) (x := s.leg l) table
        (by rw [own, failed]; decide) (by rw [failed]; rfl) (enterHeld_own own .host)
    obtain ⟨t, step, port, leg, kept, parked, sent, owed, -, -, notices⟩ := heldTaken_request hport (acts _ failed)
      (taken _ rfl rest)
    rw [failed] at notices
    exact ⟨t, step, leg, kept, parked, sent, owed, port, notices⟩
  · have body (u : State) (away : (u.leg l).state ≠ .degraded) (table : u.tableAtRest) :
        u.legEvent l (.train .restore) (fun s => s.restoreWidth l) = u.modLeg l (fun x => { x with excluded := 0#4 }) := by
      rw [legEvent_same, restoreWidth_stays away]
      · rw [restoreWidth_stays away]
        exact table
      · rw [restoreWidth_stays away, State.leg_modLeg]
    exact takeRequest_taken hport (by decide : 1 ≤ 128)
      ((restores _).trans (congrArg (Answer.plain · Result.done) (body _ stays rest))) (.inr rfl)
  · obtain ⟨t, step, begun, leg, kept, port, notices⟩ := seriesTaken_request hport (restores _)
      (seriesTaken_legEvent (f := fun s => s.restoreWidth l) (x := { s.leg l with excluded := 0#4 }) rest Cause.noConfusion
        (ne_of_eq_of_ne degraded (by decide)) (restoreWidth_leaves degraded) rfl rfl rfl chosen)
    rw [degraded] at notices
    refine ⟨t, step, begun, ?_, kept, port, notices⟩
    rw [leg]
    rfl

end Sys2Proof.Machine

/-! The ends of a pattern test (spec/09 R154, R155). -/

namespace Sys2Proof.Machine

/-! ### Generators that stop -/

theorem generators_setGenerator_get (s : State) (f : FaceId) (v : Option Stages) (g : FaceId) :
    (s.setGenerator f v).generators[g] = if g = f then v else s.generators[g] := by
  rw [State.generators_setGenerator]
  by_cases same : g = f
  · subst same
    rw [if_pos rfl, modAt_same]
  · rw [if_neg same, modAt_other _ _ _ _ same]

/-- A list of faces whose generators are set. -/
theorem generators_setGenerators {α : Type} (face : α → FaceId) (v : Option Stages) (xs : List α) (s : State) (g : FaceId) :
    (xs.foldl (fun s x => s.setGenerator (face x) v) s).generators[g] =
      if ∃ x ∈ xs, face x = g then v else s.generators[g] := by
  induction xs generalizing s with
  | nil => simp
  | cons x xs ih =>
    rw [List.foldl_cons, ih, generators_setGenerator_get]
    by_cases own : face x = g
    · simp [own]
    · simp [own, Ne.symm own]

theorem setGenerators_footprint {α : Type} (face : α → FaceId) (v : Option Stages) (xs : List α) (s : State) :
    xs.foldl (fun s x => s.setGenerator (face x) v) s =
      { s with generators := (xs.foldl (fun s x => s.setGenerator (face x) v) s).generators } :=
  foldl_rel (R := fun a b => b = { a with generators := b.generators }) (fun _ => rfl)
    (fun _ _ _ h h' => by rw [h', h]) (fun _ _ => rfl) xs s

section
variable {s : State} {l : LegId} {r : TestRecord}

theorem stopGenerators_footprint (s : State) (r : TestRecord) :
    s.stopGenerators r = { s with generators := (s.stopGenerators r).generators } := setGenerators_footprint _ _ _ s

theorem generators_stopGenerators {c : CheckerRecord} (hc : c ∈ r.checkers) : (s.stopGenerators r).generators[c.face] = none := by
  refine (generators_setGenerators (·.face) none r.checkers s c.face).trans ?_
  rw [if_pos ⟨c, hc, rfl⟩]

/-! ### A test that ends -/

/-- The elapsed time that a test's end reports (R154, R155). -/
def TestRecord.endTime (r : TestRecord) (c : TestEnd) : Nat := if c = .limit then 1000 * r.limit else r.elapsed

/-- The record of a test that has ended (R155). -/
def TestRecord.endedBy (r : TestRecord) (c : TestEnd) : TestRecord :=
  { r with status := .ended, endCause := some c, elapsed := r.endTime c, limitTimer := none }

theorem endTest_running (c : TestEnd) (test : s.test l = some r) (running : r.status = .running) :
    s.endTest l c = ((s.stopGenerators r).setTest l (some (r.endedBy c))).raiseNotice
      (.testDone s.clock.stamp l c (r.endTime c) r.checkers) := by
  have stamp : ((s.stopGenerators r).setTest l (some (r.endedBy c))).stamp = s.clock.stamp := by
    rw [stopGenerators_footprint]
    rfl
  rw [← stamp]
  unfold State.endTest
  simp only [test, if_pos running]
  rfl

/-- What a test's end leaves of the rest. -/
theorem endTest_footprint (c : TestEnd) (test : s.test l = some r) (running : r.status = .running) : s.endTest l c =
    { s with
      generators := (s.stopGenerators r).generators
      tests := modAt s.tests l (fun _ => some (r.endedBy c))
      notices := s.notices.take (.testDone s.clock.stamp l c (r.endTime c) r.checkers) } := by
  rw [endTest_running c test running, stopGenerators_footprint]
  rfl

theorem othersKept_endTest (c : TestEnd) (test : s.test l = some r) (running : r.status = .running) :
    s.othersKept (s.endTest l c) l := by
  rw [endTest_footprint c test running]
  refine ⟨fun k hk => ⟨rfl, ?_⟩, fun _ _ => ⟨rfl, rfl, rfl, rfl, rfl⟩, rfl, rfl, rfl, rfl, rfl, rfl, rfl, rfl, rfl, rfl, rfl⟩
  exact State.test_setTest_other s l k _ hk

theorem attemptLike_endTest (c : TestEnd) (test : s.test l = some r) (running : r.status = .running) :
    s.attemptLike (s.endTest l c) l := by
  rw [endTest_footprint c test running]
  exact attemptLike_of_eq rfl rfl rfl rfl rfl rfl rfl rfl

theorem leg_endTest (c : TestEnd) (test : s.test l = some r) (running : r.status = .running) (k : LegId) :
    (s.endTest l c).leg k = s.leg k := by
  rw [endTest_footprint c test running]
  rfl

/-! ### A test that ends with the leg's return to TRAINING -/

/-- The test of the leg has ended and its next series has begun. -/
def State.testLeft (s t : State) (l : LegId) (r : TestRecord) (cause : TestEnd) (c : TrainCause) (w : Nat) (g : PosSet) : Prop :=
  t.test l = some (r.endedBy cause) ∧ (∀ k ∈ r.checkers, t.generators[k.face] = none)
  ∧ s.seriesBegun t l c w g ∧ (t.leg l).excluded = (s.leg l).excluded ∧ s.othersKept t l
  ∧ t.notices = (s.notices.take (.testDone s.clock.stamp l cause (r.endTime cause) r.checkers)).take
      (.legState s.clock.stamp l .test .training (.train c) w)

theorem testLeft_leaveTest {w : Nat} {g : PosSet} (rest : s.tableAtRest) (cause : TestEnd) (c : TrainCause)
    (state : (s.leg l).state = .test) (test : s.test l = some r) (running : r.status = .running)
    (chosen : selectWidth (s.leg l).configuredWidth (s.leg l).minimumWidth (s.leg l).excluded = some (w, g)) :
    s.testLeft (s.leaveTest l cause c) l r cause c w g ∧ (s.leaveTest l cause c).port = s.port := by
  have own := leg_endTest cause test running l
  have foot := endTest_footprint cause test running
  have taken : s.seriesFrom (s.endTest l cause) (s.leaveTest l cause c) l c w g :=
    seriesFrom_legEvent rest Cause.noConfusion (ne_of_eq_of_ne state (by decide)) rfl (attemptLike_endTest cause test running)
      (by rw [foot]) (othersKept_endTest cause test running) (by rw [own]; exact chosen)
  obtain ⟨begun, leg, kept, port, notices, tests, generators⟩ := taken
  have port' : (s.endTest l cause).port = s.port := by rw [foot]
  rw [own] at leg
  rw [foot, state] at notices
  refine ⟨⟨?_, fun k hk => ?_, begun, by rw [leg]; rfl, kept, notices⟩, port.trans port'⟩
  · rw [State.test, tests, foot]
    exact State.test_setTest s l _
  · rw [generators, foot]
    exact generators_stopGenerators hk

end

/-- Settles O46, by the test's end and the series that follows it. -/
theorem testsEndByStopAndLimit : Obligations.TestsEndByStopAndLimit := by
  intro s tag l rest
  have stops (u : State) : testStopAct [byte l.val] u =
      if (u.leg l).state = .test then .plain (u.leaveTest l .stop .testEnd) .done else .plain u .wrongState :=
    legRequest_byte u l _
  refine ⟨fun hport away => ?_, fun r w g state test running chosen => ⟨fun hport => ?_, fun limited => ?_⟩⟩
  · exact takeRequest_taken hport (by decide : 1 ≤ 128) ((stops _).trans (if_neg away)) (.inr rfl)
  · have left (u : State) (legs : u.leg l = s.leg l) (tests : u.test l = s.test l) (table : u.tableAtRest) :=
      testLeft_leaveTest (s := u) (w := w) (g := g) table .stop .testEnd (by rw [legs, state]) (by rw [tests, test]) running
        (by rw [legs, chosen])
    obtain ⟨⟨record, stopped, begun, excluded, kept, notices⟩, port⟩ :=
      left (s.acceptWrite (requestFrame tag 0x61#8 [byte l.val])) rfl rfl rest
    have step := takeRequest_acted (body := [byte l.val]) hport (by decide : 1 ≤ 128) ((stops _).trans (if_pos state)) port
    generalize (s.acceptWrite (requestFrame tag 0x61#8 [byte l.val])).leaveTest l .stop .testEnd = t at *
    exact ⟨_, step, ⟨record, stopped, begun, excluded, kept, notices⟩, rfl⟩
  · obtain ⟨done, port⟩ := testLeft_leaveTest rest .limit .testEnd state test running chosen
    refine ⟨_, congrArg Host.Outcome.next ?_, done, port⟩
    rw [test]
    exact if_pos ⟨running, limited, state⟩

end Sys2Proof.Machine

/-! LEG ENABLE (spec/02 R22). -/

namespace Sys2Proof.Machine

theorem modAt_modAt {α : Type} {n : Nat} (v : Vector α n) (i : Fin n) (g k : α → α) :
    modAt (modAt v i g) i k = modAt v i (fun x => k (g x)) := by simp [modAt]

theorem State.modLeg_modLeg (s : State) (l : LegId) (g k : Leg → Leg) :
    (s.modLeg l g).modLeg l k = s.modLeg l (fun x => k (g x)) :=
  congrArg (fun legs => { s with legs := legs }) (modAt_modAt s.legs l g k)

section
variable {s u : State} {l : LegId}

/-! ### A leg that stands down without jobs (R21 to R25) -/

/-- The leg context changes, its alert latch clears and its state becomes another. -/
def State.stoodAs (u : State) (l : LegId) (g : Leg → Leg) (st : LegState) : State :=
  ((u.modLeg l g).setLatch l false).setLegState l st

theorem leg_stoodAs (g : Leg → Leg) (st : LegState) : (u.stoodAs l g st).leg l = { g (u.leg l) with state := st } := by
  rw [State.stoodAs, leg_setLegState_eq, if_pos rfl]
  show { (u.modLeg l g).leg l with state := st } = _
  rw [State.leg_modLeg]

theorem stoodAs_footprint (g : Leg → Leg) (st : LegState) : u.stoodAs l g st =
    { u with
      legs := (u.stoodAs l g st).legs, wires := modAt u.wires l (fun w => { w with alertLatch := false })
      frame := (u.stoodAs l g st).frame } := by
  unfold State.stoodAs State.setLegState
  rw [judge_footprint]
  rfl

theorem wiresOf_stoodAs (g : Leg → Leg) (st : LegState) :
    (u.stoodAs l g st).wiresOf l = { u.wiresOf l with alertLatch := false } := by
  rw [stoodAs_footprint]
  exact modAt_same _ _ _

theorem leg_stoodAs_other (g : Leg → Leg) (st : LegState) {k : LegId} (hk : k ≠ l) : (u.stoodAs l g st).leg k = u.leg k := by
  rw [State.stoodAs, leg_setLegState_eq, if_neg hk]
  exact State.leg_modLeg_other u l k g hk

theorem othersKept_stoodAs (g : Leg → Leg) (st : LegState) : u.othersKept (u.stoodAs l g st) l := by
  have legs {k : LegId} (hk : k ≠ l) := leg_stoodAs_other (u := u) g st hk
  have foot := stoodAs_footprint (u := u) (l := l) g st
  generalize u.stoodAs l g st = t at *
  rw [foot]
  rw [foot] at legs
  exact ⟨fun k hk => ⟨legs hk, rfl⟩, fun _ _ => ⟨rfl, rfl, rfl, rfl, rfl⟩, rfl, rfl, rfl, rfl, rfl, rfl, rfl, rfl, rfl, rfl,
    rfl⟩

/-- An event after which the leg rests in OFF or ABSENT without having had a job or an attempt to end. -/
def State.stoodTaken (s t : State) (l : LegId) (x : Leg) (cause : Cause) : Prop :=
  t.leg l = x ∧ t.wiresOf l = { s.wiresOf l with alertLatch := false } ∧ s.othersKept t l ∧ t.port = s.port
  ∧ t.paths = s.paths ∧ t.faces = s.faces ∧ t.monitors = s.monitors ∧ t.engine = s.engine ∧ t.test l = s.test l
  ∧ t.sent = s.sent ∧ t.resultOwed = s.resultOwed
  ∧ t.notices = s.notices.take (.legState s.clock.stamp l (s.leg l).state x.state cause x.currentWidth)

theorem stoodTaken_legEvent {e : Cause} {f : State → State} {g : Leg → Leg} {st : LegState} (rest : s.tableAtRest)
    (rests : st = .off ∨ st = .absent) (moves : (s.leg l).state ≠ st) (stands : f s = s.stoodAs l g st) :
    s.stoodTaken (s.legEvent l e f) l { g (s.leg l) with state := st } e := by
  have leg := leg_stoodAs (u := s) (l := l) g st
  have wires := wiresOf_stoodAs (u := s) (l := l) g st
  have kept := othersKept_stoodAs (u := s) (l := l) g st
  have foot := stoodAs_footprint (u := s) (l := l) g st
  generalize s.stoodAs l g st = u at *
  have atRest : (f s).tableAtRest := by
    rw [stands, foot]
    exact rest
  have moved : ((f s).leg l).state ≠ (s.leg l).state := by
    rw [stands, leg]
    exact moves.symm
  have notice : s.moveNotice u l e = .legState s.clock.stamp l (s.leg l).state st e (g (s.leg l)).currentWidth := by
    have stamp : u.stamp = s.clock.stamp := by
      rw [State.stamp, foot]
    rw [State.moveNotice, leg, noticeCause_rest (.inr rests), stamp]
  have fields : u.port = s.port ∧ u.paths = s.paths ∧ u.faces = s.faces ∧ u.monitors = s.monitors ∧ u.engine = s.engine
      ∧ u.test l = s.test l ∧ u.sent = s.sent ∧ u.resultOwed = s.resultOwed ∧ u.notices = s.notices := by
    rw [foot]
    exact ⟨rfl, rfl, rfl, rfl, rfl, rfl, rfl, rfl, rfl⟩
  obtain ⟨port, paths, faces, monitors, engine, test, sent, owed, notices⟩ := fields
  rw [legEvent_moved atRest moved, stands, notice]
  exact ⟨leg, wires, kept, port, paths, faces, monitors, engine, test, sent, owed, congrArg (NoticeQueue.take · _) notices⟩

/-! ### LEG ENABLE -/

theorem enableLeg_present (present : (s.wiresOf l).present.asserted = true) :
    s.enableLeg l = (s.modLeg l (fun _ => { s.leg l with enabled := true })).enterHeld l .first := if_pos present

theorem enableLeg_absent (absent : (s.wiresOf l).present.asserted = false) :
    s.enableLeg l = s.stoodAs l (fun x => { x with enabled := true, attemptCount := 0, excluded := 0#4 }) .absent := by
  unfold State.enableLeg
  simp only [absent, Bool.false_eq_true, if_false]
  unfold State.stoodAs State.clearCounts
  rw [State.modLeg_modLeg]

theorem legEnableAct_byte (s : State) (l : LegId) : legEnableAct [byte l.val] s =
    if (s.leg l).configuredWidth = 0 then .plain s .wrongState
    else if (s.leg l).state = .off then .plain (s.legEvent l .enable (fun s => s.enableLeg l)) .done
    else .plain s .done := legRequest_byte s l _

theorem legEnableAct_off (some : (s.leg l).configuredWidth ≠ 0) (off : (s.leg l).state = .off) :
    legEnableAct [byte l.val] s = .plain (s.legEvent l .enable (fun s => s.enableLeg l)) .done := by
  rw [legEnableAct_byte, if_neg some, if_pos off]

end

/-- Settles O19, by the entry to HELD where the partner is present, and to ABSENT where it is not. -/
theorem legEnableTakesEffect : Obligations.LegEnableTakesEffect := by
  intro s tag l hport rest
  refine ⟨fun unmapped => ?_, fun mapped on => ?_, fun mapped off => ?_⟩
  · exact takeRequest_taken hport (by decide : 1 ≤ 128) ((legEnableAct_byte _ l).trans (if_pos unmapped)) (.inr rfl)
  · exact takeRequest_taken hport (by decide : 1 ≤ 128)
      ((legEnableAct_byte _ l).trans ((if_neg mapped).trans (if_neg on))) (.inr rfl)
  · have acts (bytes : List Byte) := legEnableAct_off (s := s.acceptWrite bytes) (l := l) mapped off
    cases present : (s.wiresOf l).present.asserted with
    | true =>
      have taken (u : State) (table : u.tableAtRest) (own : u.leg l = s.leg l) (wires : u.wiresOf l = s.wiresOf l) :=
        heldTaken_legEvent (s := u) (f := fun s => s.enableLeg l) (e := .enable) (x := { u.leg l with enabled := true }) table
          (by rw [own, off]; decide) (by rw [own, off]; rfl) (enableLeg_present (by rw [wires, present]))
      obtain ⟨t, step, port, leg, kept, parked, sent, owed, -, -, notices⟩ := heldTaken_request hport (acts _) (taken _ rest rfl rfl)
      rw [off] at notices
      refine ⟨t, step, port, kept, leg, fun _ => parked, fun h => absurd h (by decide), sent, owed, ?_⟩
      rw [notices, leg]
      rfl
    | false =>
      have taken (u : State) (table : u.tableAtRest) (own : u.leg l = s.leg l) (wires : u.wiresOf l = s.wiresOf l) :=
        stoodTaken_legEvent (s := u) (f := fun s => s.enableLeg l) (e := .enable) table (.inr rfl) (by rw [own, off]; decide)
          (enableLeg_absent (by rw [wires, present]))
      obtain ⟨leg, -, kept, port, paths, faces, monitors, -, -, sent, owed, notices⟩ :=
        taken (s.acceptWrite (requestFrame tag 0x21#8 [byte l.val])) rest rfl rfl
      have step := takeRequest_acted (body := [byte l.val]) hport (by decide : 1 ≤ 128) (acts _) port
      generalize (s.acceptWrite (requestFrame tag 0x21#8 [byte l.val])).legEvent l .enable (fun s => s.enableLeg l) = t at *
      refine ⟨_, step, rfl, kept, leg, fun h => absurd h (by decide), fun _ => ⟨paths, faces, monitors⟩, sent, owed, ?_⟩
      refine notices.trans ?_
      have legs : (({ t with port := s.port } : State).answered tag 0x21#8 [byte l.val] .done []).leg l = t.leg l := rfl
      rw [legs, leg, show ((s.acceptWrite _).leg l).state = _ from off]
      rfl

end Sys2Proof.Machine

/-! Cancellation of the jobs of a list of faces (spec/05 R96, R97): what the engine keeps, and which results are handed over. -/

namespace Sys2Proof.Machine

/-! ### Members of sets -/

theorem setHas_setAdd {w : Nat} (x : BitVec w) {n : Nat} (hn : n < w) (m : Nat) :
    setHas (setAdd x n) m = (setHas x m || decide (m = n)) := by
  unfold setHas setAdd
  rw [BitVec.getLsbD_or, BitVec.getLsbD_ofNat, Nat.testBit_two_pow]
  by_cases same : m = n
  · simp [same, hn]
  · simp [same, Ne.symm same]

theorem setHas_setDrop {w : Nat} (x : BitVec w) {n : Nat} (hn : n < w) (m : Nat) :
    setHas (setDrop x n) m = (setHas x m && !decide (m = n)) := by
  unfold setHas setDrop
  rw [BitVec.getLsbD_and, BitVec.getLsbD_not, BitVec.getLsbD_ofNat, Nat.testBit_two_pow]
  by_cases same : m = n
  · simp [same, hn]
  · by_cases inside : m < w
    · simp [same, Ne.symm same, inside]
    · simp [BitVec.getLsbD_of_ge x m (by omega)]

/-! ### Results handed over -/

/-- Results of jobs that end CANCELLED, handed over in order. -/
def State.handAll (s : State) (js : List Job) : State := js.foldl State.handCancelled s

/-- The JOB DONE notices of jobs that end CANCELLED. -/
def State.doneNotices (s : State) (js : List Job) : List Notice :=
  (js.filter (fun j => j.requester == .switch)).map (fun j => .jobDone s.clock.stamp j.tag j.face .cancelled none)

/-- The result-owed flags after CANCELLED results. -/
def owedAfter (owed : FaceSet) (js : List Job) : FaceSet :=
  js.foldl (fun o j => if j.isLegSweep then setDrop o j.face.val else o) owed

theorem handCancelled_eq (s : State) (j : Job) : s.handCancelled j =
    { s with
      notices := (s.doneNotices [j]).foldl NoticeQueue.take s.notices
      resultOwed := if j.isLegSweep then setDrop s.resultOwed j.face.val else s.resultOwed } := by
  unfold State.handCancelled State.jobNotice State.doneNotices
  by_cases sweep : j.isLegSweep = true
  · have leg : j.requester = .leg := by
      unfold Job.isLegSweep at sweep
      rw [Bool.and_eq_true] at sweep
      exact eq_of_beq sweep.2
    have quiet : [j].filter (fun j => j.requester == .switch) = [] := by simp [leg]
    rw [if_pos sweep, if_pos sweep, quiet]
    rfl
  · by_cases host : j.requester = .switch
    · simp only [sweep, host, Bool.false_eq_true, if_false, if_true, List.filter_cons, beq_self_eq_true]
      rfl
    · simp [sweep, host]

theorem handAll_eq (js : List Job) (s : State) : s.handAll js =
    { s with
      notices := (s.doneNotices js).foldl NoticeQueue.take s.notices
      resultOwed := owedAfter s.resultOwed js } := by
  induction js generalizing s with
  | nil => rfl
  | cons j js ih =>
    have step : s.handAll (j :: js) = (s.handCancelled j).handAll js := rfl
    have first : s.doneNotices (j :: js) = s.doneNotices [j] ++ s.doneNotices js := by
      unfold State.doneNotices
      rw [← List.map_append, ← List.filter_append]
      rfl
    rw [step, ih, handCancelled_eq, first, List.foldl_append]
    rfl

theorem setHas_owedAfter (js : List Job) (o : FaceSet) (f : FaceId) : setHas (owedAfter o js) f.val =
    (setHas o f.val && !js.any (fun j => j.kind == .sweep && j.requester == .leg && j.face == f)) := by
  induction js generalizing o with
  | nil => simp [owedAfter]
  | cons j js ih =>
    have step : owedAfter o (j :: js) = owedAfter (if j.isLegSweep then setDrop o j.face.val else o) js := rfl
    rw [step, ih, List.any_cons]
    by_cases sweep : j.isLegSweep = true
    · have same : decide (f.val = j.face.val) = (j.face == f) := by
        rw [beq_eq_decide, decide_eq_decide, eq_comm, Fin.ext_iff]
      have kinds : (j.kind == .sweep && j.requester == .leg) = true := sweep
      rw [if_pos sweep, setHas_setDrop o j.face.isLt, same, kinds, Bool.true_and, Bool.not_or, Bool.and_assoc]
    · have kinds : (j.kind == .sweep && j.requester == .leg) = false := Bool.eq_false_iff.mpr sweep
      rw [if_neg sweep, kinds, Bool.false_and, Bool.false_or]

/-! ### The engine -/

/-- The engine after the jobs of a face are cancelled. -/
def Engine.cancel (e : Engine) (f : FaceId) : Engine :=
  { e with
    queue := modAt e.queue f (fun _ => none)
    running := e.running.map (fun r => if r.job.face = f then { r with cancelling := true } else r)
    suspended := e.suspended.filter (fun x => !(x.job.face == f))
    held := e.held ++ (if e.running.any (fun r => r.job.face == f) then (e.queue[f]).toList else []) }

/-- The jobs of a face whose results its cancellation hands over at once. -/
def Engine.handed (e : Engine) (f : FaceId) : List Job :=
  ((e.suspended.map (·.job)).filter (fun j => j.face == f)).toList
    ++ (if e.running.any (fun r => r.job.face == f) then [] else (e.queue[f]).toList)

theorem modAt_none_eq {n : Nat} {v : Vector (Option Job) n} {i : Fin n} (h : v[i] = none) : modAt v i (fun _ => none) = v := by
  refine Vector.ext fun k hk => ?_
  have either : (modAt v i (fun _ => none))[(⟨k, hk⟩ : Fin n)] = v[(⟨k, hk⟩ : Fin n)] := by
    by_cases same : (⟨k, hk⟩ : Fin n) = i
    · subst same
      rw [modAt_same, h]
    · rw [modAt_other _ _ _ _ same]
  exact either

theorem runningOn_eq (s : State) (f : FaceId) : s.runningOn f = s.engine.running.any (fun r => r.job.face == f) := by
  unfold State.runningOn
  cases s.engine.running <;> rfl

/-- A face's cancellation hands over the results and changes the engine. -/
theorem cancelFace_eq (s : State) (f : FaceId) :
    s.cancelFace f = { s.handAll (s.engine.handed f) with engine := s.engine.cancel f } := by
  have suspended : s.cancelSuspended f =
      { s.handAll ((s.engine.suspended.map (·.job)).filter (fun j => j.face == f)).toList with
        engine := { s.engine with suspended := s.engine.suspended.filter (fun x => !(x.job.face == f)) } } := by
    unfold State.cancelSuspended
    cases slot : s.engine.suspended with
    | none =>
      have same : ({ s.engine with suspended := none } : Engine) = s.engine := by rw [← slot]
      simp only [Option.map_none, Option.filter_none, Option.toList_none, same]
      rfl
    | some x =>
      by_cases own : x.job.face = f
      · simp only [own, if_true, Option.map_some, Option.filter_some, beq_self_eq_true, Option.toList_some, Bool.not_true,
          Bool.false_eq_true, if_false, handCancelled_eq, State.handAll, List.foldl_cons, List.foldl_nil]
        rfl
      · have away : (x.job.face == f) = false := beq_false_of_ne own
        have same : ({ s.engine with suspended := some x } : Engine) = s.engine := by rw [← slot]
        simp only [own, if_false, Option.map_some, Option.filter_some, away, Bool.false_eq_true, Option.toList_none,
          Bool.not_false, if_true, same]
        rfl
  have pending (u : State) : u.cancelPending f =
      { u.handAll (if u.engine.running.any (fun r => r.job.face == f) then [] else (u.engine.queue[f]).toList) with
        engine := { u.engine with
          queue := modAt u.engine.queue f (fun _ => none)
          held := u.engine.held ++
            (if u.engine.running.any (fun r => r.job.face == f) then (u.engine.queue[f]).toList else []) } } := by
    unfold State.cancelPending
    rw [show u.queued f = u.engine.queue[f] from rfl]
    cases slot : u.engine.queue[f] with
    | none =>
      have same : modAt u.engine.queue f (fun _ => none) = u.engine.queue := modAt_none_eq slot
      simp only [Option.toList_none, ite_self, List.append_nil, same]
      rfl
    | some j =>
      have running := runningOn_eq u f
      simp only [running]
      by_cases own : u.engine.running.any (fun r => r.job.face == f) = true
      · simp only [own, if_true]
        rfl
      · simp only [own, Bool.false_eq_true, if_false, Option.toList_some, List.append_nil, handCancelled_eq, State.handAll,
          List.foldl_cons, List.foldl_nil]
        rfl
  have joined (a b : List Job) : s.handAll (a ++ b) = (s.handAll a).handAll b := List.foldl_append
  unfold State.cancelFace
  rw [suspended, pending]
  unfold Engine.handed
  rw [joined, handAll_eq, handAll_eq, handAll_eq]
  rfl

section
variable (e : Engine) (f g : FaceId)

theorem queue_cancel : (e.cancel f).queue[g] = if g = f then none else e.queue[g] := by
  unfold Engine.cancel
  by_cases same : g = f
  · rw [if_pos same, same]
    exact modAt_same _ _ _
  · rw [if_neg same]
    exact modAt_other _ _ _ _ same

theorem runs_cancel : (e.cancel f).running.any (fun r => r.job.face == g) = e.running.any (fun r => r.job.face == g) := by
  unfold Engine.cancel
  cases e.running with
  | none => rfl
  | some r =>
    by_cases own : r.job.face = f <;> simp [own]

theorem handed_cancel (other : g ≠ f) : (e.cancel f).handed g = e.handed g := by
  have suspended : ((e.suspended.filter (fun x => !(x.job.face == f))).map (·.job)).filter (fun j => j.face == g) =
      (e.suspended.map (·.job)).filter (fun j => j.face == g) := by
    cases e.suspended with
    | none => rfl
    | some x =>
      by_cases own : x.job.face = f
      · simp [Option.filter_some, own, Ne.symm other]
      · simp [Option.filter_some, own]
  unfold Engine.handed
  rw [queue_cancel, if_neg other, runs_cancel]
  unfold Engine.cancel
  rw [suspended]

end

/-- Cancellation of faces, each once. -/
theorem cancelFaces_eq {fs : List FaceId} (once : fs.Nodup) (s : State) :
    s.cancelFaces fs = { s.handAll (fs.flatMap s.engine.handed) with engine := fs.foldl Engine.cancel s.engine } := by
  induction fs generalizing s with
  | nil => rfl
  | cons f fs ih =>
    obtain ⟨fresh, later⟩ := List.nodup_cons.mp once
    have step : s.cancelFaces (f :: fs) = (s.cancelFace f).cancelFaces fs := rfl
    have rest : fs.flatMap (s.engine.cancel f).handed = fs.flatMap s.engine.handed :=
      List.flatMap_congr fun g hg => handed_cancel s.engine f g (fun same => fresh (same ▸ hg))
    have joined (a b : List Job) : s.handAll (a ++ b) = (s.handAll a).handAll b := List.foldl_append
    rw [step, ih later, cancelFace_eq, List.flatMap_cons, joined]
    show ({ State.handAll { s.handAll (s.engine.handed f) with engine := s.engine.cancel f }
      (fs.flatMap (s.engine.cancel f).handed) with engine := _ } : State) = _
    rw [rest, handAll_eq, handAll_eq _ (s.handAll _)]
    rfl

/-! ### The engine after a cancellation -/

section
variable (fs : List FaceId) (e : Engine)

theorem queue_cancels (g : FaceId) : (fs.foldl Engine.cancel e).queue[g] = if g ∈ fs then none else e.queue[g] := by
  induction fs generalizing e with
  | nil => simp
  | cons f fs ih =>
    rw [List.foldl_cons, ih, queue_cancel]
    by_cases own : g = f <;> simp [own]

theorem running_cancels : (fs.foldl Engine.cancel e).running =
    e.running.map (fun r => if r.job.face ∈ fs then { r with cancelling := true } else r) := by
  induction fs generalizing e with
  | nil => simp
  | cons f fs ih =>
    rw [List.foldl_cons, ih]
    unfold Engine.cancel
    cases e.running with
    | none => rfl
    | some r => by_cases own : r.job.face = f <;> simp [own]

theorem suspended_cancels : (fs.foldl Engine.cancel e).suspended = e.suspended.filter (fun x => !fs.contains x.job.face) := by
  induction fs generalizing e with
  | nil => cases slot : e.suspended <;> simp [slot, Option.filter_some]
  | cons f fs ih =>
    rw [List.foldl_cons, ih]
    unfold Engine.cancel
    cases e.suspended with
    | none => rfl
    | some x => by_cases own : x.job.face = f <;> simp [Option.filter_some, own]

/-- The pending job of the running job's face is held, where the face is one of those (R97). -/
def Engine.holds (e : Engine) (fs : List FaceId) : List Job :=
  match e.running with
  | some r => if r.job.face ∈ fs then (e.queue[r.job.face]).toList else []
  | none => []

theorem held_cancels : (fs.foldl Engine.cancel e).held = e.held ++ e.holds fs := by
  induction fs generalizing e with
  | nil => cases slot : e.running <;> simp [Engine.holds, slot]
  | cons f fs ih =>
    have first : (e.cancel f).held =
        e.held ++ (if e.running.any (fun r => r.job.face == f) then (e.queue[f]).toList else []) := rfl
    rw [List.foldl_cons, ih, first, List.append_assoc]
    congr 1
    have running : (e.cancel f).running =
      e.running.map (fun r => if r.job.face = f then { r with cancelling := true } else r) := rfl
    unfold Engine.holds
    rw [running]
    cases e.running with
    | none => rfl
    | some r =>
      have job : (if r.job.face = f then ({ r with cancelling := true } : RunningJob) else r).job = r.job := by split <;> rfl
      simp only [Option.map_some, Option.any_some, job, queue_cancel]
      by_cases own : r.job.face = f
      · simp [own]
      · simp [own]

theorem rest_cancels : (fs.foldl Engine.cancel e).urgentPointer = e.urgentPointer
    ∧ (fs.foldl Engine.cancel e).routinePointer = e.routinePointer ∧ (fs.foldl Engine.cancel e).probePointer = e.probePointer
    ∧ (fs.foldl Engine.cancel e).mask = e.mask := by
  induction fs generalizing e with
  | nil => exact ⟨rfl, rfl, rfl, rfl⟩
  | cons f fs ih => exact ih (e.cancel f)

end

/-! ### A cancellation, as the statements speak of it -/

theorem mem_filter_allFaces (fs : FaceId → Bool) (f : FaceId) : f ∈ allFaces.filter fs ↔ fs f = true := by
  rw [List.mem_filter]
  exact and_iff_right (mem_allFaces f)

theorem nodup_allFaces : allFaces.Nodup := by decide

section
variable (s : State) (fs : FaceId → Bool)

theorem cancelHanded_eq : s.cancelHanded fs = (allFaces.filter fs).flatMap s.engine.handed := by
  refine List.flatMap_congr fun f _ => ?_
  unfold Engine.handed
  rw [← runningOn_eq]
  rfl

theorem cancelFaces_filter : s.cancelFaces (allFaces.filter fs) =
    { s with
      engine := (allFaces.filter fs).foldl Engine.cancel s.engine
      notices := (s.cancelNotices fs).foldl NoticeQueue.take s.notices
      resultOwed := owedAfter s.resultOwed (s.cancelHanded fs) } := by
  rw [cancelFaces_eq (nodup_allFaces.filter _), ← cancelHanded_eq, handAll_eq]
  rfl

/-- A cancellation has been taken, where the engine of `t` is what the cancellation leaves, but for the steps of a suspended job
that has started over. -/
theorem cancelled_of_engine {t : State} (same : ((allFaces.filter fs).foldl Engine.cancel s.engine).sameBut t.engine) :
    s.cancelled t fs := by
  have rest := same.rest
  have job := same.job
  have queue := queue_cancels (allFaces.filter fs) s.engine
  have running := running_cancels (allFaces.filter fs) s.engine
  have suspended := suspended_cancels (allFaces.filter fs) s.engine
  have held := held_cancels (allFaces.filter fs) s.engine
  have others := rest_cancels (allFaces.filter fs) s.engine
  have contains (f : FaceId) : (allFaces.filter fs).contains f = fs f := by
    rw [Bool.eq_iff_iff, List.contains_iff_mem, mem_filter_allFaces]
  rw [suspended] at job
  simp only [mem_filter_allFaces, contains] at queue running job
  generalize (allFaces.filter fs).foldl Engine.cancel s.engine = e at *
  unfold State.cancelled State.queued
  rw [rest]
  refine ⟨fun f => queue f, running, ?_, ?_, others⟩
  · refine job.trans ?_
    cases s.engine.suspended with
    | none => rfl
    | some x => cases own : fs x.job.face <;> simp [Option.filter_some, own]
  · refine held.trans ?_
    unfold Engine.holds
    cases s.engine.running with
    | none => rfl
    | some r => simp only [mem_filter_allFaces]

end

end Sys2Proof.Machine

/-! The end of a leg's work, as an exit from TRAINING, ACTIVE, DEGRADED or TEST makes it (spec/02 R21, R26): the attempt is
abandoned (R67), the jobs of the leg's faces are cancelled (R96) and a running test is discarded (R156). -/

namespace Sys2Proof.Machine

section
variable (s : State) (l : LegId)

/-! ### ABORTs -/

theorem sendAborts_eq (reason : AbortReason) (some : (s.leg l).record.isSome = true) :
    s.sendAborts l reason = { s with sent := s.sent ++ s.aborts l reason } := by
  have fold (fs : List FaceId) (u : State) :
      fs.foldl (fun s f => if (s.face f).status = .idle then s else s.send f (.abort reason)) u =
        { u with sent := u.sent ++ (fs.filter (fun f => (u.face f).status != .idle)).map (fun f => ⟨f, .abort reason⟩) } := by
    induction fs generalizing u with
    | nil => simp
    | cons f fs ih =>
      rw [List.foldl_cons, ih]
      by_cases idle : (u.face f).status = .idle
      · simp [idle]
      · simp only [idle, if_false, State.send, List.filter_cons, bne_iff_ne, ne_eq, not_false_eq_true, if_true, List.map_cons,
          List.append_assoc, List.singleton_append]
        rfl
  unfold State.sendAborts State.aborts
  rw [fold, if_pos some, groupFaces_eq, List.filter_filter]
  refine congrArg (fun ws => ({ s with sent := s.sent ++ ws } : State)) ?_
  exact congrArg (List.map _) (List.filter_congr fun f _ => Bool.and_comm _ _)

/-! ### Results owed -/

theorem owes_fold (flag : FaceId → Bool) (fs : List FaceId) (o : FaceSet) (f : FaceId) :
    setHas (fs.foldl (fun o g => if flag g then setAdd o g.val else o) o) f.val = (setHas o f.val || (fs.contains f && flag f)) := by
  induction fs generalizing o with
  | nil => simp
  | cons g fs ih =>
    rw [List.foldl_cons, ih]
    by_cases on : flag g = true
    · rw [if_pos on, setHas_setAdd o g.isLt]
      by_cases same : f = g
      · subst same
        simp [on]
      · have other : f.val ≠ g.val := fun h => same (Fin.ext h)
        simp [same, other]
    · rw [if_neg on]
      by_cases same : f = g
      · subst same
        simp [on]
      · simp [same]

/-- The result-owed flags once a leg's SWEEPs outstanding are owed (R47). -/
def State.owes (s : State) (l : LegId) : FaceSet :=
  (s.groupFaces l).foldl (fun o f => if s.hasFlag l f TrainRecord.sweepOutstanding then setAdd o f.val else o) s.resultOwed

theorem oweResults_eq : s.oweResults l = { s with resultOwed := s.owes l } := by
  have fold (fs : List FaceId) (o : FaceSet) :
      fs.foldl (fun s f => if s.hasFlag l f TrainRecord.sweepOutstanding then s.setOwed (setAdd s.resultOwed f.val) else s)
          { s with resultOwed := o } =
        { s with resultOwed :=
            fs.foldl (fun o f => if s.hasFlag l f TrainRecord.sweepOutstanding then setAdd o f.val else o) o } := by
    induction fs generalizing o with
    | nil => rfl
    | cons f fs ih =>
      have flag : State.hasFlag { s with resultOwed := o } l f TrainRecord.sweepOutstanding =
        s.hasFlag l f TrainRecord.sweepOutstanding := rfl
      rw [List.foldl_cons, List.foldl_cons, flag]
      cases s.hasFlag l f TrainRecord.sweepOutstanding with
      | true => exact ih _
      | false => exact ih o
  exact fold (s.groupFaces l) s.resultOwed

theorem hasFlag_eq (f : FaceId) : s.hasFlag l f TrainRecord.sweepOutstanding =
    (s.leg l).record.any (fun r => setHas r.sweepOutstanding f.val) := by
  unfold State.hasFlag
  cases (s.leg l).record <;> rfl

theorem setHas_owes (f : FaceId) : setHas (s.owes l) f.val = (setHas s.resultOwed f.val || s.outstanding l f) := by
  unfold State.owes State.outstanding
  rw [owes_fold, hasFlag_eq, groupFaces_eq]
  congr 2
  rw [Bool.eq_iff_iff, List.contains_iff_mem, mem_filter_allFaces]

/-! ### The record that is dropped -/

/-- The faces once those of a list are IDLE. -/
def idledFaces (fs : List FaceId) (faces : Vector Face 16) : Vector Face 16 :=
  fs.foldl (fun v f => modAt v f (fun x => { x with status := .idle })) faces

theorem setIdle_eq (fs : List FaceId) (u : State) : fs.foldl (fun (s : State) f => s.setStatus f .idle) u =
    { u with faces := idledFaces fs u.faces } := by
  induction fs generalizing u with
  | nil => rfl
  | cons f fs ih =>
    rw [List.foldl_cons, ih]
    rfl

/-- The faces once those of a leg's group are IDLE. -/
def State.idleFaces (s : State) (l : LegId) : Vector Face 16 := idledFaces (s.groupFaces l) s.faces

theorem dropRecord_eq : s.dropRecord l =
    { s with legs := modAt s.legs l (fun x => { x with record := none }), faces := s.idleFaces l } :=
  setIdle_eq (s.groupFaces l) (s.modLeg l (fun x => { x with record := none }))

theorem face_idleFaces (f : FaceId) : (s.idleFaces l)[f] =
    if s.onGroup l f = true then { s.face f with status := .idle } else s.face f := by
  have face := face_setStatuses (s.groupFaces l) .idle s f
  rw [setIdle_eq, groupFaces_eq] at face
  simp only [mem_filter_allFaces] at face
  unfold State.idleFaces
  rw [groupFaces_eq]
  exact face

/-! ### An attempt that is abandoned (R67) -/

/-- The faces after a leg's attempt, where there is one, has been abandoned. -/
def State.abandonedFaces (s : State) (l : LegId) : Vector Face 16 :=
  if (s.leg l).record.isSome = true then s.idleFaces l else s.faces

theorem abandon_eq (reason : AbortReason) : s.abandon l reason =
    { s with
      sent := s.sent ++ s.aborts l reason, resultOwed := s.owes l
      legs := modAt s.legs l (fun x => { x with record := none }), faces := s.abandonedFaces l } := by
  unfold State.abandon
  cases record : (s.leg l).record with
  | some r =>
    have some : (s.leg l).record.isSome = true := by rw [record]; rfl
    unfold State.abandonedFaces
    rw [sendAborts_eq s l reason some, oweResults_eq, dropRecord_eq, if_pos some]
    rfl
  | none =>
    have absent : ¬(s.leg l).record.isSome = true := by rw [record]; decide
    have legs : modAt s.legs l (fun x => { x with record := none }) = s.legs := by
      have same := congrArg State.legs (modLeg_self s l)
      have own : ({ s.leg l with record := none } : Leg) = s.leg l := by rw [← record]
      calc modAt s.legs l (fun x => { x with record := none }) = s.legs.set l { s.leg l with record := none } := rfl
        _ = s.legs.set l (s.leg l) := by rw [own]
        _ = s.legs := same
    have owes : s.owes l = s.resultOwed := by
      have flag (f : FaceId) : s.hasFlag l f TrainRecord.sweepOutstanding = false := by rw [hasFlag_eq, record]; rfl
      unfold State.owes
      generalize s.groupFaces l = fs
      induction fs with
      | nil => rfl
      | cons f fs ih =>
        rw [List.foldl_cons, flag f]
        exact ih
    have sent : s.aborts l reason = [] := if_neg absent
    have faces : s.abandonedFaces l = s.faces := if_neg absent
    rw [legs, owes, sent, faces, List.append_nil]

theorem face_abandonedFaces (f : FaceId) : (s.abandonedFaces l)[f] =
    if (s.leg l).record.isSome = true ∧ s.onGroup l f = true then { s.face f with status := .idle } else s.face f := by
  unfold State.abandonedFaces
  by_cases some : (s.leg l).record.isSome = true
  · rw [if_pos some, face_idleFaces]
    simp only [some, true_and]
  · rw [if_neg some, if_neg (fun h => some h.1)]
    rfl

/-! ### A test that is discarded (R156) -/

/-- The test records once a running one of a leg has been discarded. -/
def testsWithout (tests : Vector (Option TestRecord) 4) (l : LegId) : Vector (Option TestRecord) 4 :=
  match tests[l] with
  | some r => if r.status = .running then modAt tests l (fun _ => none) else tests
  | none => tests

/-- The generators once those of a test record have stopped. -/
def TestRecord.stopped (r : TestRecord) (generators : Vector (Option Stages) 16) : Vector (Option Stages) 16 :=
  r.checkers.foldl (fun v c => modAt v c.face (fun _ => none)) generators

theorem stopGenerators_eq (u : State) (r : TestRecord) : u.stopGenerators r = { u with generators := r.stopped u.generators } := by
  unfold State.stopGenerators TestRecord.stopped
  generalize r.checkers = cs
  induction cs generalizing u with
  | nil => rfl
  | cons c cs ih =>
    rw [List.foldl_cons, ih]
    rfl

/-- The generators once a running test of a leg has been discarded. -/
def State.generatorsWithout (s : State) (l : LegId) : Vector (Option Stages) 16 :=
  match s.test l with
  | some r => if r.status = .running then r.stopped s.generators else s.generators
  | none => s.generators

theorem discardTest_eq : s.discardTest l =
    { s with tests := testsWithout s.tests l, generators := s.generatorsWithout l } := by
  unfold State.discardTest testsWithout State.generatorsWithout State.test
  cases s.tests[l] with
  | none => rfl
  | some r =>
    by_cases running : r.status = .running
    · simp only [running, if_true]
      rw [stopGenerators_eq]
      rfl
    · simp only [running, if_false]

end

end Sys2Proof.Machine

/-! A leg whose work has ended, and then parks: HELD from a state at work (spec/02 R26) and the shutdown (R21). -/

namespace Sys2Proof.Machine

section
variable (s : State) (l : LegId) (reason : AbortReason)

/-- The state once the attempt is abandoned, the jobs of the leg's faces are cancelled and a running test is discarded. -/
def State.workEnded (s : State) (l : LegId) (reason : AbortReason) : State :=
  { s with
    sent := s.sent ++ s.aborts l reason
    resultOwed := owedAfter (s.owes l) (s.cancelHanded (s.onLeg l))
    legs := modAt s.legs l (fun x => { x with record := none })
    faces := s.abandonedFaces l
    engine := (allFaces.filter (s.onLeg l)).foldl Engine.cancel s.engine
    notices := (s.cancelNotices (s.onLeg l)).foldl NoticeQueue.take s.notices
    tests := testsWithout s.tests l
    generators := s.generatorsWithout l }

theorem workEnded_testFirst :
    ((s.discardTest l).abandon l reason).cancelFaces (s.legFaces l) = s.workEnded l reason := by
  rw [legFaces_eq, cancelFaces_filter, abandon_eq, discardTest_eq]
  rfl

theorem workEnded_testLast :
    ((s.abandon l reason).cancelFaces (s.legFaces l)).discardTest l = s.workEnded l reason := by
  rw [legFaces_eq, cancelFaces_filter, discardTest_eq, abandon_eq]
  rfl

theorem leg_workEnded : (s.workEnded l reason).leg l = { s.leg l with record := none } := modAt_same _ _ _

theorem leg_workEnded_other {k : LegId} (hk : k ≠ l) : (s.workEnded l reason).leg k = s.leg k := modAt_other _ _ _ _ hk

theorem test_testsWithout_other {k : LegId} (hk : k ≠ l) : (testsWithout s.tests l)[k] = s.tests[k] := by
  unfold testsWithout
  cases s.tests[l] with
  | none => rfl
  | some r =>
    by_cases running : r.status = .running
    · simp only [running, if_true]
      exact modAt_other _ _ _ _ hk
    · simp only [running, if_false]

theorem face_workEnded (f : FaceId) : (s.workEnded l reason).face f =
    if (s.leg l).record.isSome = true ∧ s.onGroup l f = true then { s.face f with status := .idle } else s.face f :=
  face_abandonedFaces s l f

theorem restLike_workEnded : s.restLike (s.workEnded l reason) where
  place _ := rfl
  path _ := rfl
  monitor _ := rfl
  face f := by
    rw [face_workEnded]
    split
    · exact Face.sameSet_status _ _
    · exact Face.sameSet_refl _

theorem faceLeg_of_onGroup {s : State} {l : LegId} {f : FaceId} (h : s.onGroup l f = true) : s.faceLeg f = some l := by
  have inside := (mem_pathsAt_facePath s l (s.leg l).group f).mpr h
  exact pathsAt_own _ inside

theorem othersKept_workEnded : s.othersKept (s.workEnded l reason) l := by
  have face (p : PathId) (hp : s.pathLeg p ≠ some l) (f : FaceId) (hf : facePath f = p) :
      (s.workEnded l reason).face f = s.face f := by
    rw [face_workEnded, if_neg]
    intro h
    have own := faceLeg_of_onGroup h.2
    rw [State.faceLeg, hf] at own
    exact hp own
  exact ⟨fun k hk => ⟨leg_workEnded_other s l reason hk, test_testsWithout_other s l hk⟩,
    fun p hp => ⟨rfl, rfl, rfl, face p hp _ (facePath_sFace p), face p hp _ (facePath_cFace p)⟩,
    rfl, rfl, rfl, rfl, rfl, rfl, rfl, rfl, rfl, rfl, rfl⟩

/-! ### What the statements say of it, once the leg has parked -/

theorem testDiscarded_of_eq {t : State} (tests : t.test l = (testsWithout s.tests l)[l])
    (generators : t.generators = s.generatorsWithout l) : s.testDiscarded t l := by
  unfold testsWithout at tests
  unfold State.generatorsWithout at generators
  refine ⟨fun r test running => ?_, fun quiet => ?_⟩
  · rw [show s.tests[l] = some r from test] at tests
    rw [test] at generators
    simp only [running, if_true] at tests generators
    refine ⟨tests.trans (modAt_same _ _ _), fun c hc => ?_⟩
    have stopped := generators_stopGenerators (s := s) hc
    rw [stopGenerators_eq] at stopped
    rw [generators]
    exact stopped
  · refine tests.trans ?_
    rw [show s.test l = s.tests[l] from rfl] at *
    cases test : s.tests[l] with
    | none => exact test
    | some r =>
      simp only [quiet r test, if_false]
      exact test

theorem abandonedWith_of_eq {t : State} {fs : FaceId → Bool} (sent : t.sent = s.sent ++ s.aborts l reason)
    (owed : t.resultOwed = owedAfter (s.owes l) (s.cancelHanded fs))
    (faces : (s.leg l).record.isSome = true → ∀ f : FaceId, s.onGroup l f = true → (t.face f).status = .idle) :
    s.abandonedWith t l reason fs := by
  refine ⟨sent, fun f => ?_, faces⟩
  rw [owed, setHas_owedAfter, setHas_owes]
  rfl

/-- A leg that stops working, and parks: all that its entry to HELD and its shutdown have in common. -/
def State.workStopped (s t : State) (l : LegId) (reason : AbortReason) : Prop :=
  s.legParked t l ∧ s.cancelled t (s.onLeg l) ∧ s.testDiscarded t l ∧ s.abandonedWith t l reason (s.onLeg l) ∧ s.othersKept t l

theorem status_settled (x : Face) : x.settled.status = x.status := by
  unfold Face.settled Face.swapped
  split <;> rfl

/-- What follows the parking of a leg that has stopped working may change the leg, its wires and the frame engine. -/
theorem workStopped_parkLeg {u t : State} (parks : (s.workEnded l reason).parkLeg l = u)
    (rest : t = { u with legs := t.legs, wires := t.wires, frame := t.frame })
    (legs : ∀ k : LegId, k ≠ l → t.leg k = u.leg k) : s.workStopped t l reason ∧ t.port = s.port
      ∧ t.notices = (s.cancelNotices (s.onLeg l)).foldl NoticeQueue.take s.notices := by
  have engine : (s.workEnded l reason).engine.sameBut ((s.workEnded l reason).parkLeg l).engine := engine_setPaths _ _ _
  have kept := othersKept_trans (othersKept_workEnded s l reason) (othersKept_parkLeg (u := s.workEnded l reason))
  have parked (after : u.restLike t) := legParked_parkLeg (l := l) (restLike_workEnded s l reason) (parks.symm ▸ after)
  have idle (some : (s.leg l).record.isSome = true) (f : FaceId) (hf : s.onGroup l f = true) :
      (((s.workEnded l reason).parkLeg l).face f).status = .idle := by
    have face := face_workEnded s l reason f
    rw [if_pos ⟨some, hf⟩] at face
    rw [face_parkLeg, face]
    split
    · rw [status_settled]
    · rfl
  have fields : ((s.workEnded l reason).parkLeg l).tests = testsWithout s.tests l
      ∧ ((s.workEnded l reason).parkLeg l).generators = s.generatorsWithout l
      ∧ ((s.workEnded l reason).parkLeg l).sent = s.sent ++ s.aborts l reason
      ∧ ((s.workEnded l reason).parkLeg l).resultOwed = owedAfter (s.owes l) (s.cancelHanded (s.onLeg l))
      ∧ ((s.workEnded l reason).parkLeg l).port = s.port
      ∧ ((s.workEnded l reason).parkLeg l).notices = (s.cancelNotices (s.onLeg l)).foldl NoticeQueue.take s.notices := by
    rw [parkLeg_footprint]
    exact ⟨rfl, rfl, rfl, rfl, rfl, rfl⟩
  rw [parks] at engine kept idle fields
  obtain ⟨tests, generators, sent, owed, port, notices⟩ := fields
  obtain ⟨others, paths, fields⟩ := kept
  have face (f : FaceId) : t.face f = u.face f := by rw [rest]; rfl
  rw [rest] at legs
  rw [rest] at parked ⊢
  exact ⟨⟨parked (restLike_of_eq rfl rfl rfl rfl rfl), cancelled_of_engine s _ engine,
    testDiscarded_of_eq s l (congrArg (·[l]) tests) generators, abandonedWith_of_eq s l reason sent owed idle,
    fun k hk => ⟨(legs k hk).trans (others k hk).1, (others k hk).2⟩, paths, fields⟩, port, notices⟩

/-- A change of the leg's own context before does not matter, where it keeps the record and the group. -/
theorem workStopped_modLeg {t : State} {g : Leg → Leg} (record : (g (s.leg l)).record = (s.leg l).record)
    (group : (g (s.leg l)).group = (s.leg l).group) (stopped : (s.modLeg l g).workStopped t l reason) :
    s.workStopped t l reason := by
  obtain ⟨parked, cancelled, discarded, ⟨sent, owed, idle⟩, kept⟩ := stopped
  have own : (s.modLeg l g).leg l = g (s.leg l) := State.leg_modLeg s l g
  have on (f : FaceId) : (s.modLeg l g).onGroup l f = s.onGroup l f := by
    unfold State.onGroup
    rw [own, group]
    rfl
  have aborts : (s.modLeg l g).aborts l reason = s.aborts l reason := by
    unfold State.aborts
    simp only [own, record, on]
    rfl
  have owes (f : FaceId) : (s.modLeg l g).owesAfter l ((s.modLeg l g).onLeg l) f = s.owesAfter l (s.onLeg l) f := by
    unfold State.owesAfter State.outstanding
    rw [own, record, on]
    rfl
  rw [aborts] at sent
  simp only [owes] at owed
  rw [own, record] at idle
  simp only [on] at idle
  exact ⟨parked, cancelled, discarded, ⟨sent, owed, idle⟩, othersKept_trans (othersKept_modLeg s l g) kept⟩

end

/-! ### Takings that stop a leg's work -/

section
variable {s v : State} {l : LegId} {reason : AbortReason}

/-- An event after which the leg, its work stopped, rests in another state: one LEG STATE notice comes after those of the jobs
cancelled. -/
theorem stopTaken_legEvent {e : Cause} {f : State → State} (rest : s.tableAtRest) (ends : f s = v)
    (stopped : s.workStopped v l reason) (moves : (v.leg l).state ≠ (s.leg l).state)
    (rests : (v.leg l).state = .held ∨ (v.leg l).state = .off ∨ (v.leg l).state = .absent) :
    s.legEvent l e f = v.raiseNotice
      (.legState s.clock.stamp l (s.leg l).state (v.leg l).state e (v.leg l).currentWidth) := by
  obtain ⟨-, -, -, -, -, -, -, -, -, -, -, -, clock, table, -⟩ := stopped
  have atRest : (f s).tableAtRest := by
    rw [ends]
    exact table.trans rest
  have moved : ((f s).leg l).state ≠ (s.leg l).state := by
    rw [ends]
    exact moves
  rw [legEvent_moved atRest moved, ends, State.moveNotice, noticeCause_rest rests, State.stamp, clock]

end

end Sys2Proof.Machine

/-! LEG HOLD, LEG DISABLE and changes of presence (spec/02 R23 to R28). -/

namespace Sys2Proof.Machine

section
variable {s u : State} {l : LegId} {c : TrainCause}

/-! ### HELD from a state at work (R26) -/

theorem enterHeld_trained (trained : isTrained (u.leg l).state = true) :
    u.enterHeld l c = (u.workEnded l .giveUp).parkedAs l (fun x => x.holding c) .held := by
  unfold State.enterHeld
  simp only [trained, if_true, workEnded_testFirst]
  rfl

theorem leg_enterHeld_trained (trained : isTrained (u.leg l).state = true) : (u.enterHeld l c).leg l = (u.leg l).heldWith c := by
  rw [enterHeld_trained trained, leg_parkedAs, leg_workEnded, Leg.heldWith]
  simp only [trained, if_true]
  rfl

theorem leg_parkedAs_other (g : Leg → Leg) (st : LegState) {k : LegId} (hk : k ≠ l) :
    (u.parkedAs l g st).leg k = (u.parkLeg l).leg k := by
  rw [State.parkedAs, leg_setLegState_eq, if_neg hk, State.leg_modLeg_other _ _ _ _ hk]

theorem parkedAs_footprint (g : Leg → Leg) (st : LegState) : u.parkedAs l g st =
    { u.parkLeg l with legs := (u.parkedAs l g st).legs, frame := (u.parkedAs l g st).frame } := by
  unfold State.parkedAs State.setLegState
  rw [judge_footprint]
  rfl

/-- What an event that stops a leg's work has done, in all but the leg context. -/
def State.workStoppedIn (s t : State) (l : LegId) (reason : AbortReason) : Prop :=
  s.workStopped t l reason ∧ t.port = s.port
  ∧ t.notices = (s.cancelNotices (s.onLeg l)).foldl NoticeQueue.take s.notices

theorem enterHeld_stops (trained : isTrained (u.leg l).state = true) : u.workStoppedIn (u.enterHeld l c) l .giveUp := by
  have foot := parkedAs_footprint (u := u.workEnded l .giveUp) (l := l) (fun x => x.holding c) .held
  have legs {k : LegId} (hk : k ≠ l) := leg_parkedAs_other (u := u.workEnded l .giveUp) (fun x => x.holding c) .held hk
  rw [enterHeld_trained trained]
  generalize (u.workEnded l .giveUp).parkedAs l (fun x => x.holding c) .held = t at *
  refine workStopped_parkLeg u l .giveUp rfl ?_ (fun k hk => legs hk)
  rw [foot]

theorem workStoppedIn_modLeg {t : State} {reason : AbortReason} {g : Leg → Leg} (record : (g (s.leg l)).record = (s.leg l).record)
    (group : (g (s.leg l)).group = (s.leg l).group) (stopped : (s.modLeg l g).workStoppedIn t l reason) :
    s.workStoppedIn t l reason :=
  ⟨workStopped_modLeg s l reason record group stopped.1, stopped.2⟩

/-! ### OFF or ABSENT from a state that is neither (R21) -/

/-- The leg context of a shutdown, before the state changes. -/
def Leg.down (x : Leg) : Leg :=
  { x with
    holdTimer := none, limitTimer := none, trimTimer := none, holdRequest := false, group := 0#4, currentWidth := 0
    agreedRate := none, failureCause := none, attemptCount := 0, excluded := 0#4 }

theorem shutDown_eq (reason : AbortReason) : u.shutDown l reason =
    (((u.workEnded l reason).parkLeg l).modLeg l Leg.down).setLatch l false := by
  unfold State.shutDown State.clearCounts
  dsimp only
  rw [workEnded_testLast, State.modLeg_modLeg]
  rfl

theorem goDown_shutDown (st : LegState) (up : (u.leg l).state ≠ .off ∧ (u.leg l).state ≠ .absent) :
    u.goDown l st = ((u.workEnded l .giveUp).parkLeg l).stoodAs l Leg.down st := by
  have shut : u.goDown l st = (u.shutDown l .giveUp).setLegState l st := by
    unfold State.goDown
    cases state : (u.leg l).state with
    | off => exact absurd state up.1
    | absent => exact absurd state up.2
    | _ => rfl
  rw [shut, shutDown_eq]
  rfl

theorem goDown_down (st : LegState) (down : (u.leg l).state = .off ∨ (u.leg l).state = .absent) :
    u.goDown l st = u.stoodAs l (fun x => { x with holdRequest := false, attemptCount := 0, excluded := 0#4 }) st := by
  have clear : u.goDown l st = ((u.clearHold l).clearCounts l).setLegState l st := by
    unfold State.goDown
    rcases down with state | state <;> rw [state]
  rw [clear]
  unfold State.clearHold State.clearCounts State.stoodAs
  rw [State.modLeg_modLeg]

theorem leg_goDown_shutDown (st : LegState) (up : (u.leg l).state ≠ .off ∧ (u.leg l).state ≠ .absent) :
    (u.goDown l st).leg l = { (u.leg l).down with state := st, record := none } := by
  rw [goDown_shutDown st up, leg_stoodAs, State.parkLeg, State.leg_setPaths, leg_workEnded]
  rfl

theorem goDown_stops (st : LegState) (up : (u.leg l).state ≠ .off ∧ (u.leg l).state ≠ .absent) :
    u.workStoppedIn (u.goDown l st) l .giveUp ∧ (u.goDown l st).wiresOf l = { u.wiresOf l with alertLatch := false } := by
  have foot := stoodAs_footprint (u := (u.workEnded l .giveUp).parkLeg l) (l := l) Leg.down st
  have legs {k : LegId} (hk : k ≠ l) := leg_stoodAs_other (u := (u.workEnded l .giveUp).parkLeg l) Leg.down st hk
  have wires := wiresOf_stoodAs (u := (u.workEnded l .giveUp).parkLeg l) (l := l) Leg.down st
  have same : ((u.workEnded l .giveUp).parkLeg l).wiresOf l = u.wiresOf l := by
    rw [parkLeg_footprint]
    rfl
  rw [same] at wires
  rw [goDown_shutDown st up]
  generalize ((u.workEnded l .giveUp).parkLeg l).stoodAs l Leg.down st = t at *
  refine ⟨workStopped_parkLeg u l .giveUp rfl ?_ (fun k hk => legs hk), wires⟩
  rw [foot]

/-! ### LEG HOLD -/

theorem holdAsserted_held (held : (u.leg l).state = .held) : u.holdAsserted l = true := by
  rw [State.holdAsserted, held]
  rfl

theorem holdLeg_down (down : (u.leg l).state = .off ∨ (u.leg l).state = .absent) :
    u.holdLeg l c = u.modLeg l (fun x => { x with holdRequest := true }) := by
  unfold State.holdLeg
  rcases down with state | state <;> simp only [state]

theorem holdLeg_held (held : (u.leg l).state = .held) :
    u.holdLeg l c = u.modLeg l (fun x => { x with holdRequest := true, holdTimer := some x.holdMinimum }) := by
  unfold State.holdLeg
  simp only [held]
  exact State.modLeg_modLeg _ _ _ _

theorem holdLeg_enters (up : (u.leg l).state ≠ .off) (present : (u.leg l).state ≠ .absent) (free : (u.leg l).state ≠ .held) :
    u.holdLeg l c = (u.modLeg l (fun x => { x with holdRequest := true })).enterHeld l c := by
  unfold State.holdLeg
  cases state : (u.leg l).state with
  | off => exact absurd state up
  | absent => exact absurd state present
  | held => exact absurd state free
  | _ => rfl

theorem trained_of_up {st : LegState} (up : st ≠ .off) (present : st ≠ .absent) (free : st ≠ .held) (sound : st ≠ .failed) :
    isTrained st = true := by
  cases st with
  | off => exact absurd rfl up
  | absent => exact absurd rfl present
  | held => exact absurd rfl free
  | failed => exact absurd rfl sound
  | _ => rfl

end

/-- A request whose event leaves the leg's state: the port aside, the answer's state is the event's. -/
theorem takeRequest_own {s : State} {tag code : Byte} {l : LegId} {act : State → Answer} {e : Cause} {f : State → State}
    {g : Leg → Leg} (hport : s.takesRequests) (rest : s.tableAtRest)
    (acts : ∀ u : State, act u = .plain (u.legEvent l e f) .done) (own : ∀ u : State, u.leg l = s.leg l → f u = u.modLeg l g)
    (same : (g (s.leg l)).state = (s.leg l).state) :
    takeRequest code tag [byte l.val] act s = .next ((s.modLeg l g).answered tag code [byte l.val] .done []) := by
  have body (u : State) (legs : u.leg l = s.leg l) (table : u.tableAtRest) : u.legEvent l e f = u.modLeg l g := by
    rw [legEvent_same, own u legs]
    · rw [own u legs]
      exact table
    · rw [own u legs, State.leg_modLeg, legs, same]
  exact takeRequest_taken hport (by decide : 1 ≤ 128)
    ((acts _).trans (congrArg (Answer.plain · Result.done) (body _ rfl rest))) (.inr rfl)

/-- A request whose event stops the leg's work. -/
theorem takeRequest_stops {s : State} {tag code : Byte} {l : LegId} {act : State → Answer} {e : Cause} {f : State → State}
    {reason : AbortReason} {x : Leg} (hport : s.takesRequests) (rest : s.tableAtRest)
    (acts : ∀ u : State, act u = .plain (u.legEvent l e f) .done)
    (stops : ∀ u : State, u.leg l = s.leg l → u.workStoppedIn (f u) l reason ∧ (f u).leg l = x)
    (moves : x.state ≠ (s.leg l).state) (rests : x.state = .held ∨ x.state = .off ∨ x.state = .absent) :
    ∃ t, takeRequest code tag [byte l.val] act s = .next t ∧ t.port = (s.answered tag code [byte l.val] .done []).port
      ∧ t.leg l = x ∧ s.workStopped t l reason
      ∧ t.wiresOf l = (f (s.acceptWrite (requestFrame tag code [byte l.val]))).wiresOf l
      ∧ t.notices = ((s.cancelNotices (s.onLeg l)).foldl NoticeQueue.take s.notices).take
          (.legState s.clock.stamp l (s.leg l).state x.state e x.currentWidth) := by
  have step (u : State) (legs : u.leg l = s.leg l) (table : u.tableAtRest) : u.legEvent l e f =
      (f u).raiseNotice (.legState u.clock.stamp l (u.leg l).state x.state e x.currentWidth) := by
    obtain ⟨⟨stopped, -⟩, leg⟩ := stops u legs
    rw [stopTaken_legEvent table rfl stopped (by rw [leg, legs]; exact moves) (by rw [leg]; exact rests), leg]
  obtain ⟨⟨stopped, port, notices⟩, leg⟩ := stops (s.acceptWrite (requestFrame tag code [byte l.val])) rfl
  have taken := step (s.acceptWrite (requestFrame tag code [byte l.val])) rfl rest
  generalize f (s.acceptWrite (requestFrame tag code [byte l.val])) = v at *
  have answer := (acts (s.acceptWrite (requestFrame tag code [byte l.val]))).trans (congrArg (Answer.plain · Result.done) taken)
  exact ⟨_, takeRequest_acted hport (by decide : 1 ≤ 128) answer port, rfl, leg, stopped, rfl,
    congrArg (NoticeQueue.take · _) notices⟩

/-- Settles O16, by the state the leg is in: the hold request alone, the hold timer with it, or an entry to HELD. -/
theorem legHoldTakesEffect : Obligations.LegHoldTakesEffect := by
  intro s tag l hport rest
  have acts (u : State) : legHoldAct [byte l.val] u = .plain (u.legEvent l (.train .host) (fun s => s.holdLeg l .host)) .done :=
    legRequest_byte u l _
  refine ⟨fun k => beq_iff_eq, fun down => ?_, fun held => ?_, fun up present free => ?_⟩
  · exact takeRequest_own hport rest acts (fun u own => holdLeg_down (by rw [own]; exact down)) rfl
  · exact takeRequest_own hport rest acts (fun u own => holdLeg_held (by rw [own]; exact held)) rfl
  have enters (u : State) (own : u.leg l = s.leg l) :
      u.holdLeg l .host = (u.modLeg l (fun x => { x with holdRequest := true })).enterHeld l .host :=
    holdLeg_enters (by rw [own]; exact up) (by rw [own]; exact present) (by rw [own]; exact free)
  by_cases failed : (s.leg l).state = .failed
  · have taken (u : State) (own : u.leg l = s.leg l) (table : u.tableAtRest) :
        u.heldTaken (u.legEvent l (.train .host) (fun s => s.holdLeg l .host)) l { s.leg l with holdRequest := true } .host
          (.train .host) :=
      heldTaken_legEvent table (by rw [own]; exact free) (by rw [failed]; rfl) (by rw [← own]; exact enters u own)
    obtain ⟨t, step, port, leg, kept, parked, sent, owed, engine, test, notices⟩ :=
      heldTaken_request hport (acts _) (taken _ rfl rest)
    have queue : t.engine.queue = s.engine.queue ∧ t.engine.running = s.engine.running := by
      rw [engine.rest]
      exact ⟨rfl, rfl⟩
    rw [failed] at notices
    refine ⟨t, step, port, leg, holdAsserted_held (by rw [leg]; rfl), parked, ?_, kept⟩
    rw [if_pos failed]
    exact ⟨queue.1, queue.2, test, sent, owed, notices⟩
  · have trained := trained_of_up up present free failed
    have stops (u : State) (own : u.leg l = s.leg l) : u.workStoppedIn (u.holdLeg l .host) l .giveUp
        ∧ (u.holdLeg l .host).leg l = { (s.leg l).heldWith .host with holdRequest := true } := by
      have inner : (u.modLeg l (fun x => { x with holdRequest := true })).leg l = { u.leg l with holdRequest := true } :=
        State.leg_modLeg u l _
      have works : isTrained ((u.modLeg l (fun x => { x with holdRequest := true })).leg l).state = true := by
        rw [inner, own]
        exact trained
      rw [enters u own]
      refine ⟨workStoppedIn_modLeg rfl rfl (enterHeld_stops works), ?_⟩
      rw [leg_enterHeld_trained works, inner, own]
      rfl
    obtain ⟨t, step, port, leg, ⟨parked, cancelled, discarded, abandoned, kept⟩, -, notices⟩ :=
      takeRequest_stops hport rest acts stops (ne_comm.mp free) (.inl rfl)
    refine ⟨t, step, port, leg, holdAsserted_held (by rw [leg]; rfl), parked, ?_, kept⟩
    rw [if_neg failed]
    exact ⟨cancelled, discarded, abandoned, notices⟩

/-! ### LEG DISABLE -/

section
variable {u : State} {l : LegId}

theorem disableLeg_off (off : (u.leg l).state = .off) :
    u.disableLeg l = u.modLeg l (fun x => { x with enabled := false, holdRequest := false }) := by
  unfold State.disableLeg
  simp only [off, if_true]
  exact State.modLeg_modLeg _ _ _ _

theorem disableLeg_goesDown (on : (u.leg l).state ≠ .off) :
    u.disableLeg l = (u.modLeg l (fun x => { x with enabled := false })).goDown l .off := by
  unfold State.disableLeg
  simp only [on, if_false]

theorem disableLeg_absent (absent : (u.leg l).state = .absent) : u.disableLeg l =
    u.stoodAs l (fun x => { x with enabled := false, holdRequest := false, attemptCount := 0, excluded := 0#4 }) .off := by
  have inner : ((u.modLeg l (fun x => { x with enabled := false })).leg l).state = .absent := by
    rw [State.leg_modLeg]
    exact absent
  rw [disableLeg_goesDown (by rw [absent]; decide), goDown_down .off (.inr inner)]
  unfold State.stoodAs
  rw [State.modLeg_modLeg]

end

/-- Settles O20, by the state the leg is in: OFF, ABSENT, or one that a shutdown leaves. -/
theorem legDisableTakesEffect : Obligations.LegDisableTakesEffect := by
  intro s tag l hport rest
  have acts (u : State) : legDisableAct [byte l.val] u = .plain (u.legEvent l .disable (fun s => s.disableLeg l)) .done :=
    legRequest_byte u l _
  refine ⟨fun off => ?_, fun absent => ?_, fun on present => ?_⟩
  · exact takeRequest_own hport rest acts (fun u own => disableLeg_off (by rw [own]; exact off)) rfl
  · have taken (u : State) (own : u.leg l = s.leg l) (table : u.tableAtRest) :=
      stoodTaken_legEvent (s := u) (f := fun s => s.disableLeg l) (e := .disable) table (.inl rfl)
        (by rw [own, absent]; decide) (disableLeg_absent (by rw [own]; exact absent))
    obtain ⟨leg, wires, kept, port, paths, faces, monitors, engine, test, sent, owed, notices⟩ :=
      taken (s.acceptWrite (requestFrame tag 0x22#8 [byte l.val])) rfl rest
    have step := takeRequest_acted (body := [byte l.val]) hport (by decide : 1 ≤ 128) (acts _) port
    have own : (s.acceptWrite (requestFrame tag 0x22#8 [byte l.val])).leg l = s.leg l := rfl
    rw [own] at leg notices
    rw [absent] at notices
    generalize (s.acceptWrite (requestFrame tag 0x22#8 [byte l.val])).legEvent l .disable (fun s => s.disableLeg l) = t at *
    exact ⟨_, step, rfl, kept, leg, wires, engine, faces, paths, monitors, test, sent, owed, notices⟩
  · have stops (u : State) (own : u.leg l = s.leg l) : u.workStoppedIn (u.disableLeg l) l .giveUp
        ∧ (u.disableLeg l).leg l = { (s.leg l).down with enabled := false, state := .off, record := none }
        ∧ (u.disableLeg l).wiresOf l = { u.wiresOf l with alertLatch := false } := by
      have inner : (u.modLeg l (fun x => { x with enabled := false })).leg l = { u.leg l with enabled := false } :=
        State.leg_modLeg u l _
      have up : ((u.modLeg l (fun x => { x with enabled := false })).leg l).state ≠ .off
          ∧ ((u.modLeg l (fun x => { x with enabled := false })).leg l).state ≠ .absent := by
        rw [inner, own]
        exact ⟨on, present⟩
      obtain ⟨stopped, wires⟩ := goDown_stops .off up
      rw [disableLeg_goesDown (by rw [own]; exact on)]
      refine ⟨workStoppedIn_modLeg rfl rfl stopped, ?_, wires⟩
      rw [leg_goDown_shutDown .off up, inner, own]
      rfl
    obtain ⟨t, step, port, leg, ⟨parked, cancelled, discarded, abandoned, kept⟩, wires, notices⟩ :=
      takeRequest_stops hport rest acts (fun u own => ⟨(stops u own).1, (stops u own).2.1⟩) (ne_comm.mp on) (.inr (.inl rfl))
    refine ⟨t, step, port, kept, leg, ?_, parked, cancelled, discarded, abandoned, notices⟩
    rw [wires, (stops (s.acceptWrite (requestFrame tag 0x22#8 [byte l.val])) rfl).2.2]

end Sys2Proof.Machine

/-! A change of debounced presence (spec/02 R24, R25; spec/08 R136). -/

namespace Sys2Proof.Machine

section
variable {s u : State} {l : LegId}

theorem othersKept_slots (kept : s.othersKept u l) : u.slots = s.slots := by
  obtain ⟨-, -, -, -, -, -, -, slots, -⟩ := kept
  exact slots

theorem othersKept_table (kept : s.othersKept u l) : u.table = s.table := by
  obtain ⟨-, -, -, -, -, -, -, -, -, table, -⟩ := kept
  exact table

theorem presenceChange_eq (level : Bool) {t : State} (taken : (s.settleFilter l .present level).takePresence l level = t)
    (rest : t.tableAtRest) (slots : t.slots = s.slots) (quiet : s.noSlotOn l .present) :
    s.presenceChange l level = t.judge := by
  have atRest : t.judge.tableAtRest := by
    rw [judge_footprint]
    exact rest
  have noSlots : t.judge.noSlotOn l .present := by
    rw [judge_footprint]
    exact noSlotOn_of_slots slots quiet
  unfold State.presenceChange
  rw [taken]
  exact tableTake_eq atRest noSlots

/-- What a leg controller does at a change of presence (R24, R25). -/
def State.presenceTaking (u : State) (l : LegId) (level : Bool) : State :=
  match (u.leg l).state, level with
  | .absent, true => u.enterHeld l .first
  | .held, false | .training, false | .active, false | .degraded, false | .test, false | .failed, false => u.goDown l .absent
  | _, _ => u

theorem takePresence_eq (level : Bool) : u.takePresence l level =
    u.legEvent l .presence (fun s => s.presenceTaking l level) := rfl

theorem presenceTaking_same (level : Bool) (stays : (level = true ∧ (u.leg l).state ≠ .absent)
    ∨ (level = false ∧ ((u.leg l).state = .off ∨ (u.leg l).state = .absent))) : u.presenceTaking l level = u := by
  unfold State.presenceTaking
  rcases stays with ⟨level, away⟩ | ⟨level, down⟩ <;> subst level
  · cases state : (u.leg l).state with
    | absent => exact absurd state away
    | _ => rfl
  · rcases down with state | state <;> rw [state]

theorem presenceTaking_rise (absent : (u.leg l).state = .absent) : u.presenceTaking l true = u.enterHeld l .first := by
  unfold State.presenceTaking
  rw [absent]

theorem presenceTaking_fall (up : (u.leg l).state ≠ .off ∧ (u.leg l).state ≠ .absent) :
    u.presenceTaking l false = u.goDown l .absent := by
  unfold State.presenceTaking
  cases state : (u.leg l).state with
  | off => exact absurd state up.1
  | absent => exact absurd state up.2
  | _ => rfl

theorem takePresence_same (level : Bool) (rest : u.tableAtRest)
    (stays : (level = true ∧ (u.leg l).state ≠ .absent)
      ∨ (level = false ∧ ((u.leg l).state = .off ∨ (u.leg l).state = .absent))) : u.takePresence l level = u := by
  have body := presenceTaking_same level stays
  rw [takePresence_eq, legEvent_same, body]
  · rw [body]
    exact rest
  · rw [body]

theorem takePresence_rise (absent : (u.leg l).state = .absent) (rest : u.tableAtRest) :
    u.heldTaken (u.takePresence l true) l (u.leg l) .first .presence := by
  rw [takePresence_eq]
  exact heldTaken_legEvent rest (by rw [absent]; decide) (by rw [absent]; rfl)
    ((presenceTaking_rise absent).trans (enterHeld_own rfl .first))

theorem takePresence_fall (up : (u.leg l).state ≠ .off ∧ (u.leg l).state ≠ .absent) (rest : u.tableAtRest) :
    u.takePresence l false = (u.goDown l .absent).raiseNotice
      (.legState u.clock.stamp l (u.leg l).state .absent .presence 0) := by
  obtain ⟨⟨stopped, -⟩, -⟩ := goDown_stops .absent up
  have leg := leg_goDown_shutDown .absent up
  have moves : ((u.goDown l .absent).leg l).state ≠ (u.leg l).state := by
    rw [leg]
    exact ne_comm.mp up.2
  rw [takePresence_eq, stopTaken_legEvent rest (presenceTaking_fall up) stopped moves (by rw [leg]; exact .inr (.inr rfl)), leg]
  rfl

end

/-- Settles O43, by the state the leg is in. -/
theorem presenceMovesTheLeg : Obligations.PresenceMovesTheLeg := by
  intro s l rest quiet w
  have settled (level : Bool) : s.settleFilter l .present level =
      { s with wires := s.wires.set l { w with present := ⟨level, level, w.present.stable⟩ } } :=
    settleFilter_eq s l .present level
  have wires (level : Bool) : (s.settleFilter l .present level).wiresOf l =
      { w with present := ⟨level, level, w.present.stable⟩ } := State.wiresOf_modWires s l _
  have same (level : Bool) (stays : (level = true ∧ (s.leg l).state ≠ .absent)
      ∨ (level = false ∧ ((s.leg l).state = .off ∨ (s.leg l).state = .absent))) :
      s.wiresBecame (s.presenceChange l level) l { w with present := ⟨level, level, w.present.stable⟩ } := by
    rw [presenceChange_eq level (takePresence_same (u := s.settleFilter l .present level) level rest stays) rest rfl quiet]
    exact wiresBecame_judge (settled level)
  refine ⟨fun low => ⟨fun away => ?_, fun absent => ?_⟩, fun high => ⟨fun down => ?_, fun on present => ?_⟩⟩
  · exact ⟨_, congrArg Host.Outcome.next (if_neg (Bool.eq_false_iff.mp low)), same true (.inl ⟨rfl, away⟩)⟩
  · obtain ⟨leg, kept, parked, sent, owed, -, -, unmoved, port, notices⟩ :=
      takePresence_rise (u := s.settleFilter l .present true) (l := l) absent rest
    have step := presenceChange_eq (s := s) (l := l) true rfl
    have wired := wires true
    have state : ((s.settleFilter l .present true).leg l).state = .absent := absent
    rw [state] at notices
    have slots := othersKept_slots kept
    have table := othersKept_table kept
    generalize (s.settleFilter l .present true).takePresence l true = t at *
    refine ⟨t.judge, ?_, ?_⟩
    · exact congrArg Host.Outcome.next ((if_neg (Bool.eq_false_iff.mp low)).trans (step (table.trans rest) slots quiet))
    · have value : t.wiresOf l = { w with present := ⟨true, true, w.present.stable⟩ } := by
        rw [State.wiresOf, unmoved]
        exact wired
      rw [judge_footprint]
      exact ⟨leg, value, parked, sent, owed, notices, kept, port⟩
  · exact ⟨_, congrArg Host.Outcome.next (if_pos high), same false (.inr ⟨rfl, down⟩)⟩
  · obtain ⟨⟨⟨parked, cancelled, discarded, abandoned, kept⟩, port, notices⟩, wired⟩ :=
      goDown_stops (u := s.settleFilter l .present false) (l := l) .absent ⟨on, present⟩
    have leg := leg_goDown_shutDown (u := s.settleFilter l .present false) (l := l) .absent ⟨on, present⟩
    have taken := takePresence_fall (u := s.settleFilter l .present false) (l := l) ⟨on, present⟩ rest
    rw [wires false] at wired
    have slots := othersKept_slots kept
    have table := othersKept_table kept
    generalize (s.settleFilter l .present false).goDown l .absent = t at *
    have step := presenceChange_eq (s := s) (l := l) false taken (table.trans rest) slots quiet
    refine ⟨_, congrArg Host.Outcome.next ((if_pos high).trans step), ?_⟩
    rw [judge_footprint]
    exact ⟨leg, wired, parked, cancelled, discarded, abandoned, congrArg (NoticeQueue.take · _) notices, kept, port⟩

end Sys2Proof.Machine

/-! A leg that goes to FAILED (spec/02 R34), and a series for which no width qualifies (R30). -/

namespace Sys2Proof.Machine

/-! ### Reports that the error unit takes, or that wait -/

section
variable {s u : State}

theorem afterReports_of_same (rs : List Report) (errors : u.errors = s.errors) (notices : u.notices = s.notices)
    (clock : u.clock = s.clock) : u.afterReports rs =
      { u with errors := (s.afterReports rs).errors, notices := (s.afterReports rs).notices } := by
  induction rs generalizing s u with
  | nil =>
    show u = { u with errors := s.errors, notices := s.notices }
    rw [← errors, ← notices]
  | cons r rs ih =>
    have first := takeReport_of_same (r := r) errors notices clock
    have clocks : (s.takeReport r).1.clock = s.clock := by rw [takeReport_footprint]
    have step (v : State) : v.afterReports (r :: rs) = (v.takeReport r).1.afterReports rs := rfl
    rw [step, step, first]
    exact ih rfl rfl (clock.trans clocks.symm)

/-- Telling looks at errors, notices, clock and the reports in flight alone. -/
theorem told_of_same (rs : List Report) (errors : u.errors = s.errors) (notices : u.notices = s.notices)
    (clock : u.clock = s.clock) (inFlight : u.inFlight = s.inFlight) : u.told rs =
      { u with errors := (s.told rs).errors, notices := (s.told rs).notices, inFlight := (s.told rs).inFlight } := by
  unfold State.told
  rw [inFlight]
  by_cases empty : s.inFlight.isEmpty = true
  · have flight : (s.afterReports rs).inFlight = s.inFlight := by rw [afterReports_footprint]
    rw [if_pos empty, if_pos empty, afterReports_of_same rs errors notices clock, flight, ← inFlight]
  · rw [if_neg empty, if_neg empty, ← errors, ← notices]

theorem told_footprint (s : State) (rs : List Report) : s.told rs =
    { s with errors := (s.told rs).errors, notices := (s.told rs).notices, inFlight := (s.told rs).inFlight } :=
  told_of_same rs rfl rfl rfl rfl

end

/-! ### FAILED -/

section
variable {s u : State} {l : LegId}

/-- The leg context of an entry to FAILED (R34), before the state changes. -/
def Leg.failing (x : Leg) (c : FailCause) : Leg :=
  { x with
    currentWidth := 0, agreedRate := none, group := 0#4, failureCause := some c, holdTimer := none, limitTimer := none
    trimTimer := none }

/-- The state of a leg that has failed, before LEG FAILED is reported. -/
def State.failedAs (u : State) (l : LegId) (c : FailCause) : State := u.parkedAs l (fun x => x.failing c) .failed

theorem leg_failedAs (c : FailCause) : (u.failedAs l c).leg l = { (u.leg l).failing c with state := .failed } := leg_parkedAs _ _

theorem leg_failedAs_other (c : FailCause) {k : LegId} (hk : k ≠ l) : (u.failedAs l c).leg k = u.leg k := by
  rw [State.failedAs, leg_parkedAs_other _ _ hk, State.parkLeg, State.leg_setPaths]

theorem enterFailed_told (c : FailCause) (rest : u.tableAtRest) (quiet : u.noSlotOn l .tallyThreshold) : u.enterFailed l c =
    (u.failedAs l c).told [u.errorAtLeg l .legFailed .failed (u.leg l).attemptCount (some (failCauseCode c))] := by
  have leg := leg_failedAs (u := u) (l := l) c
  have work : u.legWork (u.failedAs l c) := legWork_parkedAs _ _
  have reports : u.enterFailed l c =
      (u.failedAs l c).reportMid ((u.failedAs l c).legReport .legFailed l (some (failCauseCode c))) := rfl
  rw [reports]
  generalize u.failedAs l c = v at *
  have report : v.legReport .legFailed l (some (failCauseCode c)) =
      u.errorAtLeg l .legFailed .failed (u.leg l).attemptCount (some (failCauseCode c)) := by
    have stamp : v.stamp = u.clock.stamp := by rw [State.stamp, work]
    unfold State.legReport State.errorAtLeg
    rw [leg, stamp]
    rfl
  have table : v.table = noWork := by
    rw [work]
    exact rest
  rw [report]
  refine reportMid_told (by rw [table]; rfl) (by rw [table]; rfl) fun k hk => ?_
  obtain rfl : l = k := Option.some.inj hk
  exact noSlotOn_of_slots (by rw [work]) quiet

/-! ### A series for which no width qualifies -/

theorem startSeries_none (c : TrainCause)
    (unfit : selectWidth (u.leg l).configuredWidth (u.leg l).minimumWidth (u.leg l).excluded = none) :
    u.startSeries l c = (u.modLeg l (fun x => x.series c)).enterFailed l .width := by
  have leg : (u.modLeg l (fun x => x.series c)).leg l = (u.leg l).series c := State.leg_modLeg u l _
  have started : u.startSeries l c = (u.modLeg l (fun x => x.series c)).startAttempt l := rfl
  have same : selectWidth ((u.leg l).series c).configuredWidth ((u.leg l).series c).minimumWidth ((u.leg l).series c).excluded =
      none := unfit
  rw [started, State.startAttempt, leg]
  simp only [same]

/-- A series that no width qualifies for has taken the leg to FAILED (R34): all but the port. -/
def State.widthFailed (s t : State) (l : LegId) (x : Leg) (c : TrainCause) : Prop :=
  t.leg l = { (x.series c).failing .width with state := .failed } ∧ s.legParked t l ∧ t.sent = s.sent
  ∧ t.resultOwed = s.resultOwed
  ∧ t.reportsOf (s.told [s.errorAtLeg l .legFailed .failed 0 (some 12)])
  ∧ t.notices = (s.told [s.errorAtLeg l .legFailed .failed 0 (some 12)]).notices.take
      (.legState s.clock.stamp l (s.leg l).state .failed (.fail .width) 0)
  ∧ (∀ k : LegId, k ≠ l → t.leg k = s.leg k) ∧ t.map = s.map ∧ t.store = s.store

theorem widthFailed_legEvent {e : TrainCause} {f : State → State} {x : Leg} {c : TrainCause} (rest : s.tableAtRest)
    (quiet : s.noSlotOn l .tallyThreshold) (moves : (s.leg l).state ≠ .failed)
    (begins : f s = (s.modLeg l (fun _ => x)).startSeries l c)
    (unfit : selectWidth x.configuredWidth x.minimumWidth x.excluded = none) :
    s.widthFailed (s.legEvent l (.train e) f) l x c ∧ (s.legEvent l (.train e) f).port = s.port := by
  unfold State.widthFailed
  have own : (s.modLeg l (fun _ => x)).leg l = x := State.leg_modLeg s l _
  have series := startSeries_none (u := s.modLeg l (fun _ => x)) (l := l) c (by rw [own]; exact unfit)
  rw [State.modLeg_modLeg] at series
  have leg := leg_failedAs (u := s.modLeg l (fun _ => x.series c)) (l := l) .width
  have inner : (s.modLeg l (fun _ => x.series c)).leg l = x.series c := State.leg_modLeg s l _
  have legs {k : LegId} (hk : k ≠ l) : ((s.modLeg l (fun _ => x.series c)).failedAs l .width).leg k = s.leg k := by
    rw [leg_failedAs_other .width hk]
    exact State.leg_modLeg_other s l k _ hk
  have parked : s.legParked ((s.modLeg l (fun _ => x.series c)).failedAs l .width) l :=
    legParked_parkedAs (restLike_modLeg s l _) _ _
  have work : s.legWork ((s.modLeg l (fun _ => x.series c)).failedAs l .width) :=
    legWork_trans (legWork_modLeg s l _) (legWork_parkedAs _ _)
  have sent : ((s.modLeg l (fun _ => x.series c)).failedAs l .width).sent = s.sent := sent_parkedAs _ _
  have told := enterFailed_told (u := s.modLeg l (fun _ => x.series c)) (l := l) .width rest quiet
  have report : (s.modLeg l (fun _ => x.series c)).errorAtLeg l .legFailed .failed
      ((s.modLeg l (fun _ => x.series c)).leg l).attemptCount (some (failCauseCode .width)) =
      s.errorAtLeg l .legFailed .failed 0 (some 12) := by
    rw [inner]
    rfl
  rw [report] at told
  rw [series, told] at begins
  rw [inner] at leg
  generalize (s.modLeg l (fun _ => x.series c)).failedAs l .width = v at *
  have same : v.errors = s.errors ∧ v.notices = s.notices ∧ v.clock = s.clock ∧ v.inFlight = s.inFlight ∧ v.table = s.table
      ∧ v.resultOwed = s.resultOwed ∧ v.map = s.map ∧ v.store = s.store ∧ v.port = s.port := by
    rw [work]
    exact ⟨rfl, rfl, rfl, rfl, rfl, rfl, rfl, rfl, rfl⟩
  obtain ⟨errors, notices, clock, inFlight, table, owed, map, store, port⟩ := same
  have reported := told_of_same [s.errorAtLeg l .legFailed .failed 0 (some 12)] errors notices clock inFlight
  rw [reported] at begins
  generalize s.told [s.errorAtLeg l .legFailed .failed 0 (some 12)] = took at *
  have toldLeg : (f s).leg l = v.leg l := by
    rw [begins]
    rfl
  have atRest : (f s).tableAtRest := by
    rw [begins]
    exact table.trans rest
  have moved : ((f s).leg l).state ≠ (s.leg l).state := by
    rw [toldLeg, leg]
    exact moves.symm
  have notice : s.moveNotice (f s) l (.train e) = .legState s.clock.stamp l (s.leg l).state .failed (.fail .width) 0 := by
    have stamp : (f s).stamp = s.clock.stamp := by
      rw [begins, ← clock]
      rfl
    rw [State.moveNotice, toldLeg, leg, stamp]
    rfl
  rw [legEvent_moved atRest moved, notice, begins]
  exact ⟨⟨leg, parked, sent, owed, ⟨rfl, rfl⟩, rfl, fun k hk => legs hk, map, store⟩, port⟩

end

/-- Settles O18, by the series that finds no width. -/
theorem noQualifyingWidthFailsTheLeg : Obligations.NoQualifyingWidthFailsTheLeg := by
  intro s tag l rest quiet held unfit failed
  have moves : (s.leg l).state ≠ .failed := by
    rw [held]
    decide
  have conclude (t : State) (x : Leg) (excluded : x.excluded = (s.leg l).excluded) (c : TrainCause)
      (taken : s.widthFailed t l x c) : failed t := by
    obtain ⟨leg, parked, sent, owed, reports, notices, legs, map, store⟩ := taken
    rw [held] at notices
    have away : t.holdAsserted l = false := by
      rw [State.holdAsserted, leg]
      rfl
    refine ⟨?_, ?_, ?_, ?_, ?_, ?_, ?_, ?_, ?_, away, parked, sent, owed, ⟨reports, notices⟩, legs, map, store⟩ <;> rw [leg]
    case refine_4 => exact excluded
    all_goals rfl
  refine ⟨fun timer free => ?_, fun hport timer => ?_⟩
  · obtain ⟨taken, port⟩ := widthFailed_legEvent (f := fun s => s.expireHold l) (e := .first) (x := { s.leg l with holdTimer := none })
      rest quiet moves (expireHold_leaves free) unfit
    exact ⟨_, congrArg Host.Outcome.next (if_pos ⟨held, timer⟩), conclude _ _ rfl _ taken, port⟩
  · have acts (u : State) : legReleaseAct [byte l.val] u =
        .plain (u.legEvent l (.train .host) (fun s => s.releaseLeg l)) .done := legRequest_byte u l _
    have taken (u : State) (own : u.leg l = s.leg l) (table : u.tableAtRest) (slots : u.noSlotOn l .tallyThreshold) :=
      widthFailed_legEvent (s := u) (f := fun s => s.releaseLeg l) (e := .host) (x := { u.leg l with holdRequest := false })
        table slots (by rw [own]; exact moves) (releaseLeg_leaves (by rw [own]; exact held) (by rw [own]; exact timer))
        (by rw [own]; exact unfit)
    have done := taken (s.acceptWrite (requestFrame tag 0x24#8 [byte l.val])) rfl rest quiet
    obtain ⟨⟨leg, parked, sent, owed, reports, notices, legs, map, store⟩, port⟩ := done
    have step := takeRequest_acted (body := [byte l.val]) hport (by decide : 1 ≤ 128) (acts _) port
    have told := told_of_same (s := s) (u := s.acceptWrite (requestFrame tag 0x24#8 [byte l.val]))
      [s.errorAtLeg l .legFailed .failed 0 (some 12)] rfl rfl rfl rfl
    have error : (s.acceptWrite (requestFrame tag 0x24#8 [byte l.val])).errorAtLeg l .legFailed .failed 0 (some 12) =
      s.errorAtLeg l .legFailed .failed 0 (some 12) := rfl
    rw [error, told] at reports notices
    generalize (s.acceptWrite (requestFrame tag 0x24#8 [byte l.val])).legEvent l (.train .host) (fun s => s.releaseLeg l) = t at *
    exact ⟨_, step, conclude _ { s.leg l with holdRequest := false } rfl (s.leg l).trainingCause
      ⟨leg, parked, sent, owed, reports, notices, legs, map, store⟩, congrArg Leg.holdRequest leg, rfl⟩

end Sys2Proof.Machine

/-! The start of a pattern test (spec/09 R150, R151): patterns and symbols, the body of TEST START, and what the start does. -/

namespace Sys2Proof.Machine

/-! ### Patterns -/

theorem foldl_xor_eq (P : Nat → Bool) (xs : List Nat) (b : Bool) :
    xs.foldl (fun b i => b ^^ P i) b = (b ^^ decide ((xs.filter P).length % 2 = 1)) := by
  induction xs generalizing b with
  | nil => simp
  | cons x xs ih =>
    rw [List.foldl_cons, ih]
    cases on : P x with
    | false => rw [List.filter_cons_of_neg (by simp [on]), Bool.xor_false]
    | true =>
      rw [List.filter_cons_of_pos on, List.length_cons, Bool.xor_assoc]
      congr 1
      rcases Nat.mod_two_eq_zero_or_one (xs.filter P).length with even | odd
      · have next : ((xs.filter P).length + 1) % 2 = 1 := by omega
        simp [even, next]
      · have next : ((xs.filter P).length + 1) % 2 = 0 := by omega
        simp [odd, next]

theorem feedback_iff (taps v : Stages) :
    feedback taps v = true ↔ ((List.range 31).filter (fun k => taps.getLsbD k && v.getLsbD k)).length % 2 = 1 := by
  unfold feedback parity
  rw [foldl_xor_eq, Bool.false_xor, decide_eq_true_iff]
  have same : (List.range 31).filter (v &&& taps).getLsbD =
      (List.range 31).filter (fun k => taps.getLsbD k && v.getLsbD k) :=
    List.filter_congr fun k _ => by rw [BitVec.getLsbD_and, Bool.and_comm]
  rw [same]

theorem getLsbD_patternStep_zero (taps v : Stages) : (patternStep taps v).getLsbD 0 = feedback taps v := by
  unfold patternStep shiftIn
  cases feedback taps v <;> simp

theorem getLsbD_patternStep_succ (taps v : Stages) {k : Nat} (hk : k < 30) :
    (patternStep taps v).getLsbD (k + 1) = v.getLsbD k := by
  have inside : k + 1 < 31 := by omega
  have value : v.getLsbD k = v[k] := BitVec.getLsbD_eq_getElem (by omega)
  unfold patternStep shiftIn
  cases feedback taps v <;> simp [inside, value]

theorem patternSteps_succ (taps : Stages) (n : Nat) (v : Stages) :
    patternSteps taps (n + 1) v = patternStep taps (patternSteps taps n v) := by
  induction n generalizing v with
  | zero => rfl
  | succ n ih => exact ih (patternStep taps v)

theorem length_patternBits (taps : Stages) (n : Nat) (v : Stages) : (patternBits taps n v).length = n := by
  induction n generalizing v with
  | zero => rfl
  | succ n ih => exact congrArg (· + 1) (ih (patternStep taps v))

theorem getElem?_patternBits (taps : Stages) (n k : Nat) (v : Stages) (hk : k < n) :
    (patternBits taps n v)[k]? = some (feedback taps (patternSteps taps k v)) := by
  induction n generalizing k v with
  | zero => omega
  | succ n ih =>
    cases k with
    | zero => rfl
    | succ k => exact ih k (patternStep taps v) (by omega)

/-! ### Symbols -/

theorem length_pairBits : ∀ bits : List Bool, (pairBits bits).length = bits.length / 2
  | [] => rfl
  | [_] => by simp [pairBits]
  | a :: b :: rest => by
    have cons : pairBits (a :: b :: rest) = .four a b :: pairBits rest := rfl
    rw [cons, List.length_cons, length_pairBits rest, List.length_cons, List.length_cons]
    omega

theorem getElem?_pairBits : ∀ (bits : List Bool) (k : Nat) (earlier later : Bool), bits[2 * k]? = some earlier →
    bits[2 * k + 1]? = some later → (pairBits bits)[k]? = some (.four earlier later)
  | [], _, _, _, first, _ => by simp at first
  | [_], k, _, _, _, second => by simp at second
  | a :: b :: rest, 0, _, _, first, second => by
    injection first with first
    injection second with second
    rw [← first, ← second]
    rfl
  | a :: b :: rest, k + 1, earlier, later, first, second => getElem?_pairBits rest k earlier later first second

theorem symbolsOf_paired {rate : Rate} (fast : rate ≠ .r25) (bits : List Bool) : symbolsOf rate bits = pairBits bits := by
  cases rate with
  | r25 => exact absurd rfl fast
  | r50 | r100 => rfl

/-! ### The body of TEST START -/

section
variable (l : LegId) (choice : FacesChoice) (taps seed : Stages) (limit : Nat)

theorem stagesAt_of {v : Stages} {bs : List Byte} {i : Nat} (h : le32At bs i = v.toNat) : stagesAt bs i = some v := by
  rw [stagesAt, h, if_pos v.isLt, BitVec.ofNat_toNat, BitVec.setWidth_eq]

theorem byte_toNat (n : Nat) : (byte n).toNat = n % 256 := BitVec.toNat_ofNat n 8

theorem testBody_startBody (bound : limit < 65536) : testBody (startBody l choice taps seed limit) =
    if setHas taps 30 && seed != 0#31 && decide (limit ≤ 3600) then some ⟨l, choice, taps, seed, limit⟩ else none := by
  have leg : finAt 4 (startBody l choice taps seed limit) 0 = some l := by
    refine finAt_of ((byte_toNat l.val).trans ?_)
    have := l.isLt
    omega
  have faces : facesChoiceAt (startBody l choice taps seed limit) 1 = some choice := by
    refine facesChoiceAt_of ((byte_toNat (facesChoiceCode choice)).trans ?_)
    cases choice <;> rfl
  have first : stagesAt (startBody l choice taps seed limit) 2 = some taps := by
    have value : le32At (startBody l choice taps seed limit) 2 =
        (byte taps.toNat).toNat + 256 * (byte (taps.toNat / 256)).toNat
          + 65536 * ((byte (taps.toNat / 65536)).toNat + 256 * (byte (taps.toNat / 16777216)).toNat) := rfl
    refine stagesAt_of (value.trans ?_)
    have := taps.isLt
    simp only [byte_toNat]
    omega
  have second : stagesAt (startBody l choice taps seed limit) 6 = some seed := by
    have value : le32At (startBody l choice taps seed limit) 6 =
        (byte seed.toNat).toNat + 256 * (byte (seed.toNat / 256)).toNat
          + 65536 * ((byte (seed.toNat / 65536)).toNat + 256 * (byte (seed.toNat / 16777216)).toNat) := rfl
    refine stagesAt_of (value.trans ?_)
    have := seed.isLt
    simp only [byte_toNat]
    omega
  have last : le16At (startBody l choice taps seed limit) 10 = limit := by
    have value : le16At (startBody l choice taps seed limit) 10 =
        (byte limit).toNat + 256 * (byte (limit / 256)).toNat := rfl
    rw [value]
    simp only [byte_toNat]
    omega
  unfold testBody ofLength
  rw [if_pos (by rfl)]
  simp only [leg, faces, first, second, last, Option.bind_eq_bind, Option.bind_some]

theorem length_startBody : (startBody l choice taps seed limit).length ≤ 128 := by
  show 12 ≤ 128
  decide

end

/-! ### The start -/

section
variable (s : State) (l : LegId)

theorem chosenFaces_eq (choice : FacesChoice) : s.chosenFaces l choice = allFaces.filter (s.chosen l choice) := by
  have sFaces (ps : List PathId) : (facesOfPaths ps).filter (fun f => !isCFace f) = ps.map sFace := by
    induction ps with
    | nil => rfl
    | cons p ps ih =>
      have cons : facesOfPaths (p :: ps) = sFace p :: cFace p :: facesOfPaths ps := rfl
      rw [cons, List.filter_cons_of_pos (by simp [isCFace_sFace]), List.filter_cons_of_neg (by simp [isCFace_cFace]), ih,
        List.map_cons]
  have faces := groupFaces_eq s l
  unfold State.groupFaces at faces
  unfold State.chosenFaces State.chosen
  cases choice with
  | c =>
    dsimp only
    rw [← facesOfPaths_filter_c, faces, List.filter_filter]
    exact List.filter_congr fun f _ => Bool.and_comm _ _
  | s =>
    dsimp only
    rw [← sFaces, faces, List.filter_filter]
    exact List.filter_congr fun f _ => Bool.and_comm _ _
  | both =>
    dsimp only
    rw [groupFaces_eq]
    exact List.filter_congr fun f _ => (Bool.and_true _).symm

/-- The leg's context and paths once a test has started. -/
def State.testMoved (s : State) (o : TestOrder) : State :=
  (((s.setTest o.leg (some (s.freshTest o))).modLeg o.leg (fun x => { x with trimTimer := none })).setPaths
    (s.groupPaths o.leg) .testing).setLegState o.leg .test

theorem startTest_eq (o : TestOrder) : s.startTest o =
    (s.chosenFaces o.leg o.faces).foldl (fun s f => s.setGenerator f (some o.seed)) (s.testMoved o) := rfl

variable (o : TestOrder)

theorem setPaths_testing (ps : List PathId) (u : State) : u.setPaths ps .testing =
    { u with paths := (u.setPaths ps .testing).paths } := by
  have step (u : State) (p : PathId) : u.setPath p .testing = { u with paths := (u.setPath p .testing).paths } := by
    unfold State.setPath
    split
    · rfl
    · rfl
  exact foldl_rel (R := fun a b => b = { a with paths := b.paths }) (fun _ => rfl) (fun _ _ _ h h' => by rw [h', h]) step ps u

theorem testMoved_footprint : s.testMoved o =
    { s with
      tests := modAt s.tests o.leg (fun _ => some (s.freshTest o)), legs := (s.testMoved o).legs
      paths := (s.testMoved o).paths, frame := (s.testMoved o).frame } := by
  unfold State.testMoved State.setLegState
  rw [judge_footprint, setPaths_testing]
  rfl

theorem leg_testMoved (k : LegId) : (s.testMoved o).leg k =
    if k = o.leg then { s.leg o.leg with state := .test, trimTimer := none } else s.leg k := by
  rw [State.testMoved, leg_setLegState_eq, State.leg_setPaths, State.leg_setPaths]
  by_cases own : k = o.leg
  · rw [if_pos own, if_pos own, State.leg_modLeg]
    rfl
  · rw [if_neg own, if_neg own, State.leg_modLeg_other _ _ _ _ own]
    rfl

theorem path_testMoved (p : PathId) : (s.testMoved o).path p =
    if p ∈ s.groupPaths o.leg then .testing else s.path p := by
  have paths : (s.testMoved o).path p =
      (((s.setTest o.leg (some (s.freshTest o))).modLeg o.leg (fun x => { x with trimTimer := none })).setPaths
        (s.groupPaths o.leg) .testing).path p := by
    unfold State.testMoved State.setLegState
    rw [judge_footprint]
    rfl
  rw [paths, path_setPaths]
  rfl

end

end Sys2Proof.Machine

/-! TEST START, as its statement speaks of it. -/

namespace Sys2Proof.Machine

section
variable {s : State} {o : TestOrder}

/-- What the start of a test does to the leg and the rest, but for the port. -/
def State.testBegun (s t : State) (l : LegId) (choice : FacesChoice) (taps seed : Stages) (limit : Nat) : Prop :=
  t.leg l = { s.leg l with state := .test, trimTimer := none }
  ∧ t.test l = some ⟨.running, choice, taps, seed, limit, 0, none,
      if limit ≥ 1 then some (1000 * limit) else none,
      (allFaces.filter (s.chosen l choice)).map (fun f =>
        ⟨f, if (s.monitor f).lock = .locked then .seeking else .lost, 0, 0, 0, 0#31, 0, 0, 0, 0⟩)⟩
  ∧ (∀ f : FaceId, t.generators[f] = if s.chosen l choice f = true then some seed else s.generators[f])
  ∧ (∀ (p : PathId) (q : Place), s.place p = some q → q.leg = l →
      t.path p = if setHas (s.leg l).group q.pos.val = true then .testing else s.path p)
  ∧ (∀ (f : FaceId) (rate : Rate), s.chosen l choice f = true → (s.leg l).agreedRate = some rate →
      t.transmits f = .pattern (some rate) (symbolsOf rate (patternBits taps (bitsPerMicrosecond rate) seed)))
  ∧ t.notices = s.notices.take (.legState s.clock.stamp l (s.leg l).state .test .test (s.leg l).currentWidth)
  ∧ s.othersKept t l

theorem startTest_footprint (o : TestOrder) : s.startTest o =
    { s.testMoved o with generators := (s.startTest o).generators } := by
  rw [startTest_eq]
  exact setGenerators_footprint id _ _ _

theorem generators_startTest (o : TestOrder) (f : FaceId) : (s.startTest o).generators[f] =
    if s.chosen o.leg o.faces f = true then some o.seed else s.generators[f] := by
  have folded := generators_setGenerators id (some o.seed) (s.chosenFaces o.leg o.faces) (s.testMoved o) f
  have before : (s.testMoved o).generators = s.generators := by rw [testMoved_footprint]
  rw [startTest_eq]
  refine folded.trans ?_
  rw [before]
  simp only [id_eq, exists_eq_right, chosenFaces_eq, mem_filter_allFaces]

theorem onGroup_of_chosen {l : LegId} {choice : FacesChoice} {f : FaceId} (h : s.chosen l choice f = true) :
    s.onGroup l f = true := by
  unfold State.chosen at h
  rw [Bool.and_eq_true] at h
  exact h.1

/-- A generator that runs sends its pattern (R150). -/
theorem transmits_ofTest {t : State} {f : FaceId} {l : LegId} {r : TestRecord} {rate : Rate} {v : Stages}
    (path : t.path (facePath f) = .testing) (leg : t.faceLeg f = some l) (test : t.test l = some r)
    (agreed : (t.leg l).agreedRate = some rate) (generator : t.generators[f] = some v) :
    t.transmits f = .pattern (some rate) (symbolsOf rate (patternBits r.taps (bitsPerMicrosecond rate) v)) := by
  have faceRate : t.faceRate f = some rate := by
    rw [State.faceRate, leg]
    exact agreed
  exact (transmits_pattern path generator leg test faceRate).trans (by rw [faceRate])

theorem testBegun_legEvent (rest : s.tableAtRest) (linked : isLinked (s.leg o.leg).state = true) :
    s.testBegun (s.legEvent o.leg .test (fun s => s.startTest o)) o.leg o.faces o.taps o.seed o.limit
      ∧ (s.legEvent o.leg .test (fun s => s.startTest o)).port = s.port := by
  have foot := startTest_footprint (s := s) o
  have moved := testMoved_footprint s o
  have generators := generators_startTest (s := s) o
  have legs := leg_testMoved s o
  have paths := path_testMoved s o
  have test : (s.testMoved o).test o.leg = some (s.freshTest o) := by
    rw [moved]
    exact State.test_setTest s o.leg _
  have others {k : LegId} (hk : k ≠ o.leg) : (s.testMoved o).test k = s.test k := by
    rw [moved]
    exact State.test_setTest_other s o.leg k _ hk
  have place (p : PathId) : (s.testMoved o).place p = s.place p := by
    rw [moved]
    rfl
  have fields : (s.testMoved o).monitors = s.monitors ∧ (s.testMoved o).faces = s.faces ∧ (s.testMoved o).notices = s.notices
      ∧ (s.testMoved o).clock = s.clock ∧ (s.testMoved o).table = s.table ∧ (s.testMoved o).port = s.port := by
    rw [moved]
    exact ⟨rfl, rfl, rfl, rfl, rfl, rfl⟩
  have ground : (s.testMoved o).map = s.map ∧ (s.testMoved o).plan = s.plan ∧ (s.testMoved o).store = s.store
      ∧ (s.testMoved o).image = s.image ∧ (s.testMoved o).errors = s.errors ∧ (s.testMoved o).slots = s.slots
      ∧ (s.testMoved o).clock = s.clock ∧ (s.testMoved o).table = s.table ∧ (s.testMoved o).inFlight = s.inFlight
      ∧ (s.testMoved o).bus = s.bus ∧ (s.testMoved o).pending = s.pending := by
    rw [moved]
    exact ⟨rfl, rfl, rfl, rfl, rfl, rfl, rfl, rfl, rfl, rfl, rfl⟩
  obtain ⟨monitors, faces, notices, clock, table, port⟩ := fields
  generalize s.testMoved o = u at *
  have own := legs o.leg
  rw [if_pos rfl] at own
  have legOf (k : LegId) : (s.startTest o).leg k = u.leg k := by
    rw [foot]
    rfl
  have atRest : (s.startTest o).tableAtRest := by
    rw [foot]
    exact table.trans rest
  have moves : ((s.startTest o).leg o.leg).state ≠ (s.leg o.leg).state := by
    rw [legOf, own]
    intro same
    rw [← same] at linked
    exact Bool.false_ne_true linked
  have notice : s.moveNotice (s.startTest o) o.leg .test =
      .legState s.clock.stamp o.leg (s.leg o.leg).state .test .test (s.leg o.leg).currentWidth := by
    have stamp : (s.startTest o).stamp = s.clock.stamp := by
      rw [State.stamp, foot]
      exact congrArg Clock.stamp clock
    rw [State.moveNotice, legOf, own, stamp]
    rfl
  have faceOf (f : FaceId) : u.face f = s.face f := by simp only [State.face, faces]
  have monitorOf (f : FaceId) : u.monitor f = s.monitor f := by simp only [State.monitor, monitors]
  rw [legEvent_moved atRest moves, notice]
  generalize s.startTest o = v at *
  rw [foot]
  refine ⟨⟨own, ?_, generators, fun p q hq hl => ?_, fun f rate chosen agreed => ?_, congrArg (NoticeQueue.take · _) notices,
    fun k hk => ⟨(legs k).trans (if_neg hk), others hk⟩, fun p hp => ?_, ground⟩, port⟩
  · refine test.trans ?_
    unfold State.freshTest
    rw [chosenFaces_eq]
    rfl
  · refine (paths p).trans (if_congr ?_ rfl rfl)
    rw [← hl]
    exact mem_groupPaths hq rfl
  · have group := onGroup_of_chosen chosen
    have inside : facePath f ∈ s.groupPaths o.leg := (mem_pathsAt_facePath s o.leg _ f).mpr group
    refine transmits_ofTest (l := o.leg) (r := s.freshTest o) ?_ ?_ ?_ ?_ ?_
    · exact (paths _).trans (if_pos inside)
    · have leg := faceLeg_of_onGroup group
      unfold State.faceLeg State.pathLeg at leg ⊢
      rw [← leg]
      exact congrArg (Option.map _) (place _)
    · exact test
    · show (u.leg o.leg).agreedRate = some rate
      rw [own]
      exact agreed
    · exact (generators f).trans (if_pos chosen)
  · have out : p ∉ s.groupPaths o.leg := fun h => hp (pathsAt_own p h)
    exact ⟨(paths p).trans (if_neg out), monitorOf _, monitorOf _, faceOf _, faceOf _⟩

end

/-- Settles O45: the pattern register, its symbols, and what a TEST START does that passes its checks. -/
theorem testStartBeginsATest : Obligations.TestStartBeginsATest := by
  refine ⟨fun taps v => ⟨feedback_iff taps v, getLsbD_patternStep_zero taps v, fun k => getLsbD_patternStep_succ taps v, rfl,
    fun n => patternSteps_succ taps n v, fun n => length_patternBits taps n v, fun n k => getElem?_patternBits taps n k v⟩,
    fun bits => ⟨rfl, fun rate fast => ?_⟩, fun s tag l choice taps seed limit hport bound => ?_⟩
  · rw [symbolsOf_paired fast]
    exact ⟨length_pairBits bits, getElem?_pairBits bits⟩
  · have short := length_startBody l choice taps seed limit
    have decoded := testBody_startBody l choice taps seed limit bound
    have passes (good : setHas taps 30 = true ∧ seed ≠ 0#31 ∧ limit ≤ 3600) :
        testBody (startBody l choice taps seed limit) = some ⟨l, choice, taps, seed, limit⟩ := by
      obtain ⟨top, nonzero, small⟩ := good
      rw [decoded, if_pos (by simp [top, nonzero, small])]
    have acts (u : State) (good : setHas taps 30 = true ∧ seed ≠ 0#31 ∧ limit ≤ 3600) :
        testStartAct (startBody l choice taps seed limit) u =
          if isLinked (u.leg l).state then
            .plain (u.legEvent l .test (fun s => s.startTest ⟨l, choice, taps, seed, limit⟩)) .done
          else .plain u .wrongState := withOperand_some u _ _ _ (passes good)
    refine ⟨fun bad => ?_, fun good unlinked => ?_, fun good linked rest => ?_⟩
    · refine takeRequest_taken hport short (withOperand_none _ _ _ ?_) (.inr rfl)
      rw [decoded, if_neg]
      intro all
      simp only [Bool.and_eq_true, bne_iff_ne, decide_eq_true_eq] at all
      exact bad ⟨all.1.1, all.1.2, all.2⟩
    · exact takeRequest_taken hport short ((acts _ good).trans (if_neg (Bool.eq_false_iff.mp unlinked))) (.inr rfl)
    · have taken (u : State) (own : u.leg l = s.leg l) (table : u.tableAtRest) :=
        testBegun_legEvent (s := u) (o := ⟨l, choice, taps, seed, limit⟩) table (by rw [own]; exact linked)
      obtain ⟨⟨leg, test, generators, paths, sends, notices, kept⟩, port⟩ :=
        taken (s.acceptWrite (requestFrame tag 0x60#8 (startBody l choice taps seed limit))) rfl rest
      have step := takeRequest_acted hport short ((acts _ good).trans (if_pos linked)) port
      generalize State.legEvent _ l .test _ = t at *
      exact ⟨_, step, rfl, leg, test, generators, paths, sends, notices, kept⟩

end Sys2Proof.Machine

/-! LEG RESET, stage by stage (spec/02 R42): the stop, the reload and the state that the leg settles in. -/

namespace Sys2Proof.Machine

/-! ### Faces that no settle point moves -/

theorem Face.settled_idle {x : Face} (idle : x.pending = false) : x.settled = x := by
  unfold Face.settled
  rw [if_neg (Bool.eq_false_iff.mp idle)]

/-- Where no face of the leg is pending, parking it leaves the faces and the engine as they are. -/
theorem parkLeg_settled {u : State} {l : LegId} (idle : ∀ f : FaceId, u.faceLeg f = some l → (u.face f).pending = false) :
    (u.parkLeg l).engine = u.engine ∧ ∀ f : FaceId, (u.parkLeg l).face f = u.face f := by
  constructor
  · have fold (ps : List PathId) (v : State)
        (idle : ∀ p ∈ ps, ∀ f : FaceId, facePath f = p → (v.face f).pending = false) : (v.setPaths ps .parked).engine = v.engine := by
      induction ps generalizing v with
      | nil => rfl
      | cons p ps ih =>
        have step : v.setPaths (p :: ps) .parked = (v.setPath p .parked).setPaths ps .parked := rfl
        have first := engine_setPath_settled (s := v) (p := p) (st := .parked) (idle p (List.mem_cons_self ..))
        rw [step, ih, first]
        intro q hq f hf
        have before := idle q (List.mem_cons_of_mem _ hq) f hf
        rw [face_setPath]
        split
        · rw [Face.settled_idle before]
          exact before
        · exact before
    refine fold (u.legPaths l) u fun p hp f hf => idle f ?_
    rw [State.faceLeg, hf]
    exact (mem_legPaths u l p).mp hp
  · intro f
    rw [face_parkLeg]
    split
    · next own => exact Face.settled_idle (idle f own.1)
    · rfl

/-! ### A leg that has stopped working has nothing more to end -/

/-- The engine has nothing of the faces that a cancellation would change. -/
def Engine.clearOf (e : Engine) (fs : FaceId → Bool) : Prop :=
  (∀ f : FaceId, fs f = true → e.queue[f] = none)
  ∧ (∀ r : RunningJob, e.running = some r → fs r.job.face = true → r.cancelling = true)
  ∧ ∀ x : SuspendedJob, e.suspended = some x → fs x.job.face = false

theorem cancel_clear {e : Engine} {fs : FaceId → Bool} (clear : e.clearOf fs) {f : FaceId} (hf : fs f = true) : e.cancel f = e := by
  obtain ⟨queue, running, suspended⟩ := clear
  have sameQueue : modAt e.queue f (fun _ => none) = e.queue := modAt_none_eq (queue f hf)
  have sameRunning : e.running.map (fun r => if r.job.face = f then { r with cancelling := true } else r) = e.running := by
    cases slot : e.running with
    | none => rfl
    | some r =>
      by_cases own : r.job.face = f
      · have marked := running r slot (by rw [own]; exact hf)
        have same : ({ r with cancelling := true } : RunningJob) = r := by rw [← marked]
        simp only [Option.map_some, if_pos own, same]
      · simp only [Option.map_some, if_neg own]
  have sameSuspended : e.suspended.filter (fun x => !(x.job.face == f)) = e.suspended := by
    cases slot : e.suspended with
    | none => rfl
    | some x =>
      have away : x.job.face ≠ f := fun same => by
        have out := suspended x slot
        rw [same, hf] at out
        exact Bool.noConfusion out
      simp [Option.filter_some, away]
  unfold Engine.cancel
  rw [sameQueue, sameRunning, sameSuspended, queue f hf, Option.toList_none, ite_self, List.append_nil]

theorem handed_clear {e : Engine} {fs : FaceId → Bool} (clear : e.clearOf fs) {f : FaceId} (hf : fs f = true) : e.handed f = [] := by
  obtain ⟨queue, -, suspended⟩ := clear
  have none_ : (e.suspended.map (·.job)).filter (fun j => j.face == f) = none := by
    cases slot : e.suspended with
    | none => rfl
    | some x =>
      have away : x.job.face ≠ f := fun same => by
        have out := suspended x slot
        rw [same, hf] at out
        exact Bool.noConfusion out
      simp [Option.filter_some, away]
  unfold Engine.handed
  rw [none_, queue f hf, Option.toList_none, ite_self, List.append_nil]

theorem workEnded_clear {u : State} {l : LegId} (reason : AbortReason) (record : (u.leg l).record = none)
    (test : u.test l = none) (clear : u.engine.clearOf (u.onLeg l)) : u.workEnded l reason = u := by
  have abandoned : u.abandon l reason = u := by
    unfold State.abandon
    rw [record]
  have cancels (fs : List FaceId) (inside : ∀ f ∈ fs, u.onLeg l f = true) : fs.foldl Engine.cancel u.engine = u.engine := by
    induction fs with
    | nil => rfl
    | cons f fs ih =>
      rw [List.foldl_cons, cancel_clear clear (inside f (List.mem_cons_self ..))]
      exact ih fun g hg => inside g (List.mem_cons_of_mem _ hg)
  have members (f : FaceId) (hf : f ∈ allFaces.filter (u.onLeg l)) : u.onLeg l f = true := (mem_filter_allFaces _ f).mp hf
  have handed : u.cancelHanded (u.onLeg l) = [] := by
    rw [cancelHanded_eq]
    exact List.flatMap_eq_nil_iff.mpr fun f hf => handed_clear clear (members f hf)
  have notices : u.cancelNotices (u.onLeg l) = [] := by
    unfold State.cancelNotices
    rw [handed]
    rfl
  have tests : u.discardTest l = u := by
    unfold State.discardTest
    rw [test]
  rw [← workEnded_testLast, abandoned, legFaces_eq, cancelFaces_filter, cancels _ members, handed, notices]
  exact tests

/-! ### The state that a reset leg settles in -/

section
variable {u : State} {l : LegId}

/-- The state that a leg settles in after its reload (R42 step 4). -/
def State.settlesIn (u : State) (l : LegId) : LegState :=
  if (u.leg l).enabled = false ∨ (u.leg l).configuredWidth = 0 then .off
  else if (u.wiresOf l).present.asserted then .held else .absent

/-- What a leg must be before it settles: none of its faces is pending, and from a state at work its work has ended. -/
structure State.readyToSettle (u : State) (l : LegId) : Prop where
  idle : ∀ f : FaceId, u.faceLeg f = some l → (u.face f).pending = false
  ended : isTrained (u.leg l).state = true →
    (u.leg l).record = none ∧ u.test l = none ∧ u.engine.clearOf (u.onLeg l)

theorem settleLeg_held (ready : u.readyToSettle l) (held : u.settlesIn l = .held) :
    u.settleLeg l = u.parkedAs l (fun x => x.holding .first) .held := by
  unfold State.settlesIn at held
  have on : ¬((u.leg l).enabled = false ∨ (u.leg l).configuredWidth = 0) := by
    intro off
    rw [if_pos off] at held
    exact LegState.noConfusion held
  rw [if_neg on] at held
  have present : (u.wiresOf l).present.asserted = true := by
    by_contra away
    rw [if_neg away] at held
    exact LegState.noConfusion held
  obtain ⟨enabled, mapped⟩ := not_or.mp on
  have enters : u.settleLeg l = u.enterHeld l .first := by
    unfold State.settleLeg
    simp [enabled, mapped, present]
  rw [enters]
  by_cases trained : isTrained (u.leg l).state = true
  · obtain ⟨record, test, clear⟩ := ready.ended trained
    rw [enterHeld_trained trained, workEnded_clear .giveUp record test clear]
  · exact enterHeld_untrained .first (Bool.eq_false_iff.mpr trained)

theorem settleLeg_stands (stands : u.settlesIn l ≠ .held) : u.settleLeg l = u.setLegState l (u.settlesIn l) := by
  unfold State.settlesIn at stands ⊢
  unfold State.settleLeg
  by_cases off : (u.leg l).enabled = false ∨ (u.leg l).configuredWidth = 0
  · have test : (!(u.leg l).enabled || (u.leg l).configuredWidth == 0) = true := by
      rcases off with h | h <;> simp [h]
    simp only [test, if_pos off, if_true]
  · rw [if_neg off] at stands ⊢
    obtain ⟨enabled, mapped⟩ := not_or.mp off
    by_cases present : (u.wiresOf l).present.asserted = true
    · rw [if_pos present] at stands
      exact absurd rfl stands
    · simp [enabled, mapped, present]

theorem leg_settleLeg (ready : u.readyToSettle l) : (u.settleLeg l).leg l =
    { (if u.settlesIn l = .held then (u.leg l).holding .first else u.leg l) with state := u.settlesIn l } := by
  by_cases held : u.settlesIn l = .held
  · rw [settleLeg_held ready held, leg_parkedAs, if_pos held, held]
  · rw [settleLeg_stands held, leg_setLegState_eq, if_pos rfl, if_neg held]

theorem leg_settleLeg_other (ready : u.readyToSettle l) {k : LegId} (hk : k ≠ l) : (u.settleLeg l).leg k = u.leg k := by
  by_cases held : u.settlesIn l = .held
  · rw [settleLeg_held ready held, leg_parkedAs_other _ _ hk, State.parkLeg, State.leg_setPaths]
  · rw [settleLeg_stands held, leg_setLegState_eq, if_neg hk]

theorem settleLeg_footprint (ready : u.readyToSettle l) : u.settleLeg l =
    { u with
      paths := (u.settleLeg l).paths, monitors := (u.settleLeg l).monitors, faces := (u.settleLeg l).faces
      legs := (u.settleLeg l).legs, frame := (u.settleLeg l).frame } := by
  by_cases held : u.settlesIn l = .held
  · rw [settleLeg_held ready held]
    have foot := parkedAs_footprint (u := u) (l := l) (fun x => x.holding .first) .held
    have parks := parkLeg_footprint u l
    have engine := (parkLeg_settled ready.idle).1
    rw [engine] at parks
    generalize u.parkedAs l (fun x => x.holding .first) .held = t at *
    generalize u.parkLeg l = v at *
    rw [foot, parks]
  · rw [settleLeg_stands held]
    unfold State.setLegState
    rw [judge_footprint]
    rfl

theorem path_settleLeg (ready : u.readyToSettle l) (p : PathId) : (u.settleLeg l).path p =
    if u.settlesIn l = .held ∧ u.pathLeg p = some l then .parked else u.path p := by
  by_cases held : u.settlesIn l = .held
  · rw [settleLeg_held ready held, parkedAs_footprint]
    simp only [held, true_and]
    exact path_parkLeg u l p
  · rw [settleLeg_stands held, if_neg (fun h => held h.1)]
    exact (restLike_setLegState _).path p

theorem monitor_settleLeg (ready : u.readyToSettle l) (f : FaceId) : (u.settleLeg l).monitor f =
    if u.settlesIn l = .held ∧ u.faceLeg f = some l ∧ u.path (facePath f) ≠ .parked then (u.monitor f).stop
    else u.monitor f := by
  by_cases held : u.settlesIn l = .held
  · rw [settleLeg_held ready held, parkedAs_footprint]
    simp only [held, true_and]
    exact monitor_parkLeg f
  · rw [settleLeg_stands held, if_neg (fun h => held h.1)]
    exact (restLike_setLegState _).monitor f

theorem face_settleLeg (ready : u.readyToSettle l) (f : FaceId) : (u.settleLeg l).face f = u.face f := by
  by_cases held : u.settlesIn l = .held
  · rw [settleLeg_held ready held, parkedAs_footprint]
    exact (parkLeg_settled ready.idle).2 f
  · rw [settleLeg_stands held]
    unfold State.setLegState
    rw [judge_footprint]
    rfl

end

end Sys2Proof.Machine

/-! LEG RESET, as its statement speaks of it (spec/02 R42). -/

namespace Sys2Proof.Machine

section
variable (s : State) (l : LegId)

/-! ### The stop -/

/-- The leg is in OFF or ABSENT. -/
abbrev State.isDown (s : State) (l : LegId) : Prop := (s.leg l).state = .off ∨ (s.leg l).state = .absent

/-- What step 1 of a reset leaves, in every state of the leg. -/
structure State.resetBase (s b : State) (l : LegId) : Prop where
  rest : b =
    { s with
      paths := b.paths, monitors := b.monitors, faces := b.faces, legs := b.legs, engine := b.engine, notices := b.notices
      tests := b.tests, generators := b.generators, sent := b.sent, resultOwed := b.resultOwed
      wires := modAt s.wires l (fun w => { w with alertLatch := false }) }
  others : ∀ k : LegId, k ≠ l → b.leg k = s.leg k ∧ b.test k = s.test k
  away : ∀ f : FaceId, s.faceLeg f ≠ some l → b.face f = s.face f

theorem resetStop_down (down : s.isDown l) :
    s.resetStop l = (s.modLeg l (fun x => { x with holdRequest := false })).setLatch l false := by
  unfold State.resetStop
  rcases down with state | state <;> rw [state] <;> rfl

theorem resetStop_up (up : ¬s.isDown l) : s.resetStop l =
    (((s.workEnded l .reset).parkLeg l).modLeg l Leg.down).setLatch l false := by
  rw [← shutDown_eq]
  unfold State.resetStop
  cases state : (s.leg l).state with
  | off => exact absurd (.inl state) up
  | absent => exact absurd (.inr state) up
  | _ => rfl

theorem resetBase_resetStop : s.resetBase (s.resetStop l) l := by
  by_cases down : s.isDown l
  · rw [resetStop_down s l down]
    exact ⟨rfl, fun k hk => ⟨State.leg_modLeg_other s l k _ hk, rfl⟩, fun _ _ => rfl⟩
  · have foot := parkLeg_footprint (s.workEnded l .reset) l
    obtain ⟨others, paths, -⟩ := othersKept_trans (othersKept_workEnded s l .reset)
      (othersKept_parkLeg (u := s.workEnded l .reset))
    have face (f : FaceId) (hf : s.faceLeg f ≠ some l) : ((s.workEnded l .reset).parkLeg l).face f = s.face f := by
      rw [face_parkLeg, if_neg (fun h => hf h.1), face_workEnded, if_neg (fun h => hf (faceLeg_of_onGroup h.2))]
    rw [resetStop_up s l down]
    generalize (s.workEnded l .reset).parkLeg l = u at *
    refine ⟨?_, fun k hk => ?_, face⟩
    · rw [foot]
      rfl
    · exact ⟨(State.leg_modLeg_other u l k _ hk).trans (others k hk).1, (others k hk).2⟩

theorem leg_resetStop_down (down : s.isDown l) : (s.resetStop l).leg l = { s.leg l with holdRequest := false } := by
  rw [resetStop_down s l down]
  exact State.leg_modLeg s l _

theorem leg_resetStop_up (up : ¬s.isDown l) : (s.resetStop l).leg l = { (s.leg l).down with record := none } := by
  rw [resetStop_up s l up]
  refine (State.leg_modLeg _ l _).trans ?_
  rw [State.parkLeg, State.leg_setPaths, leg_workEnded]
  rfl

theorem resetStop_stops (up : ¬s.isDown l) : s.workStoppedIn (s.resetStop l) l .reset := by
  have others {k : LegId} (hk : k ≠ l) : (((s.workEnded l .reset).parkLeg l).modLeg l Leg.down).leg k =
    ((s.workEnded l .reset).parkLeg l).leg k := State.leg_modLeg_other _ l k _ hk
  rw [resetStop_up s l up]
  exact workStopped_parkLeg s l .reset rfl rfl fun k hk => others hk

theorem path_resetStop (p : PathId) (own : s.pathLeg p = some l) : (s.resetStop l).path p =
    if s.isDown l then s.path p else .parked := by
  by_cases down : s.isDown l
  · rw [resetStop_down s l down, if_pos down]
    rfl
  · obtain ⟨⟨parked, -⟩, -⟩ := resetStop_stops s l down
    rw [if_neg down]
    exact (parked p own).1

theorem path_resetStop_other (p : PathId) (other : s.pathLeg p ≠ some l) : (s.resetStop l).path p = s.path p := by
  by_cases down : s.isDown l
  · rw [resetStop_down s l down]
    rfl
  · obtain ⟨⟨-, -, -, -, -, paths, -⟩, -⟩ := resetStop_stops s l down
    exact (paths p other).1

/-- The monitors of the leg, where a stop has parked their paths. -/
theorem monitor_resetStop (f : FaceId) (own : s.faceLeg f = some l) :
    if s.isDown l ∨ s.path (facePath f) = .parked then (s.resetStop l).monitor f = s.monitor f
    else ((s.resetStop l).monitor f).signal = .notWatched ∧ ((s.resetStop l).monitor f).lock = .notWatched
      ∧ ((s.resetStop l).monitor f).slips = 0 := by
  by_cases down : s.isDown l
  · rw [if_pos (.inl down), resetStop_down s l down]
    rfl
  · obtain ⟨⟨parked, -⟩, -⟩ := resetStop_stops s l down
    have rests := (parked (facePath f) own).2
    by_cases there : s.path (facePath f) = .parked
    · rw [if_pos there] at rests
      rw [if_pos (.inr there)]
      exact (rests f rfl).1
    · rw [if_neg there] at rests
      obtain ⟨signal, lock, slips, -⟩ := rests f rfl
      rw [if_neg (not_or.mpr ⟨down, there⟩)]
      exact ⟨signal, lock, slips⟩

/-! ### The reload -/

theorem reloadFaces_eq (u : State) : u.reloadFaces l = { u with faces := (u.reloadFaces l).faces } :=
  foldl_rel (R := fun a b : State => b = { a with faces := b.faces }) (fun _ => rfl) (fun _ _ _ h h' => by rw [h', h])
    (fun _ _ => rfl) _ u

theorem face_reloadFaces (u : State) (f : FaceId) : (u.reloadFaces l).face f =
    if u.faceLeg f = some l then freshFace u.image.presets[f] else u.face f := by
  have fold (fs : List FaceId) (v : State) :
      (fs.foldl (fun v g => v.modFace g (fun _ => freshFace v.image.presets[g])) v).face f =
        if f ∈ fs then freshFace v.image.presets[f] else v.face f := by
    induction fs generalizing v with
    | nil => simp
    | cons g fs ih =>
      rw [List.foldl_cons, ih, State.face_modFace_eq]
      by_cases same : f = g
      · simp [same]
      · simp [same]
  unfold State.reloadFaces
  rw [fold]
  simp only [mem_legFaces]

/-- The state once the test record is absent, the leg context and the faces are reloaded and the tally is 0 (R42 steps 2, 3). -/
def State.reloaded (b : State) (l : LegId) (d : LegDefaults) : State :=
  (((b.setTest l none).modLeg l (fun x => x.reload d)).modTally l (fun t => { t with value := 0, overflow := false })).reloadFaces l

theorem resetLeg_eq : s.resetLeg l = ((s.resetStop l).reloaded l s.image.legs[l]).settleLeg l := rfl

variable {s l}
variable {b : State} {d : LegDefaults}

theorem reloaded_footprint : b.reloaded l d =
    { b with
      tests := modAt b.tests l (fun _ => none), legs := modAt b.legs l (fun x => x.reload d)
      errors := { b.errors with tallies := modAt b.errors.tallies l (fun t => { t with value := 0, overflow := false }) }
      faces := (b.reloaded l d).faces } := by
  unfold State.reloaded
  rw [reloadFaces_eq]
  rfl

theorem leg_reloaded : (b.reloaded l d).leg l = (b.leg l).reload d := by
  rw [reloaded_footprint]
  exact modAt_same _ _ _

theorem face_reloaded (f : FaceId) : (b.reloaded l d).face f =
    if b.faceLeg f = some l then freshFace b.image.presets[f] else b.face f := by
  unfold State.reloaded
  rw [face_reloadFaces]
  rfl

/-- Once a cancellation of faces is taken, there is nothing of them left to cancel. -/
theorem clearOf_cancelled {t : State} {fs : FaceId → Bool} (cancelled : s.cancelled t fs) : t.engine.clearOf fs := by
  obtain ⟨queue, running, suspended, -⟩ := cancelled
  refine ⟨fun f hf => ?_, fun r slot hr => ?_, fun x slot => ?_⟩
  · have at_ := queue f
    rw [if_pos hf] at at_
    exact at_
  · rw [slot] at running
    obtain ⟨r', -, marked⟩ := Option.map_eq_some_iff.mp running.symm
    by_cases own : fs r'.job.face = true
    · rw [if_pos own] at marked
      rw [← marked]
    · rw [if_neg own] at marked
      rw [marked] at own
      exact absurd hr own
  · rw [slot, Option.map_some] at suspended
    obtain ⟨-, out⟩ := Option.filter_eq_some_iff.mp suspended.symm
    rw [Bool.not_eq_true'] at out
    exact out

/-- A leg that is reset may settle. -/
theorem readyToSettle_reloaded (s : State) (l : LegId) : ((s.resetStop l).reloaded l s.image.legs[l]).readyToSettle l := by
  have base := resetBase_resetStop s l
  have place (p : PathId) : ((s.resetStop l).reloaded l s.image.legs[l]).place p = (s.resetStop l).place p := by
    rw [reloaded_footprint]
    rfl
  have leg := leg_reloaded (b := s.resetStop l) (l := l) (d := s.image.legs[l])
  refine ⟨fun f own => ?_, fun trained => ?_⟩
  · have mine : (s.resetStop l).faceLeg f = some l := by
      unfold State.faceLeg State.pathLeg at own ⊢
      rw [← place]
      exact own
    rw [face_reloaded, if_pos mine]
    rfl
  · have up : ¬s.isDown l := fun down => by
      rw [leg, leg_resetStop_down s l down] at trained
      have state : isTrained (s.leg l).state = true := trained
      rcases down with off | absent
      · rw [off] at state
        exact Bool.noConfusion state
      · rw [absent] at state
        exact Bool.noConfusion state
    obtain ⟨⟨-, cancelled, -⟩, -⟩ := resetStop_stops s l up
    have clear := clearOf_cancelled cancelled
    have same : s.onLeg l = ((s.resetStop l).reloaded l s.image.legs[l]).onLeg l := by
      funext f
      unfold State.onLeg State.faceLeg State.pathLeg
      rw [place, base.rest]
      rfl
    refine ⟨?_, ?_, ?_⟩
    · rw [leg, leg_resetStop_up s l up]
      rfl
    · rw [reloaded_footprint]
      exact State.test_setTest _ l none
    · rw [← same, reloaded_footprint]
      exact clear

end

end Sys2Proof.Machine

/-! LEG RESET: the statement. -/

namespace Sys2Proof.Machine

/-- A taking that leaves the table at rest adds one LEG STATE notice where it moves the leg, and nothing else (R19). -/
theorem legEvent_either {s : State} {l : LegId} {e : Cause} {f : State → State} (rest : (f s).tableAtRest) :
    s.legEvent l e f = { f s with
      notices := if ((f s).leg l).state = (s.leg l).state then (f s).notices else (f s).notices.take (s.moveNotice (f s) l e) } := by
  by_cases same : ((f s).leg l).state = (s.leg l).state
  · rw [legEvent_same rest same, if_pos same]
  · rw [legEvent_moved rest same, if_neg same]
    rfl

section
variable (s : State) (l : LegId)

/-- The state that a leg is in after its reset (R42 step 4). -/
def State.resetState (s : State) (l : LegId) : LegState :=
  if s.image.legs[l].enabled = false ∨ (s.leg l).configuredWidth = 0 then .off
  else if (s.wiresOf l).present.asserted then .held else .absent

theorem configuredWidth_resetStop : ((s.resetStop l).leg l).configuredWidth = (s.leg l).configuredWidth := by
  by_cases down : s.isDown l
  · rw [leg_resetStop_down s l down]
  · rw [leg_resetStop_up s l down]
    rfl

theorem holdRequest_resetStop : ((s.resetStop l).leg l).holdRequest = false := by
  by_cases down : s.isDown l
  · rw [leg_resetStop_down s l down]
  · rw [leg_resetStop_up s l down]
    rfl

theorem settlesIn_reloaded : ((s.resetStop l).reloaded l s.image.legs[l]).settlesIn l = s.resetState l := by
  have leg := leg_reloaded (b := s.resetStop l) (l := l) (d := s.image.legs[l])
  have width := configuredWidth_resetStop s l
  have wires : ((s.resetStop l).reloaded l s.image.legs[l]).wiresOf l = { s.wiresOf l with alertLatch := false } := by
    rw [reloaded_footprint, (resetBase_resetStop s l).rest]
    exact modAt_same _ _ _
  unfold State.settlesIn State.resetState
  rw [leg, wires]
  show (if s.image.legs[l].enabled = false ∨ ((s.resetStop l).leg l).configuredWidth = 0 then _ else _) = _
  rw [width]

/-- The leg context after a reset. -/
theorem leg_resetLeg : (s.resetLeg l).leg l =
    { (if s.resetState l = .held then (((s.resetStop l).leg l).reload s.image.legs[l]).holding .first
       else ((s.resetStop l).leg l).reload s.image.legs[l]) with state := s.resetState l } := by
  rw [resetLeg_eq, leg_settleLeg (readyToSettle_reloaded s l), settlesIn_reloaded, leg_reloaded]

/-- What a reset leaves, but for paths, monitors, faces, legs, engine, wires and what a stop reports. -/
theorem resetLeg_footprint : s.resetLeg l =
    { s with
      paths := (s.resetLeg l).paths, monitors := (s.resetLeg l).monitors, faces := (s.resetLeg l).faces
      legs := (s.resetLeg l).legs, frame := (s.resetLeg l).frame
      wires := modAt s.wires l (fun w => { w with alertLatch := false })
      tests := modAt (s.resetStop l).tests l (fun _ => none)
      errors := { s.errors with tallies := modAt s.errors.tallies l (fun t => { t with value := 0, overflow := false }) }
      engine := (s.resetStop l).engine, notices := (s.resetStop l).notices, generators := (s.resetStop l).generators
      sent := (s.resetStop l).sent, resultOwed := (s.resetStop l).resultOwed } := by
  have base := (resetBase_resetStop s l).rest
  have reload := reloaded_footprint (b := s.resetStop l) (l := l) (d := s.image.legs[l])
  have settle := settleLeg_footprint (readyToSettle_reloaded s l)
  rw [← resetLeg_eq] at settle
  generalize s.resetLeg l = t at *
  generalize (s.resetStop l).reloaded l s.image.legs[l] = u at *
  generalize s.resetStop l = b at *
  rw [settle, reload, base]

theorem leg_resetLeg_other {k : LegId} (hk : k ≠ l) : (s.resetLeg l).leg k = s.leg k := by
  have reload : ((s.resetStop l).reloaded l s.image.legs[l]).leg k = (s.resetStop l).leg k := by
    rw [reloaded_footprint]
    exact modAt_other _ _ _ _ hk
  rw [resetLeg_eq, leg_settleLeg_other (readyToSettle_reloaded s l) hk, reload]
  exact ((resetBase_resetStop s l).others k hk).1

theorem test_resetLeg_other {k : LegId} (hk : k ≠ l) : (s.resetLeg l).test k = s.test k := by
  rw [resetLeg_footprint]
  exact (modAt_other _ _ _ _ hk).trans ((resetBase_resetStop s l).others k hk).2

theorem pathLeg_resetStop (p : PathId) : (s.resetStop l).pathLeg p = s.pathLeg p := by
  rw [(resetBase_resetStop s l).rest]
  rfl

theorem face_resetLeg (f : FaceId) : (s.resetLeg l).face f =
    if s.faceLeg f = some l then freshFace s.image.presets[f] else s.face f := by
  have base := resetBase_resetStop s l
  have own : (s.resetStop l).faceLeg f = s.faceLeg f := pathLeg_resetStop s l (facePath f)
  have image : (s.resetStop l).image = s.image := by rw [base.rest]
  rw [resetLeg_eq, face_settleLeg (readyToSettle_reloaded s l), face_reloaded, own, image]
  by_cases mine : s.faceLeg f = some l
  · rw [if_pos mine, if_pos mine]
  · rw [if_neg mine, if_neg mine, base.away f mine]

theorem path_resetLeg (p : PathId) (own : s.pathLeg p = some l) : (s.resetLeg l).path p =
    if s.isDown l ∧ s.resetState l ≠ .held then s.path p else .parked := by
  have base := path_resetStop s l p own
  have reload : ((s.resetStop l).reloaded l s.image.legs[l]).path p = (s.resetStop l).path p := by
    rw [reloaded_footprint]
    rfl
  have mine : ((s.resetStop l).reloaded l s.image.legs[l]).pathLeg p = some l := by
    rw [reloaded_footprint]
    exact (pathLeg_resetStop s l p).trans own
  rw [resetLeg_eq, path_settleLeg (readyToSettle_reloaded s l), settlesIn_reloaded, reload, base]
  by_cases held : s.resetState l = .held
  · rw [if_pos ⟨held, mine⟩, if_neg (fun h => h.2 held)]
  · rw [if_neg (fun h => held h.1)]
    by_cases down : s.isDown l
    · rw [if_pos down, if_pos ⟨down, held⟩]
    · rw [if_neg down, if_neg (fun h => down h.1)]

theorem path_resetLeg_other (p : PathId) (other : s.pathLeg p ≠ some l) : (s.resetLeg l).path p = s.path p := by
  have reload : ((s.resetStop l).reloaded l s.image.legs[l]).path p = (s.resetStop l).path p := by
    rw [reloaded_footprint]
    rfl
  have mine : ((s.resetStop l).reloaded l s.image.legs[l]).pathLeg p ≠ some l := by
    rw [reloaded_footprint]
    exact fun h => other ((pathLeg_resetStop s l p).symm.trans h)
  rw [resetLeg_eq, path_settleLeg (readyToSettle_reloaded s l), if_neg (fun h => mine h.2), reload,
    path_resetStop_other s l p other]

theorem monitor_resetLeg (f : FaceId) (own : s.faceLeg f = some l) :
    if (s.isDown l ∧ s.resetState l ≠ .held) ∨ s.path (facePath f) = .parked then (s.resetLeg l).monitor f = s.monitor f
    else ((s.resetLeg l).monitor f).signal = .notWatched ∧ ((s.resetLeg l).monitor f).lock = .notWatched
      ∧ ((s.resetLeg l).monitor f).slips = 0 := by
  have base := monitor_resetStop s l f own
  have path := path_resetStop s l (facePath f) own
  have reloadPath : ((s.resetStop l).reloaded l s.image.legs[l]).path (facePath f) = (s.resetStop l).path (facePath f) := by
    rw [reloaded_footprint]
    rfl
  have reload : ((s.resetStop l).reloaded l s.image.legs[l]).monitor f = (s.resetStop l).monitor f := by
    rw [reloaded_footprint]
    rfl
  have mine : ((s.resetStop l).reloaded l s.image.legs[l]).faceLeg f = some l := by
    rw [reloaded_footprint]
    exact (pathLeg_resetStop s l (facePath f)).trans own
  have value := monitor_settleLeg (readyToSettle_reloaded s l) f
  rw [← resetLeg_eq, settlesIn_reloaded, reloadPath, reload, path] at value
  rw [value]
  simp only [mine, true_and]
  by_cases there : s.path (facePath f) = .parked
  · rw [if_pos (.inr there)] at base ⊢
    rw [if_neg, base]
    intro h
    rw [there, ite_self] at h
    exact h.2 rfl
  · by_cases down : s.isDown l
    · rw [if_pos (.inl down)] at base
      rw [if_pos down, base]
      by_cases held : s.resetState l = .held
      · rw [if_neg (fun h => h.elim (fun h => h.2 held) there), if_pos ⟨held, there⟩]
        exact ⟨rfl, rfl, rfl⟩
      · rw [if_pos (.inl ⟨down, held⟩), if_neg (fun h => held h.1)]
    · rw [if_neg (fun h => h.elim down there)] at base
      rw [if_neg (fun h => h.elim (fun h => down h.1) there), if_neg down, if_neg (fun h => h.2 rfl)]
      exact base

end

/-- The notices of a reset before the leg's own: those of the jobs that the stop cancels. -/
def State.resetNotices (s : State) (l : LegId) : NoticeQueue :=
  if s.isDown l then s.notices else (s.cancelNotices (s.onLeg l)).foldl NoticeQueue.take s.notices

theorem notices_resetLeg (s : State) (l : LegId) : (s.resetLeg l).notices = s.resetNotices l := by
  have same : (s.resetLeg l).notices = (s.resetStop l).notices := by rw [resetLeg_footprint]
  unfold State.resetNotices
  rw [same]
  by_cases down : s.isDown l
  · rw [if_pos down, resetStop_down s l down]
    rfl
  · obtain ⟨-, -, notices⟩ := resetStop_stops s l down
    rw [if_neg down, notices]

/-- The leg controller's taking of LEG RESET, all told. -/
theorem legReset_taken {s : State} {l : LegId} (rest : s.tableAtRest) :
    s.legEvent l .reset (fun s => s.resetLeg l) = { s.resetLeg l with
      notices := if ((s.resetLeg l).leg l).state = (s.leg l).state then s.resetNotices l
        else (s.resetNotices l).take (.legState s.clock.stamp l (s.leg l).state ((s.resetLeg l).leg l).state .reset
          ((s.resetLeg l).leg l).currentWidth) } := by
  have foot := resetLeg_footprint s l
  have table : (s.resetLeg l).tableAtRest := by
    rw [foot]
    exact rest
  have stamp : (s.resetLeg l).stamp = s.clock.stamp := by rw [State.stamp, foot]
  have notice : s.moveNotice (s.resetLeg l) l .reset = .legState s.clock.stamp l (s.leg l).state ((s.resetLeg l).leg l).state
      .reset ((s.resetLeg l).leg l).currentWidth := by
    rw [State.moveNotice, stamp]
    rfl
  rw [legEvent_either table, notices_resetLeg, notice]

section
variable (s : State) (l : LegId)

/-- What a reset stops in a leg that is neither OFF nor ABSENT. -/
theorem resetLeg_stops (up : ¬s.isDown l) : s.cancelled (s.resetLeg l) (s.onLeg l)
    ∧ s.abandonedWith (s.resetLeg l) l .reset (s.onLeg l)
    ∧ ∀ r : TestRecord, s.test l = some r → r.status = .running → ∀ c ∈ r.checkers, (s.resetLeg l).generators[c.face] = none := by
  obtain ⟨⟨-, cancelled, ⟨discarded, -⟩, ⟨sent, owed, -⟩, -⟩, -⟩ := resetStop_stops s l up
  have face := face_resetLeg s l
  have foot := resetLeg_footprint s l
  generalize s.resetLeg l = t at *
  have idle (f : FaceId) (hf : s.onGroup l f = true) : (t.face f).status = .idle := by
    rw [face, if_pos (faceLeg_of_onGroup hf)]
    rfl
  have fields : t.engine = (s.resetStop l).engine ∧ t.sent = (s.resetStop l).sent
      ∧ t.resultOwed = (s.resetStop l).resultOwed ∧ t.generators = (s.resetStop l).generators := by
    rw [foot]
    exact ⟨rfl, rfl, rfl, rfl⟩
  obtain ⟨engine, sentSame, owedSame, generators⟩ := fields
  refine ⟨?_, ⟨sentSame.trans sent, fun f => ?_, fun _ => idle⟩, fun r test running c hc => ?_⟩
  · unfold State.cancelled State.queued at cancelled ⊢
    rw [engine]
    exact cancelled
  · rw [owedSame]
    exact owed f
  · rw [generators]
    exact (discarded r test running).2 c hc

/-- What a reset leaves in a leg that is in OFF or ABSENT. -/
theorem resetLeg_rests (down : s.isDown l) : (s.resetLeg l).engine = s.engine ∧ (s.resetLeg l).sent = s.sent
    ∧ (s.resetLeg l).resultOwed = s.resultOwed := by
  rw [resetLeg_footprint, resetStop_down s l down]
  exact ⟨rfl, rfl, rfl⟩

/-- The leg context of a reset leg: what the load image gives, and what the stop and an entry to HELD give. -/
theorem context_resetLeg (x : Leg) (hx : (s.resetLeg l).leg l = x) :
    x.enabled = s.image.legs[l].enabled ∧ x.targetRate = s.image.legs[l].targetRate
    ∧ x.retryBudget = s.image.legs[l].retryBudget ∧ x.trainingLimit = s.image.legs[l].trainingLimit
    ∧ x.holdMinimum = s.image.legs[l].holdMinimum ∧ x.trimInterval = s.image.legs[l].trimInterval
    ∧ x.marginFloor = s.image.legs[l].marginFloor ∧ x.slipLimit = s.image.legs[l].slipLimit
    ∧ x.configuredWidth = (s.leg l).configuredWidth
    ∧ x.minimumWidth = clampWidth (s.leg l).configuredWidth s.image.legs[l].minimumWidth ∧ x.capture = none
    ∧ x.holdRequest = false ∧ x.state = s.resetState l
    ∧ (x.state = .held → x.trainingCause = .first ∧ x.holdTimer = some s.image.legs[l].holdMinimum ∧ x.attemptCount = 0
        ∧ x.currentWidth = 0 ∧ x.agreedRate = none ∧ x.failureCause = none ∧ x.group = 0#4)
    ∧ (¬s.isDown l →
        x.attemptCount = 0 ∧ x.excluded = 0#4 ∧ x.group = 0#4 ∧ x.currentWidth = 0 ∧ x.agreedRate = none
        ∧ x.failureCause = none ∧ x.record = none ∧ x.limitTimer = none ∧ x.trimTimer = none
        ∧ (x.state ≠ .held → x.holdTimer = none)) := by
  have leg := leg_resetLeg s l
  have width := configuredWidth_resetStop s l
  have request := holdRequest_resetStop s l
  have stopped := leg_resetStop_up s l
  rw [hx] at leg
  generalize (s.resetStop l).leg l = y at *
  generalize s.image.legs[l] = d at *
  have minimum : clampWidth y.configuredWidth d.minimumWidth = clampWidth (s.leg l).configuredWidth d.minimumWidth := by
    rw [width]
  by_cases held : s.resetState l = .held
  · rw [if_pos held, held] at leg
    rw [leg, held]
    refine ⟨rfl, rfl, rfl, rfl, rfl, rfl, rfl, rfl, width, minimum, rfl, request, rfl, fun _ => ⟨rfl, rfl, rfl, rfl, rfl, rfl, rfl⟩,
      fun up => ?_⟩
    rw [stopped up]
    exact ⟨rfl, rfl, rfl, rfl, rfl, rfl, rfl, rfl, rfl, fun away => absurd rfl away⟩
  · rw [if_neg held] at leg
    rw [leg]
    refine ⟨rfl, rfl, rfl, rfl, rfl, rfl, rfl, rfl, width, minimum, rfl, request, rfl, fun same => absurd same held, fun up => ?_⟩
    rw [stopped up]
    exact ⟨rfl, rfl, rfl, rfl, rfl, rfl, rfl, rfl, rfl, fun _ => rfl⟩

end

/-- Settles O22, stage by stage: the stop, the reload and the state that the leg settles in. -/
theorem legResetReturnsTheLeg : Obligations.LegResetReturnsTheLeg := by
  intro s tag l hport rest
  have acts (u : State) : legResetAct [byte l.val] u = .plain (u.legEvent l .reset (fun s => s.resetLeg l)) .done :=
    legRequest_byte u l _
  have up (h : (s.leg l).state ≠ .off) (h' : (s.leg l).state ≠ .absent) : ¬s.isDown l := fun down => down.elim h h'
  have taken (u : State) (table : u.tableAtRest) := legReset_taken (s := u) (l := l) table
  have event := taken (s.acceptWrite (requestFrame tag 0x27#8 [byte l.val])) rest
  have context := context_resetLeg (s.acceptWrite (requestFrame tag 0x27#8 [byte l.val])) l _ rfl
  have path := path_resetLeg (s.acceptWrite (requestFrame tag 0x27#8 [byte l.val])) l
  have pathOther := path_resetLeg_other (s.acceptWrite (requestFrame tag 0x27#8 [byte l.val])) l
  have monitor := monitor_resetLeg (s.acceptWrite (requestFrame tag 0x27#8 [byte l.val])) l
  have face := face_resetLeg (s.acceptWrite (requestFrame tag 0x27#8 [byte l.val])) l
  have legOther (k : LegId) := leg_resetLeg_other (s.acceptWrite (requestFrame tag 0x27#8 [byte l.val])) l (k := k)
  have testOther (k : LegId) := test_resetLeg_other (s.acceptWrite (requestFrame tag 0x27#8 [byte l.val])) l (k := k)
  have stops := resetLeg_stops (s.acceptWrite (requestFrame tag 0x27#8 [byte l.val])) l
  have rests := resetLeg_rests (s.acceptWrite (requestFrame tag 0x27#8 [byte l.val])) l
  have foot := resetLeg_footprint (s.acceptWrite (requestFrame tag 0x27#8 [byte l.val])) l
  generalize (s.acceptWrite (requestFrame tag 0x27#8 [byte l.val])).resetLeg l = t at *
  have port : t.port = (s.acceptWrite (requestFrame tag 0x27#8 [byte l.val])).port := by rw [foot]
  have step := takeRequest_acted (body := [byte l.val]) hport (by decide : 1 ≤ 128)
    ((acts _).trans (congrArg (Answer.plain · Result.done) event)) port
  have wires : t.wires = modAt s.wires l (fun w => { w with alertLatch := false }) := by
    rw [foot]
    rfl
  have test : t.test l = none := by
    rw [foot]
    exact State.test_setTest _ l none
  have errors : t.errors =
      { s.errors with tallies := modAt s.errors.tallies l (fun t => { t with value := 0, overflow := false }) } := by
    rw [foot]
    rfl
  have tally : t.tally l = { s.tally l with value := 0, overflow := false } := by
    rw [State.tally, errors]
    exact modAt_same _ _ _
  have tallyOther (k : LegId) (hk : k ≠ l) : t.tally k = s.tally k := by
    rw [State.tally, errors]
    exact modAt_other _ _ _ _ hk
  have latch : (t.wiresOf l).alertLatch = false := by
    rw [State.wiresOf, wires, modAt_same]
  have ground : t.map = s.map ∧ t.plan = s.plan ∧ t.slots = s.slots ∧ t.store = s.store ∧ t.image = s.image := by
    rw [foot]
    exact ⟨rfl, rfl, rfl, rfl, rfl⟩
  obtain ⟨enabled, target, budget, training, hold, trim, floor, slip, width, minimum, capture, request, state, held, down⟩ := context
  have fields : (t.tally l).value = 0 ∧ (t.tally l).overflow = false ∧ (t.tally l).kinds = (s.tally l).kinds
      ∧ (t.tally l).threshold = (s.tally l).threshold := by
    rw [tally]
    exact ⟨rfl, rfl, rfl, rfl⟩
  obtain ⟨value, overflow, kinds, threshold⟩ := fields
  have others : t.errors = { s.errors with tallies := t.errors.tallies } := by rw [errors]
  have away (p : PathId) (other : s.pathLeg p ≠ some l) (f : FaceId) (hf : facePath f = p) : t.face f = s.face f := by
    rw [← hf] at other
    exact (face f).trans (if_neg other)
  have mine (p : PathId) (own : s.pathLeg p = some l) (f : FaceId) (hf : facePath f = p) :
      t.face f = freshFace s.image.presets[f] := by
    rw [← hf] at own
    exact (face f).trans (if_pos own)
  refine ⟨_, step, rfl, ⟨enabled, target, budget, training, hold, trim, floor, slip, width, minimum, capture, request, ?state, held,
    fun h h' => down (up h h'), fun p own => ⟨?path, fun f hf => ?monitor⟩, rfl⟩, test, latch, fun h h' => stops (up h h'), rests,
    value, overflow, kinds, threshold,
    fun p own => ⟨mine p own _ (facePath_sFace p), mine p own _ (facePath_cFace p)⟩,
    fun k hk => ⟨legOther k hk, tallyOther k hk, testOther k hk⟩,
    fun p other => ⟨pathOther p other, away p other _ (facePath_sFace p), away p other _ (facePath_cFace p)⟩, others, ground⟩
  case state =>
    refine state.trans ?_
    unfold State.resetState
    rw [← width]
    rfl
  case path =>
    have value := path p own
    rw [← state] at value
    exact value
  case monitor =>
    have value := monitor f (by rw [State.faceLeg, hf]; exact own)
    rw [← state, hf] at value
    exact value

end Sys2Proof.Machine

/-! COMMIT FACES off the traffic (spec/04 R75 to R77). -/

namespace Sys2Proof.Machine

/-! ### A set of faces as a request's body -/

theorem faceSetBody_le16 (fs : FaceSet) : faceSetBody (le16 fs.toNat) = some fs := by
  have value : le16At (le16 fs.toNat) 0 = fs.toNat := by
    have bytes : le16At (le16 fs.toNat) 0 = (byte fs.toNat).toNat + 256 * (byte (fs.toNat / 256)).toNat := rfl
    rw [bytes]
    have := fs.isLt
    simp only [byte_toNat]
    omega
  have set : facesAt (le16 fs.toNat) 0 = fs := by
    unfold facesAt
    rw [value, BitVec.ofNat_toNat, BitVec.setWidth_eq]
  unfold faceSetBody ofLength
  rw [if_pos (by rfl), set]

theorem mem_facesOf (fs : FaceSet) (f : FaceId) : f ∈ facesOf fs ↔ setHas fs f.val = true := mem_filter_allFaces _ f

theorem nodup_facesOf (fs : FaceSet) : (facesOf fs).Nodup := nodup_allFaces.filter _

/-! ### Faces that are pending, and settle -/

/-- The pending flag of faces is set, one after another. -/
def State.markAll (s : State) (fs : List FaceId) : State := fs.foldl (fun s f => s.modFace f (fun x => { x with pending := true })) s

theorem markAll_footprint (fs : List FaceId) (s : State) : s.markAll fs = { s with faces := (s.markAll fs).faces } :=
  foldl_rel (R := fun a b : State => b = { a with faces := b.faces }) (fun _ => rfl) (fun _ _ _ h h' => by rw [h', h])
    (fun _ _ => rfl) fs s

theorem face_markAll (fs : List FaceId) (s : State) (f : FaceId) : (s.markAll fs).face f =
    if f ∈ fs then { s.face f with pending := true } else s.face f := by
  unfold State.markAll
  induction fs generalizing s with
  | nil => simp
  | cons g fs ih =>
    rw [List.foldl_cons, ih, State.face_modFace_eq]
    by_cases same : f = g
    · simp [same]
    · simp [same]

/-- The engine once the RX halves of faces have been rewritten: a suspended MARGIN of one of them starts over (R95). -/
def Engine.rewritten (e : Engine) (fs : List FaceId) : Engine :=
  { e with suspended := e.suspended.map (fun x => if x.job.face ∈ fs then ⟨x.job, 0, false⟩ else x) }

theorem engine_settleFaces_pending {fs : List FaceId} (once : fs.Nodup) {s : State} (pending : ∀ f ∈ fs, (s.face f).pending = true) :
    (fs.foldl (fun s f => s.settleFace f) s).engine = s.engine.rewritten fs := by
  induction fs generalizing s with
  | nil =>
    unfold Engine.rewritten
    simp
  | cons f fs ih =>
    obtain ⟨fresh, later⟩ := List.nodup_cons.mp once
    have first : s.settleFace f = (s.modFace f Face.swap).restartSuspended f := if_pos (pending f (List.mem_cons_self ..))
    have others (g : FaceId) (hg : g ∈ fs) : ((s.settleFace f).face g).pending = true := by
      rw [face_settleFace, if_neg (fun same : g = f => fresh (same ▸ hg))]
      exact pending g (List.mem_cons_of_mem _ hg)
    have engine : (s.settleFace f).engine = s.engine.rewritten [f] := by
      rw [first]
      unfold Engine.rewritten
      simp only [List.mem_singleton]
      rfl
    rw [List.foldl_cons, ih later others, engine]
    unfold Engine.rewritten
    cases s.engine.suspended with
    | none => rfl
    | some x => by_cases own : x.job.face = f <;> simp [own, fresh]

/-! ### The commit -/

/-- A path whose faces settle at once when they are committed (R75). -/
def atRest (st : PathState) : Bool := st == .unmapped || st == .parked || st == .benched

theorem commitFace_off {u : State} {f : FaceId} (off : u.path (facePath f) ≠ .passing) :
    u.commitFace f = if atRest (u.path (facePath f)) = true then u.settleFace f else u := by
  unfold State.commitFace
  cases path : u.path (facePath f) with
  | passing => exact absurd path off
  | unmapped | parked | benched | training | testing => rfl

theorem commitEach_off {fs : List FaceId} {u : State} (off : ∀ f ∈ fs, u.path (facePath f) ≠ .passing) :
    fs.foldl (fun s f => s.commitFace f) u =
      (fs.filter (fun f => atRest (u.path (facePath f)))).foldl (fun s f => s.settleFace f) u := by
  induction fs generalizing u with
  | nil => rfl
  | cons f fs ih =>
    have paths (g : FaceId) : (u.settleFace f).path (facePath g) = u.path (facePath g) := by
      rw [settleFace_footprint]
      rfl
    have later (g : FaceId) (hg : g ∈ fs) : u.path (facePath g) ≠ .passing := off g (List.mem_cons_of_mem _ hg)
    rw [List.foldl_cons, commitFace_off (off f (List.mem_cons_self ..))]
    cases rests : atRest (u.path (facePath f)) with
    | true =>
      rw [if_pos rfl, List.filter_cons_of_pos (p := fun f => atRest (u.path (facePath f))) rests, List.foldl_cons, ih (fun g hg => by rw [paths]; exact later g hg)]
      simp only [paths]
    | false => rw [if_neg (by decide), List.filter_cons_of_neg (p := fun f => atRest (u.path (facePath f))) (by simp [rests]), ih later]

theorem Face.settled_pending (x : Face) : ({ x with pending := true } : Face).settled = x.swapped := rfl

theorem commitFacesAct_le16 (fs : FaceSet) (s : State) :
    commitFacesAct (le16 fs.toNat) s = .plain (s.commitFaces (facesOf fs)) .done :=
  withOperand_some s _ _ _ (faceSetBody_le16 fs)

/-- A commit of faces that are not on the traffic: what it leaves of the rest, the faces and the engine. -/
theorem commitFaces_off {s : State} {fs : List FaceId} (once : fs.Nodup) (off : ∀ f ∈ fs, s.path (facePath f) ≠ .passing) :
    s.commitFaces fs = { s with faces := (s.commitFaces fs).faces, engine := (s.commitFaces fs).engine }
    ∧ (∀ f : FaceId, (s.commitFaces fs).face f =
        if f ∈ fs then (if atRest (s.path (facePath f)) = true then (s.face f).swapped else { s.face f with pending := true })
        else s.face f)
    ∧ (s.commitFaces fs).engine = s.engine.rewritten (fs.filter (fun f => atRest (s.path (facePath f)))) := by
  have marked := markAll_footprint fs s
  have face := face_markAll fs s
  have paths (f : FaceId) : (s.markAll fs).path (facePath f) = s.path (facePath f) := by
    rw [marked]
    rfl
  have engine : (s.markAll fs).engine = s.engine := by rw [marked]
  have commits : s.commitFaces fs = (fs.filter (fun f => atRest (s.path (facePath f)))).foldl (fun s f => s.settleFace f)
      (s.markAll fs) := by
    have each := commitEach_off (u := s.markAll fs) (fun f hf => by rw [paths]; exact off f hf)
    simp only [paths] at each
    exact each
  have settled := settleFaces_footprint (fs.filter (fun f => atRest (s.path (facePath f)))) (s.markAll fs)
  have faces := face_settleFaces (fs.filter (fun f => atRest (s.path (facePath f)))) (s.markAll fs)
  have engines := engine_settleFaces_pending (once.filter (fun f => atRest (s.path (facePath f)))) (s := s.markAll fs)
    (fun f hf => by rw [face, if_pos (List.mem_of_mem_filter hf)])
  rw [← commits] at settled faces engines
  refine ⟨?_, fun f => ?_, engines.trans (by rw [engine])⟩
  · generalize s.commitFaces fs = t at *
    generalize s.markAll fs = u at *
    rw [settled, marked]
  · rw [faces, face]
    by_cases inside : f ∈ fs
    · rw [if_pos inside, if_pos inside]
      cases rests : atRest (s.path (facePath f)) with
      | true =>
        have chosen : f ∈ fs.filter (fun f => atRest (s.path (facePath f))) := List.mem_filter.mpr ⟨inside, rests⟩
        rw [if_pos chosen, if_pos rfl, Face.settled_pending]
      | false =>
        have left : f ∉ fs.filter (fun f => atRest (s.path (facePath f))) := fun h =>
          Bool.false_ne_true (rests.symm.trans (List.mem_filter.mp h).2)
        rw [if_neg left, if_neg Bool.false_ne_true]
    · have left : f ∉ fs.filter (fun f => atRest (s.path (facePath f))) := fun h => inside (List.mem_of_mem_filter h)
      rw [if_neg inside, if_neg inside, if_neg left]

/-- Settles O26, by the order of a commit: the pending flags, and then each face by the state of its path. -/
theorem commitFacesOffTheTraffic : Obligations.CommitFacesOffTheTraffic := by
  intro s tag fs hport off
  have off' (f : FaceId) (hf : f ∈ facesOf fs) : s.path (facePath f) ≠ .passing := off f ((mem_facesOf fs f).mp hf)
  obtain ⟨foot, face, engine⟩ := commitFaces_off (s := s.acceptWrite (requestFrame tag 0x32#8 (le16 fs.toNat)))
    (nodup_facesOf fs) off'
  have port : ((s.acceptWrite (requestFrame tag 0x32#8 (le16 fs.toNat))).commitFaces (facesOf fs)).port =
      (s.acceptWrite (requestFrame tag 0x32#8 (le16 fs.toNat))).port := by rw [foot]
  have step := takeRequest_acted (body := le16 fs.toNat) hport (by decide : 2 ≤ 128) (commitFacesAct_le16 fs _) port
  have rests (f : FaceId) (hf : setHas fs f.val = true) :
      ¬(s.path (facePath f) = .training ∨ s.path (facePath f) = .testing) ↔ atRest (s.path (facePath f)) = true := by
    have here := off f hf
    cases path : s.path (facePath f) with
    | passing => exact absurd path here
    | unmapped | parked | benched | training | testing => decide
  generalize (s.acceptWrite (requestFrame tag 0x32#8 (le16 fs.toNat))).commitFaces (facesOf fs) = t at *
  refine ⟨_, step, rfl, fun f => ?face, ?rest⟩
  case face =>
    refine (face f).trans ?_
    by_cases inside : setHas fs f.val = true
    · rw [if_pos ((mem_facesOf fs f).mpr inside), if_pos inside]
      by_cases busy : s.path (facePath f) = .training ∨ s.path (facePath f) = .testing
      · rw [if_pos busy]
        exact if_neg (fun h => (rests f inside).mpr h busy)
      · rw [if_neg busy]
        exact if_pos ((rests f inside).mp busy)
    · rw [if_neg (fun h => inside ((mem_facesOf fs f).mp h)), if_neg inside]
      rfl
  case rest =>
    have fields : t.legs = s.legs ∧ t.paths = s.paths ∧ t.monitors = s.monitors ∧ t.errors = s.errors ∧ t.notices = s.notices
        ∧ t.map = s.map ∧ t.store = s.store ∧ t.slots = s.slots ∧ t.tests = s.tests ∧ t.sent = s.sent ∧ t.frame = s.frame := by
      rw [foot]
      exact ⟨rfl, rfl, rfl, rfl, rfl, rfl, rfl, rfl, rfl, rfl, rfl⟩
    obtain ⟨legs, paths, monitors, errors, notices, map, store, slots, tests, sent, frame⟩ := fields
    refine ⟨legs, paths, monitors, errors, notices, engine.trans ?_, map, store, slots, tests, sent, frame⟩
    unfold Engine.rewritten
    have same (x : SuspendedJob) : x.job.face ∈ (facesOf fs).filter (fun f => atRest (s.path (facePath f))) ↔
        setHas fs x.job.face.val = true ∧ s.path (facePath x.job.face) ∈ [PathState.unmapped, .parked, .benched] := by
      rw [List.mem_filter, mem_facesOf]
      refine and_congr Iff.rfl ?_
      cases s.path (facePath x.job.face) <;> decide
    refine congrArg (fun slot => ({ s.engine with suspended := slot } : Engine)) ?_
    refine congrFun (congrArg Option.map ?_) s.engine.suspended
    funext x
    exact if_congr (same x) rfl rfl

end Sys2Proof.Machine

/-! What the tuning engine chooses (spec/05 R91, R92). -/

namespace Sys2Proof.Machine

/-! ### Pending jobs by class -/

theorem pendingKind_iff (e : Engine) (k : JobKind) (f : FaceId) :
    pendingKind e k f = true ↔ ∃ j : Job, e.queue[f] = some j ∧ j.kind = k ∧ setHas e.mask f.val = false := by
  unfold pendingKind unmasked
  cases e.queue[f] with
  | none => simp
  | some j => simp

theorem urgentPending_iff (e : Engine) : e.urgentPending = false ↔ e.noneUrgent := by
  unfold Engine.urgentPending Engine.noneUrgent
  rw [List.any_eq_false]
  refine ⟨fun quiet f j queued urgent => ?_, fun masked f _ pending => ?_⟩
  · by_contra unmasked
    exact quiet f (mem_allFaces f) ((pendingKind_iff e .sweep f).mpr ⟨j, queued, urgent, by simpa using unmasked⟩)
  · obtain ⟨j, queued, urgent, unmasked⟩ := (pendingKind_iff e .sweep f).mp pending
    rw [masked f j queued urgent] at unmasked
    exact Bool.noConfusion unmasked

/-- Whatever is pending is masked. -/
def Engine.allMasked (e : Engine) : Prop := ∀ f : FaceId, (e.queue[f]).isSome = true → setHas e.mask f.val = true

theorem pendingKind_masked {e : Engine} (masked : e.allMasked) (k : JobKind) (f : FaceId) : pendingKind e k f = false := by
  by_contra pending
  obtain ⟨j, queued, -, unmasked⟩ := (pendingKind_iff e k f).mp (by simpa using pending)
  rw [masked f (by rw [queued]; rfl)] at unmasked
  exact Bool.noConfusion unmasked

theorem resumes_masked {e : Engine} (masked : e.allMasked) : e.resumes = e.suspended := by
  unfold Engine.resumes Engine.urgentPending
  simp [pendingKind_masked masked]

theorem nextJob_masked {e : Engine} (masked : e.allMasked) : e.nextJob = none := by
  unfold Engine.nextJob
  have absent (k : JobKind) : (facesFrom (e.pointer k)).find? (pendingKind e k) = none :=
    List.find?_eq_none.mpr fun f _ => by rw [pendingKind_masked masked]; decide
  simp [absent]

/-! ### The rotation -/

theorem facesPast_val (p f : FaceId) : facesPast p f = (f - p).val := by
  unfold facesPast
  rw [Fin.val_sub]
  congr 1
  omega

theorem facesPast_add (p i : FaceId) : facesPast p (p + i) = i.val := by rw [facesPast_val, add_sub_cancel_left]

/-- The first face from a pointer that satisfies a test is the one that lies least past the pointer. -/
theorem find_facesFrom {p f : FaceId} {q : FaceId → Bool} (here : q f = true)
    (first : ∀ g : FaceId, g ≠ f → q g = true → facesPast p f < facesPast p g) : (facesFrom p).find? q = some f := by
  refine List.find?_eq_some_iff_getElem.mpr ⟨here, (f - p).val, by simp [facesFrom, allFaces], ?_, fun j hj => ?_⟩
  · have order : (facesFrom p)[(f - p).val]'(by simp [facesFrom, allFaces]) = p + (f - p) := by
      have each : ∀ i : FaceId, allFaces[i.val]'(by simp [allFaces]) = i := by decide
      simp only [facesFrom, List.getElem_map, each]
    rw [order, add_sub_cancel]
  · have small : j < 16 := by omega
    have order : (facesFrom p)[j]'(by simp [facesFrom, allFaces]; omega) = p + ⟨j, small⟩ := by
      have each : ∀ i : FaceId, allFaces[i.val]'(by simp [allFaces]) = i := by decide
      simp only [facesFrom, List.getElem_map]
      exact congrArg (p + ·) (each ⟨j, small⟩)
    rw [order]
    by_contra found
    have past := facesPast_add p ⟨j, small⟩
    by_cases same : p + ⟨j, small⟩ = f
    · rw [same, facesPast_val] at past
      dsimp only at past
      omega
    · have later := first _ same (by simpa using found)
      rw [past, facesPast_val] at later
      dsimp only at later
      omega

/-! ### The job that is taken -/

theorem pointer_turnOf (e : Engine) (k : JobKind) : e.pointer k = e.turnOf k := by cases k <;> rfl

theorem find_lower {e : Engine} {j : Job} (h : e.takes j) {k : JobKind} (lower : classRank k < classRank j.kind) :
    (facesFrom (e.pointer k)).find? (pendingKind e k) = none := by
  obtain ⟨queued, -, -, first⟩ := h
  refine List.find?_eq_none.mpr fun f _ pending => ?_
  obtain ⟨j', queued', kind, unmasked⟩ := (pendingKind_iff e k f).mp pending
  by_cases same : f = j.face
  · subst same
    obtain rfl : j = j' := Option.some.inj (queued.symm.trans queued')
    rw [kind] at lower
    exact Nat.lt_irrefl _ lower
  · rcases first f same unmasked j' queued' with below | ⟨equal, -⟩
    · rw [kind] at below
      omega
    · rw [equal, kind] at lower
      exact Nat.lt_irrefl _ lower

theorem find_own {e : Engine} {j : Job} (h : e.takes j) :
    (facesFrom (e.pointer j.kind)).find? (pendingKind e j.kind) = some j.face := by
  obtain ⟨queued, unmasked, -, first⟩ := h
  refine find_facesFrom ((pendingKind_iff e _ _).mpr ⟨j, queued, rfl, unmasked⟩) fun g other pending => ?_
  obtain ⟨j', queued', kind, clear⟩ := (pendingKind_iff e _ g).mp pending
  rw [pointer_turnOf]
  rcases first g other clear j' queued' with below | ⟨-, past⟩
  · rw [kind] at below
    exact absurd below (Nat.lt_irrefl _)
  · exact past

/-- The job that a class offers: the pending job of its kind that stands first from its pointer (R91, R92). -/
def Engine.offered (e : Engine) (k : JobKind) : Option Job :=
  ((facesFrom (e.pointer k)).find? (pendingKind e k)).bind (fun f => e.queue[f])

theorem nextJob_offered (e : Engine) :
    e.nextJob = (e.offered .sweep).or ((e.offered .trim).or (e.offered .margin)) := by
  have order : e.nextJob = [JobKind.sweep, .trim, .margin].findSome? e.offered := rfl
  rw [order]
  cases sweep : e.offered .sweep <;> cases trim : e.offered .trim <;> cases margin : e.offered .margin <;>
    simp [sweep, trim, margin]

theorem nextJob_takes {e : Engine} {j : Job} (h : e.takes j) : e.nextJob = some j := by
  have own : e.offered j.kind = some j := by
    unfold Engine.offered
    rw [find_own h]
    exact h.1
  have lower (k : JobKind) (below : classRank k < classRank j.kind) : e.offered k = none := by
    unfold Engine.offered
    rw [find_lower h below]
    rfl
  rw [nextJob_offered]
  cases kind : j.kind with
  | sweep => rw [← kind, own, Option.some_or]
  | trim => rw [lower .sweep (by rw [kind]; decide), ← kind, own, Option.none_or, Option.some_or]
  | margin =>
    rw [lower .sweep (by rw [kind]; decide), lower .trim (by rw [kind]; decide), ← kind, own, Option.none_or, Option.none_or]

theorem resumes_takes {e : Engine} {j : Job} (h : e.takes j) : e.resumes = none := by
  obtain ⟨queued, unmasked, urgent, -⟩ := h
  unfold Engine.resumes
  cases suspended : e.suspended with
  | none => simp
  | some x =>
    have pending : e.urgentPending = true :=
      List.any_eq_true.mpr ⟨j.face, mem_allFaces _, (pendingKind_iff e _ _).mpr ⟨j, queued, urgent (by rw [suspended]; rfl), unmasked⟩⟩
    rw [if_pos pending]

theorem dequeue_after (e : Engine) (j : Job) : e.dequeue j = e.after j := by
  unfold Engine.dequeue Engine.movePointer Engine.after modAt
  cases j.kind <;> rfl

/-! ### The choice -/

theorem chooseWithin_running {s : State} (h : s.engine.running.isSome = true) (n : Nat) : s.chooseWithin n = s := by
  obtain ⟨r, running⟩ := Option.isSome_iff_exists.mp h
  cases n with
  | zero => rfl
  | succ n => simp only [State.chooseWithin, running]

theorem choose_running {s : State} (h : s.engine.running.isSome = true) : s.choose = s := chooseWithin_running h 17

theorem choose_resumes {s : State} {x : SuspendedJob} (free : s.engine.running = none) (suspended : s.engine.suspended = some x)
    (quiet : s.engine.urgentPending = false) : s.choose = s.modEngine (fun e => e.resume x) := by
  have resumes : s.engine.resumes = some x := by
    unfold Engine.resumes
    rw [quiet, suspended]
    rfl
  simp only [State.choose, State.chooseWithin, free, resumes]

theorem chooseWithin_masked {s : State} (suspended : s.engine.suspended = none) (masked : s.engine.allMasked) (n : Nat) :
    s.chooseWithin n = s := by
  cases n with
  | zero => rfl
  | succ n =>
    have resumes : s.engine.resumes = none := (resumes_masked masked).trans suspended
    cases running : s.engine.running <;> simp only [State.chooseWithin, running, resumes, nextJob_masked masked]

theorem choose_idle {s : State} (idle : s.engineIdle) : s.choose = s := by
  obtain ⟨-, suspended, masked⟩ := idle
  exact chooseWithin_masked suspended masked 17

theorem chooseWithin_takes {s : State} {j : Job} (free : s.engine.running = none) (h : s.engine.takes j) (n : Nat) :
    s.chooseWithin (n + 1) =
      if s.pinnedAtTaking j = true then ((s.modEngine (fun e => e.after j)).completePinned j).chooseWithin n
      else s.modEngine (fun e => { e.after j with running := some ⟨j, 0, 0, false⟩ }) := by
  simp only [State.chooseWithin, free, resumes_takes h, nextJob_takes h, dequeue_after]
  rfl

theorem choose_takes {s : State} {j : Job} (free : s.engine.running = none) (h : s.engine.takes j)
    (unpinned : j.kind = .margin ∨ (s.face j.face).pinned = false) :
    s.choose = s.modEngine (fun e => { e.after j with running := some ⟨j, 0, 0, false⟩ }) := by
  have starts : s.pinnedAtTaking j = false := by
    unfold State.pinnedAtTaking
    rcases unpinned with margin | unpinned
    · rw [margin]
      rfl
    · rw [unpinned, Bool.and_false]
  exact (chooseWithin_takes free h 16).trans (if_neg (by rw [starts]; decide))

theorem choose_pinned {s : State} {j : Job} (free : s.engine.running = none) (h : s.engine.takes j) (kind : j.kind ≠ .margin)
    (pinned : (s.face j.face).pinned = true) :
    s.choose = ((s.modEngine (fun e => e.after j)).completePinned j).chooseWithin 16 := by
  have ends : s.pinnedAtTaking j = true := by
    unfold State.pinnedAtTaking
    rw [pinned, Bool.and_true]
    exact bne_iff_ne.mpr kind
  exact (chooseWithin_takes free h 16).trans (if_pos ends)

/-! ### A job queued at an engine that is free -/

/-- The only pending job of an unmasked face is taken. -/
theorem takes_only {e : Engine} {j : Job} (queued : e.queue[j.face] = some j) (unmasked : setHas e.mask j.face.val = false)
    (suspended : e.suspended = none) (masked : ∀ f : FaceId, f ≠ j.face → (e.queue[f]).isSome = true → setHas e.mask f.val = true) :
    e.takes j := by
  refine ⟨queued, unmasked, fun bad => ?_, fun f other clear k queued' => ?_⟩
  · rw [suspended] at bad
    exact Bool.noConfusion bad
  · rw [masked f other (by rw [queued']; rfl)] at clear
    exact Bool.noConfusion clear

theorem takes_setQueued {s : State} {j : Job} (idle : s.engineIdle) (unmasked : setHas s.engine.mask j.face.val = false) :
    (s.setQueued j.face (some j)).engine.takes j := by
  obtain ⟨-, suspended, masked⟩ := idle
  have queued (f : FaceId) := State.queued_setQueued_eq s j.face f (some j)
  refine takes_only ((queued j.face).trans (if_pos rfl)) unmasked suspended fun f other pending => masked f ?_
  exact (congrArg Option.isSome ((queued f).trans (if_neg other))).symm.trans pending

theorem queued_idle {s : State} {f : FaceId} (idle : s.engineIdle) (unmasked : setHas s.engine.mask f.val = false) :
    s.queued f = none := by
  obtain ⟨-, -, masked⟩ := idle
  by_contra pending
  rw [masked f (Option.isSome_iff_ne_none.mpr pending)] at unmasked
  exact Bool.noConfusion unmasked

/-- The engine once a job has passed through its queue: only its class's pointer has moved. -/
theorem after_setQueued {s : State} {j : Job} (absent : s.queued j.face = none) :
    (s.setQueued j.face (some j)).engine.after j = { s.engine.after j with queue := s.engine.queue } := by
  have back : modAt (modAt s.engine.queue j.face (fun _ => some j)) j.face (fun _ => none) = s.engine.queue := by
    rw [modAt_modAt]
    exact modAt_none_eq absent
  unfold Engine.after
  exact congrArg (fun q => ({ s.engine with
    queue := q
    urgentPointer := if j.kind = .sweep then j.face + 1 else s.engine.urgentPointer
    routinePointer := if j.kind = .trim then j.face + 1 else s.engine.routinePointer
    probePointer := if j.kind = .margin then j.face + 1 else s.engine.probePointer } : Engine)) back

theorem queueJob_waits {s : State} {j : Job}
    (waits : s.engine.running.isSome = true ∨ (s.engineIdle ∧ setHas s.engine.mask j.face.val = true)) :
    s.queueJob j = s.setQueued j.face (some j) := by
  unfold State.queueJob
  rcases waits with busy | ⟨⟨free, suspended, masked⟩, own⟩
  · exact choose_running busy
  · refine choose_idle ⟨free, suspended, fun f pending => ?_⟩
    by_cases same : f = j.face
    · rw [same]
      exact own
    · refine masked f ?_
      rw [State.queued_setQueued_eq, if_neg same] at pending
      exact pending

theorem queueJob_starts {s : State} {j : Job} (idle : s.engineIdle) (unmasked : setHas s.engine.mask j.face.val = false)
    (unpinned : j.kind = .margin ∨ (s.face j.face).pinned = false) :
    s.queueJob j = s.modEngine (fun e => { e.after j with queue := e.queue, running := some ⟨j, 0, 0, false⟩ }) := by
  have free : s.engine.running = none := idle.1
  have starts := choose_takes (s := s.setQueued j.face (some j)) free (takes_setQueued idle unmasked) unpinned
  refine starts.trans ?_
  have after := after_setQueued (queued_idle idle unmasked)
  exact congrArg (fun e => ({ s with engine := { e with running := some ⟨j, 0, 0, false⟩ } } : State)) after

theorem queueJob_pinned {s : State} {j : Job} (idle : s.engineIdle) (unmasked : setHas s.engine.mask j.face.val = false)
    (kind : j.kind ≠ .margin) (pinned : (s.face j.face).pinned = true) :
    s.queueJob j = ((s.modEngine (fun e => { e.after j with queue := e.queue })).completePinned j).chooseWithin 16 := by
  have free : s.engine.running = none := idle.1
  have ends := choose_pinned (s := s.setQueued j.face (some j)) free (takes_setQueued idle unmasked) kind pinned
  refine ends.trans ?_
  have after := after_setQueued (queued_idle idle unmasked)
  exact congrArg (fun e => (State.completePinned { s with engine := e } j).chooseWithin 16) after

end Sys2Proof.Machine

/-! TUNE MARGIN (spec/05 R89), and COMMIT FACES on the traffic (spec/04 R75, R78). -/

namespace Sys2Proof.Machine

/-! ### TUNE MARGIN -/

theorem faceBody_large {b : Byte} (large : 16 ≤ b.toNat) : faceBody [b] = none := by
  refine Option.not_isSome_iff_eq_none.mp fun fits => ?_
  exact Nat.not_lt.mpr large ((isSome_faceBody [b]).mp fits).2

/-- The body of the request names its face: the answer is the face's, by the state of its path (R89). -/
theorem tuneMarginAct_byte (tag : Byte) (s : State) (f : FaceId) :
    tuneMarginAct tag [byte f.val] s =
      if s.path (facePath f) = .passing ∨ s.path (facePath f) = .testing then
        (if s.engineFree f = true then .plain (s.queueJob ⟨f, .margin, .switch, tag⟩) .accepted else .plain s .faceBusy)
      else .plain s .wrongState := by
  refine (withOperand_some s _ _ f (faceBody_byte f)).trans ?_
  cases s.path (facePath f) <;> rfl

theorem tuneMargin_queues {s t : State} {tag : Byte} {f : FaceId} (hport : s.takesRequests)
    (live : s.path (facePath f) = .passing ∨ s.path (facePath f) = .testing) (free : s.engineFree f = true)
    (queues : (s.acceptWrite (requestFrame tag 0x40#8 [byte f.val])).queueJob ⟨f, .margin, .switch, tag⟩ =
      t.acceptWrite (requestFrame tag 0x40#8 [byte f.val])) :
    exec (.tuneMargin tag [byte f.val]) s = .next (t.answered tag 0x40#8 [byte f.val] .accepted []) := by
  refine takeRequest_taken (act := tuneMarginAct tag _) hport (by decide : 1 ≤ 128) ?_ (.inr rfl)
  refine (tuneMarginAct_byte tag _ f).trans ((if_pos live).trans ((if_pos free).trans ?_))
  rw [queues]
  rfl

theorem engineFree_idle {s : State} {f : FaceId} (idle : s.engineIdle) (unmasked : setHas s.engine.mask f.val = false) :
    s.engineFree f = true := by
  have absent := queued_idle idle unmasked
  obtain ⟨running, suspended, -⟩ := idle
  unfold State.engineFree State.runningOn State.suspendedOn
  rw [absent, running, suspended]
  rfl

/-- Settles O28, by the checks in order and what an engine that is free does with the queued MARGIN. -/
theorem tuneMarginIsCheckedAndQueued : Obligations.TuneMarginIsCheckedAndQueued := by
  refine fun s tag hport => ⟨fun b large => ?bad, fun f => ⟨fun off off' => ?state, fun live busy => ?busy,
    fun live free waits => ?waits, fun live idle unmasked => ?starts⟩⟩
  case bad =>
    exact takeRequest_taken (act := tuneMarginAct tag [b]) hport (by decide : 1 ≤ 128)
      (withOperand_none _ _ _ (faceBody_large large)) (.inr rfl)
  case state =>
    exact takeRequest_taken (act := tuneMarginAct tag _) hport (by decide : 1 ≤ 128)
      ((tuneMarginAct_byte tag _ f).trans (if_neg (not_or.mpr ⟨off, off'⟩))) (.inr rfl)
  case busy =>
    exact takeRequest_taken (act := tuneMarginAct tag _) hport (by decide : 1 ≤ 128)
      ((tuneMarginAct_byte tag _ f).trans ((if_pos live).trans (if_neg (Bool.eq_false_iff.mp busy)))) (.inr rfl)
  case waits =>
    exact tuneMargin_queues hport live free
      (queueJob_waits (s := s.acceptWrite (requestFrame tag 0x40#8 [byte f.val])) (j := ⟨f, .margin, .switch, tag⟩) waits)
  case starts =>
    refine tuneMargin_queues hport live (engineFree_idle idle unmasked) ?_
    exact queueJob_starts (s := s.acceptWrite (requestFrame tag 0x40#8 [byte f.val])) (j := ⟨f, .margin, .switch, tag⟩) idle
      unmasked (.inl rfl)

/-! ### A swap where no MARGIN is suspended -/

theorem restartSuspended_none {s : State} (suspended : s.engine.suspended = none) (f : FaceId) : s.restartSuspended f = s := by
  have same : ({ s.engine with suspended := s.engine.suspended.map (fun x =>
      if x.job.face = f then { x with stepsDone := 0, partialHeld := false } else x) } : Engine) = s.engine := by
    rw [suspended]
    exact congrArg (fun x => ({ s.engine with suspended := x } : Engine)) suspended.symm
  exact congrArg (fun e => ({ s with engine := e } : State)) same

theorem swapFace_unsuspended {s : State} (suspended : s.engine.suspended = none) (f : FaceId) :
    s.swapFace f = s.modFace f Face.swapped := restartSuspended_none (s := s.modFace f Face.swap) suspended f

/-- What a job that completes PINNED leaves when its settle point comes and no MARGIN is suspended (R78). -/
def State.pinnedDone (s : State) (f : FaceId) : State :=
  if s.settlesOnCompletion f = true then s.modFace f Face.swapped else s

theorem completePinned_eq {s : State} (suspended : s.engine.suspended = none) (j : Job) :
    s.completePinned j =
      if j.isLegSweep = true then (s.pinnedDone j.face).sweepResult j.face .pinned else s.pinnedDone j.face := by
  unfold State.completePinned State.pinnedDone
  rw [swapFace_unsuspended suspended]

theorem engine_pinnedDone (s : State) (f : FaceId) : (s.pinnedDone f).engine = s.engine := by
  unfold State.pinnedDone
  split <;> rfl

theorem settlesOnCompletion_iff (s : State) (f : FaceId) :
    s.settlesOnCompletion f = true ↔
      (s.face f).pending = true ∧ (s.face f).swapOnCompletion = true ∧ s.path (facePath f) = .passing := by
  unfold State.settlesOnCompletion
  simp [and_assoc]

/-! ### COMMIT FACES on a PASSING path -/

theorem facesOf_single : ∀ f : FaceId, facesOf (BitVec.ofNat 16 (2 ^ f.val)) = [f] := by decide

theorem faceSetBody_single (f : FaceId) : faceSetBody (le16 (2 ^ f.val)) = some (BitVec.ofNat 16 (2 ^ f.val)) := by
  have small : (BitVec.ofNat 16 (2 ^ f.val)).toNat = 2 ^ f.val := by
    revert f
    decide
  have body := faceSetBody_le16 (BitVec.ofNat 16 (2 ^ f.val))
  rwa [small] at body

theorem sweepRunningOn_eq (s : State) (f : FaceId) : s.sweepRunningOn f =
    s.engine.running.any (fun r => r.job.face == f && r.job.kind == .sweep && !r.cancelling) := by
  unfold State.sweepRunningOn
  cases s.engine.running <;> rfl

/-- The face once it is committed while its path is PASSING (R75). -/
def State.marked (s : State) (f : FaceId) : State := s.modFace f (fun x => { x with pending := true, swapOnCompletion := true })

theorem commitFaces_passing {s : State} {f : FaceId} (passing : s.path (facePath f) = .passing) :
    s.commitFaces [f] = (s.marked f).requestTrim f .settings := by
  have mark : (s.modFace f (fun x => { x with pending := true })).modFace f
      (fun x => { x with pending := true, swapOnCompletion := true }) = s.marked f :=
    congrArg (fun faces => ({ s with faces := faces } : State)) (modAt_modAt s.faces f (fun x => { x with pending := true })
      (fun x => { x with pending := true, swapOnCompletion := true }))
  have first : s.commitFaces [f] = (s.modFace f (fun x => { x with pending := true })).commitFace f := rfl
  have here : (s.modFace f (fun x => { x with pending := true })).path (facePath f) = .passing := passing
  rw [first, ← mark]
  unfold State.commitFace
  rw [here]

theorem commitFaces_single {s t : State} {tag : Byte} {f : FaceId} (hport : s.takesRequests)
    (passing : s.path (facePath f) = .passing)
    (asks : ((s.acceptWrite (requestFrame tag 0x32#8 (le16 (2 ^ f.val)))).marked f).requestTrim f .settings =
      t.acceptWrite (requestFrame tag 0x32#8 (le16 (2 ^ f.val)))) :
    exec (.commitFaces tag (le16 (2 ^ f.val))) s = .next (t.answered tag 0x32#8 (le16 (2 ^ f.val)) .done []) := by
  refine takeRequest_taken (act := commitFacesAct _) hport (by decide : 2 ≤ 128) ?_ (.inr rfl)
  refine (withOperand_some _ _ _ _ (faceSetBody_single f)).trans ?_
  have commits := commitFaces_passing (s := s.acceptWrite (requestFrame tag 0x32#8 (le16 (2 ^ f.val)))) passing
  rw [facesOf_single, commits, asks]
  rfl

/-- A TRIM request at an engine that does not start it: what becomes of the face's pending job (R88, R90). -/
theorem requestTrim_waits {s : State} {f : FaceId} {by' : Requester}
    (waits : s.engine.running.isSome = true ∨ (s.engineIdle ∧ setHas s.engine.mask f.val = true)) :
    s.requestTrim f by' =
      if s.sweepRunningOn f = true then s
      else match s.queued f with
        | none => s.setQueued f (some ⟨f, .trim, by', 0#8⟩)
        | some j => if j.kind = .margin then (s.handDisplaced j).setQueued f (some ⟨f, .trim, by', 0#8⟩) else s := by
  unfold State.requestTrim
  cases queued : s.queued f with
  | none =>
    refine if_congr Iff.rfl rfl ?_
    exact queueJob_waits (j := ⟨f, .trim, by', 0#8⟩) waits
  | some j =>
    cases kind : j.kind with
    | sweep | trim => simp [kind]
    | margin =>
      have engine : (s.handDisplaced j).engine = s.engine := by
        unfold State.handDisplaced State.jobNotice
        split <;> rfl
      have queues := queueJob_waits (s := s.handDisplaced j) (j := ⟨f, .trim, by', 0#8⟩) (by
        unfold State.engineIdle State.queued
        rw [engine]
        exact waits)
      simp only [kind, queues, if_true]

/-- A TRIM request at an engine that is free, for a face that is not masked (R88, R91). -/
theorem requestTrim_idle {s : State} {f : FaceId} (by' : Requester) (idle : s.engineIdle)
    (unmasked : setHas s.engine.mask f.val = false) : s.requestTrim f by' = s.queueJob ⟨f, .trim, by', 0#8⟩ := by
  have quiet : s.sweepRunningOn f = false := by
    unfold State.sweepRunningOn
    rw [idle.1]
  unfold State.requestTrim
  rw [queued_idle idle unmasked]
  simp [quiet]

/-- A TRIM that the engine takes for a pinned face is over at once (R78, R85). -/
theorem queueJob_pinnedTrim {s : State} {j : Job} (idle : s.engineIdle) (unmasked : setHas s.engine.mask j.face.val = false)
    (kind : j.kind = .trim) (pinned : (s.face j.face).pinned = true) :
    s.queueJob j = (s.modEngine (fun e => { e.after j with queue := e.queue })).pinnedDone j.face := by
  have taken := queueJob_pinned idle unmasked (by rw [kind]; decide) pinned
  obtain ⟨-, suspended, masked⟩ := idle
  have done := completePinned_eq (s := s.modEngine (fun e => { e.after j with queue := e.queue })) suspended j
  have plain : j.isLegSweep = false := by
    unfold Job.isLegSweep
    rw [kind]
    rfl
  rw [if_neg (by rw [plain]; decide)] at done
  rw [taken, done]
  have engine := engine_pinnedDone (s.modEngine (fun e => { e.after j with queue := e.queue })) j.face
  refine chooseWithin_masked ?_ ?_ 16
  · rw [engine]
    exact suspended
  · rw [engine]
    exact masked

theorem face_marked (s : State) (f : FaceId) :
    (s.marked f).face f = { s.face f with pending := true, swapOnCompletion := true } := State.face_modFace s f _

/-- Settles O27, by what the TRIM request of the commit does, and, where the engine takes the TRIM, by the face's pin. -/
theorem commitOnAPassingPathAsksForATrim : Obligations.CommitOnAPassingPathAsksForATrim := by
  refine fun s tag f hport passing => ⟨fun waits => commitFaces_single hport passing ?waits,
    fun idle unmasked => commitFaces_single hport passing ?starts⟩
  case waits =>
    refine (requestTrim_waits (s := (s.acceptWrite (requestFrame tag 0x32#8 (le16 (2 ^ f.val)))).marked f) waits).trans ?_
    rw [sweepRunningOn_eq]
    have same : ((s.acceptWrite (requestFrame tag 0x32#8 (le16 (2 ^ f.val)))).marked f).engine = s.engine := rfl
    have queue : ((s.acceptWrite (requestFrame tag 0x32#8 (le16 (2 ^ f.val)))).marked f).queued f = s.queued f := rfl
    rw [same, queue]
    cases s.engine.running.any (fun r => r.job.face == f && r.job.kind == .sweep && !r.cancelling) with
    | true => rfl
    | false =>
      cases s.queued f with
      | none => rfl
      | some j =>
        by_cases margin : j.kind = .margin
        · by_cases switch : j.requester = .switch
          · simp [margin, switch, State.handDisplaced, State.jobNotice, State.marked]
            rfl
          · simp [margin, switch, State.handDisplaced, State.jobNotice, State.marked]
            rfl
        · simp [margin, State.marked]
          rfl
  case starts =>
    have asks := requestTrim_idle (s := (s.acceptWrite (requestFrame tag 0x32#8 (le16 (2 ^ f.val)))).marked f) .settings idle
      unmasked
    refine asks.trans ?_
    by_cases pinned : (s.face f).pinned = true
    · refine (queueJob_pinnedTrim (s := (s.acceptWrite (requestFrame tag 0x32#8 (le16 (2 ^ f.val)))).marked f)
        (j := ⟨f, .trim, .settings, 0#8⟩) idle unmasked rfl ?_).trans ?_
      · exact (congrArg Face.pinned (face_marked _ f)).trans pinned
      · refine (if_pos ((settlesOnCompletion_iff _ f).mpr ?_)).trans ?_
        · have face := face_marked (s.acceptWrite (requestFrame tag 0x32#8 (le16 (2 ^ f.val)))) f
          exact ⟨congrArg Face.pending face, congrArg Face.swapOnCompletion face, passing⟩
        · rw [if_pos pinned]
          rfl
    · refine (queueJob_starts (s := (s.acceptWrite (requestFrame tag 0x32#8 (le16 (2 ^ f.val)))).marked f)
        (j := ⟨f, .trim, .settings, 0#8⟩) idle unmasked (.inr ?_)).trans ?_
      · exact (congrArg Face.pinned (face_marked _ f)).trans (Bool.eq_false_iff.mpr pinned)
      · rw [if_neg pinned]
        rfl

end Sys2Proof.Machine

/-! A face that becomes READY (spec/03 R57, R59, R60). -/

namespace Sys2Proof.Machine

/-! ### The faces of a phase -/

theorem facesOfPaths_filter_s (ps : List PathId) : (facesOfPaths ps).filter (fun f => !isCFace f) = ps.map sFace := by
  induction ps with
  | nil => rfl
  | cons p ps ih =>
    have cons : facesOfPaths (p :: ps) = sFace p :: cFace p :: facesOfPaths ps := rfl
    rw [cons, List.filter_cons_of_pos (by simp [isCFace_sFace]), List.filter_cons_of_neg (by simp [isCFace_cFace]), ih,
      List.map_cons]

/-- The group faces of one kind: C-faces or S-faces. -/
def State.onPhase (s : State) (l : LegId) (c : Bool) (f : FaceId) : Bool := s.onGroup l f && isCFace f == c

theorem groupCFaces_eq (s : State) (l : LegId) : (s.groupPaths l).map cFace = allFaces.filter (s.onPhase l true) := by
  rw [← facesOfPaths_filter_c]
  refine (congrArg (List.filter isCFace) (groupFaces_eq s l)).trans ?_
  rw [List.filter_filter]
  refine List.filter_congr fun f _ => ?_
  unfold State.onPhase
  cases isCFace f <;> simp

theorem groupSFaces_eq (s : State) (l : LegId) : (s.groupPaths l).map sFace = allFaces.filter (s.onPhase l false) := by
  rw [← facesOfPaths_filter_s]
  refine (congrArg (List.filter (fun f => !isCFace f)) (groupFaces_eq s l)).trans ?_
  rw [List.filter_filter]
  refine List.filter_congr fun f _ => ?_
  unfold State.onPhase
  cases isCFace f <;> simp

theorem onGroup_iff (s : State) (l : LegId) (f : FaceId) :
    s.onGroup l f = true ↔ ∃ x : Place, s.inGroup (facePath f) x ∧ x.leg = l := by
  unfold State.onGroup State.onPositions State.inGroup
  constructor
  · intro on
    cases place : s.place (facePath f) with
    | none => rw [place] at on; exact Bool.noConfusion on
    | some q =>
      rw [place] at on
      obtain ⟨leg, pos⟩ := Bool.and_eq_true_iff.mp on
      have own : q.leg = l := by simpa using leg
      exact ⟨q, ⟨rfl, by rw [own]; exact pos⟩, own⟩
  · rintro ⟨q, ⟨place, pos⟩, rfl⟩
    rw [place]
    simp [pos]

/-- Every other face of the phase of `f` is READY. -/
def State.othersReady (s : State) (l : LegId) (f : FaceId) : Prop :=
  ∀ (g : FaceId) (x : Place), s.inGroup (facePath g) x → x.leg = l → isCFace g = isCFace f → g ≠ f → (s.face g).status = .ready

theorem othersReady_iff (s : State) (l : LegId) (f : FaceId) : s.othersReady l f ↔
    (s.setStatus f .ready).allReady (allFaces.filter (s.onPhase l (isCFace f))) = true := by
  have face (g : FaceId) : ((s.setStatus f .ready).face g).status = if g = f then .ready else (s.face g).status := by
    unfold State.setStatus
    rw [State.face_modFace_eq]
    split <;> rfl
  have phase (g : FaceId) : s.onPhase l (isCFace f) g = true ↔ s.onGroup l g = true ∧ isCFace g = isCFace f := by
    unfold State.onPhase
    simp
  unfold State.allReady State.othersReady
  simp only [List.all_eq_true, mem_filter_allFaces, phase, face, onGroup_iff, beq_iff_eq]
  constructor
  · rintro ready g ⟨⟨x, group, own⟩, kind⟩
    split
    · rfl
    · rename_i other
      exact ready g x group own kind other
  · intro ready g x group own kind other
    have done := ready g ⟨⟨x, group, own⟩, kind⟩
    rwa [if_neg other] at done

/-! ### The S phase -/

/-- The part has said READY on a face, and the leg's record is `rec`. -/
def State.saysReady (s : State) (l : LegId) (f : FaceId) (rec : TrainRecord) : State :=
  (s.modLeg l (fun x => { x with record := some rec })).send f .ready

/-- The face is READY. -/
def State.readied (s : State) (l : LegId) (f : FaceId) (rec : TrainRecord) : State := (s.saysReady l f rec).setStatus f .ready

section
variable {s : State} {l : LegId} {f : FaceId} {rec : TrainRecord}

theorem leg_readied : (s.readied l f rec).leg l = { s.leg l with record := some rec } := State.leg_modLeg s l _

theorem leg_readied_other {k : LegId} (hk : k ≠ l) : (s.readied l f rec).leg k = s.leg k := State.leg_modLeg_other s l k _ hk

theorem face_readied (g : FaceId) :
    (s.readied l f rec).face g = if g = f then { s.face g with status := .ready } else s.face g := by
  refine (State.face_modFace_eq (s.saysReady l f rec) f g _).trans ?_
  by_cases same : g = f
  · rw [if_pos same, if_pos same, same]
    rfl
  · rw [if_neg same, if_neg same]
    rfl

theorem onGroup_readied (g : FaceId) : (s.readied l f rec).onGroup l g = s.onGroup l g := by
  unfold State.onGroup
  rw [leg_readied]
  rfl

theorem onPhase_readied (c : Bool) : (s.readied l f rec).onPhase l c = s.onPhase l c := by
  funext g
  unfold State.onPhase
  rw [onGroup_readied]

theorem groupPaths_readied : (s.readied l f rec).groupPaths l = s.groupPaths l := by
  unfold State.groupPaths
  rw [leg_readied]
  rfl

theorem allReady_readied : (s.readied l f rec).allReady (allFaces.filter (s.onPhase l (isCFace f))) = true ↔ s.othersReady l f :=
  (othersReady_iff s l f).symm

theorem setStatus_saysReady : (s.saysReady l f rec).setStatus f .ready = s.readied l f rec := rfl

/-- The last C-face that becomes READY starts the S phase (R60). -/
theorem becomeReady_c (turn : rec.phase = .c) (kind : isCFace f = true) (last : s.othersReady l f) :
    (s.saysReady l f rec).becomeReady l f = (s.readied l f rec).startSPhase l := by
  have record : ((s.readied l f rec).leg l).record = some rec := by rw [leg_readied]
  have ready := allReady_readied (rec := rec).mpr last
  rw [kind] at ready
  unfold State.becomeReady
  simp only [setStatus_saysReady, record, turn, groupCFaces_eq, onPhase_readied, ready, if_true]

/-- The last S-face that becomes READY ends the attempt in a success (R60). -/
theorem becomeReady_s (turn : rec.phase = .s) (kind : isCFace f = false) (last : s.othersReady l f) :
    (s.saysReady l f rec).becomeReady l f = (s.readied l f rec).succeedAttempt l := by
  have record : ((s.readied l f rec).leg l).record = some rec := by rw [leg_readied]
  have ready := allReady_readied (rec := rec).mpr last
  rw [kind] at ready
  unfold State.becomeReady
  simp only [setStatus_saysReady, record, turn, groupSFaces_eq, onPhase_readied, ready, if_true]

/-- While other faces of its phase are not READY, the face's becoming READY is all. -/
theorem becomeReady_waits (kind : isCFace f = decide (rec.phase = .c)) (waits : ¬s.othersReady l f) :
    (s.saysReady l f rec).becomeReady l f = s.readied l f rec := by
  have record : ((s.readied l f rec).leg l).record = some rec := by rw [leg_readied]
  have idle := fun ready => waits (allReady_readied (rec := rec).mp ready)
  rw [kind] at idle
  unfold State.becomeReady
  cases turn : rec.phase with
  | c =>
    rw [turn] at idle
    simp only [setStatus_saysReady, record, turn, groupCFaces_eq, onPhase_readied]
    exact if_neg idle
  | s =>
    rw [turn] at idle
    simp only [setStatus_saysReady, record, turn, groupSFaces_eq, onPhase_readied]
    exact if_neg idle

theorem startSPhase_eq {u : State} : u.startSPhase l =
    { (allFaces.filter (u.onPhase l false)).foldl (fun s f => s.setStatus f .announced)
        (u.modRecord l (fun r => { r with phase := .s })) with
      sent := u.sent ++ (allFaces.filter (u.onPhase l false)).map (fun g =>
        ⟨g, (u.modRecord l (fun r => { r with phase := .s })).announceWord l g⟩) } := by
  unfold State.startSPhase
  rw [announceFaces_eq, groupSFaces_eq]
  rfl

/-- The S phase has started from the state `b` (R54): the record, the statuses and the words. -/
def State.turnedPhase (b t : State) (l : LegId) (f : FaceId) (rec : TrainRecord) (rate : Rate) : Prop :=
  t.leg l = { b.leg l with record := some { rec with phase := .s } }
  ∧ (∀ g : FaceId, (t.face g).status =
      if g = f then .ready else if b.onPhase l false g = true then .announced else (b.face g).status)
  ∧ t.sent = b.sent ++ ⟨f, .ready⟩ :: (allFaces.filter (b.onPhase l false)).map (fun g =>
      ⟨g, .announce (((b.place (facePath g)).map (·.pos)).getD 0) (b.leg l).currentWidth (rateAlone rate) rec.attempt⟩)
  ∧ t.paths = b.paths ∧ t.errors = b.errors ∧ t.notices = b.notices ∧ t.engine = b.engine ∧ t.resultOwed = b.resultOwed
  ∧ t.port = b.port

theorem startSPhase_footprint {u : State} : u.startSPhase l =
    { u with legs := (u.startSPhase l).legs, faces := (u.startSPhase l).faces, sent := (u.startSPhase l).sent } := by
  have same := setStatuses_footprint (allFaces.filter (u.onPhase l false)) .announced
    (u.modRecord l (fun r => { r with phase := .s }))
  rw [startSPhase_eq]
  generalize (allFaces.filter (u.onPhase l false)).foldl (fun s f => s.setStatus f .announced)
    (u.modRecord l (fun r => { r with phase := .s })) = v at *
  rw [same]
  rfl

theorem turnedPhase_startSPhase {rate : Rate} (phase : isCFace f = true) (agreed : (s.leg l).agreedRate = some rate) :
    s.turnedPhase ((s.readied l f rec).startSPhase l) l f rec rate := by
  have foot := startSPhase_footprint (u := s.readied l f rec) (l := l)
  have eq := startSPhase_eq (u := s.readied l f rec) (l := l)
  rw [onPhase_readied] at eq
  have leg : ((s.readied l f rec).modRecord l (fun r => { r with phase := .s })).leg l =
      { s.leg l with record := some { rec with phase := .s } } := by
    refine (State.leg_modLeg _ l _).trans ?_
    rw [leg_readied]
    rfl
  have word (g : FaceId) (hg : g ∈ allFaces.filter (s.onPhase l false)) :
      ((s.readied l f rec).modRecord l (fun r => { r with phase := .s })).announceWord l g =
        .announce (((s.place (facePath g)).map (·.pos)).getD 0) (s.leg l).currentWidth (rateAlone rate) rec.attempt := by
    have kind : isCFace g = false := by
      have on := (mem_filter_allFaces _ g).mp hg
      unfold State.onPhase at on
      simpa using (Bool.and_eq_true_iff.mp on).2
    unfold State.announceWord
    rw [leg]
    simp only [kind, agreed]
    rfl
  have faces := face_setStatuses (allFaces.filter (s.onPhase l false)) .announced
    ((s.readied l f rec).modRecord l (fun r => { r with phase := .s }))
  have same := setStatuses_footprint (allFaces.filter (s.onPhase l false)) .announced
    ((s.readied l f rec).modRecord l (fun r => { r with phase := .s }))
  have other : s.onPhase l false f = false := by
    unfold State.onPhase
    rw [phase]
    exact Bool.and_false _
  have face (g : FaceId) := face_readied (s := s) (l := l) (rec := rec) (f := f) g
  generalize (allFaces.filter (s.onPhase l false)).foldl (fun s f => s.setStatus f .announced)
    ((s.readied l f rec).modRecord l (fun r => { r with phase := .s })) = v at *
  refine ⟨?leg, fun g => ?status, ?sent, ?rest⟩
  case leg =>
    rw [eq]
    show v.leg l = _
    rw [← leg, same]
    rfl
  case status =>
    rw [eq]
    show (v.face g).status = _
    rw [faces]
    simp only [mem_filter_allFaces]
    by_cases own : g = f
    · rw [if_pos own, own, other]
      exact congrArg Face.status ((face f).trans (if_pos rfl))
    · rw [if_neg own]
      split
      · rfl
      · exact congrArg Face.status ((face g).trans (if_neg own))
  case sent =>
    rw [eq]
    show (s.sent ++ [⟨f, .ready⟩]) ++ _ = _
    rw [List.append_assoc, List.singleton_append, List.map_congr_left (fun g hg => by rw [word g hg])]
  case rest =>
    rw [foot]
    exact ⟨rfl, rfl, rfl, rfl, rfl, rfl⟩

end

end Sys2Proof.Machine

/-! An attempt that succeeds (spec/02 R32, spec/03 R60). -/

namespace Sys2Proof.Machine

/-- A path that enters PASSING has neither its faces settle nor its monitors stop (R9, R105). -/
theorem setPaths_passing (ps : List PathId) (u : State) : u.setPaths ps .passing =
    { u with paths := (u.setPaths ps .passing).paths } := by
  have step (u : State) (p : PathId) : u.setPath p .passing = { u with paths := (u.setPath p .passing).paths } := by
    unfold State.setPath
    split
    · rfl
    · rfl
  exact foldl_rel (R := fun a b => b = { a with paths := b.paths }) (fun _ => rfl) (fun _ _ _ h h' => by rw [h', h]) step ps u

theorem setLegState_footprint (u : State) (l : LegId) (st : LegState) : u.setLegState l st =
    { u with legs := modAt u.legs l (fun x => { x with state := st }), frame := (u.setLegState l st).frame } := by
  unfold State.setLegState
  rw [judge_footprint]
  rfl

/-- The leg context of an attempt that has succeeded (R32). -/
def Leg.won (x : Leg) (st : LegState) : Leg :=
  { x with
    state := st, limitTimer := none, record := none
    trimTimer := if x.trimInterval ≥ 1 then some (1000 * x.trimInterval) else none }

/-- The leg context once the limit timer has stopped and the trim timer is set (R32). -/
def Leg.retimed (x : Leg) : Leg :=
  { x with
    limitTimer := none
    trimTimer := if x.trimInterval ≥ 1 then some (1000 * x.trimInterval) else none }

/-- The results are owed and the timers set (R32, R47). -/
def State.retimed (u : State) (l : LegId) : State := { u with resultOwed := u.owes l, legs := modAt u.legs l Leg.retimed }

/-- The state of an attempt that has succeeded, before WIDTH REDUCED is reported (R32). -/
def State.wonAs (u : State) (l : LegId) (st : LegState) : State :=
  (((u.retimed l).setPaths (u.groupPaths l) .passing).dropRecord l).setLegState l st

section
variable {s u : State} {l : LegId} {st : LegState}

theorem leg_retimed : (u.retimed l).leg l = (u.leg l).retimed := State.leg_modLeg u l Leg.retimed

theorem groupPaths_retimed : (u.retimed l).groupPaths l = u.groupPaths l := by
  unfold State.groupPaths
  rw [leg_retimed]
  rfl

theorem groupFaces_passing : ((u.retimed l).setPaths (u.groupPaths l) .passing).groupFaces l = u.groupFaces l := by
  rw [setPaths_passing, ← groupPaths_retimed]
  exact congrArg facesOfPaths groupPaths_retimed

theorem wonAs_eq : u.wonAs l st =
    { u with
      resultOwed := u.owes l, legs := modAt u.legs l (fun x => x.won st), paths := (u.wonAs l st).paths
      faces := u.idleFaces l, frame := (u.wonAs l st).frame } := by
  have group := groupFaces_passing (u := u) (l := l)
  have passing := setPaths_passing (u.groupPaths l) (u.retimed l)
  unfold State.wonAs
  generalize (u.retimed l).setPaths (u.groupPaths l) .passing = v at *
  have legs : v.legs = modAt u.legs l Leg.retimed := by rw [passing]; rfl
  have idle : v.idleFaces l = u.idleFaces l := by
    have faces : v.faces = u.faces := by rw [passing]; rfl
    unfold State.idleFaces
    rw [group, faces]
  have drop := dropRecord_eq (s := v) (l := l)
  have lands := setLegState_footprint (v.dropRecord l) l st
  generalize (v.dropRecord l).setLegState l st = t at *
  have all : modAt (v.dropRecord l).legs l (fun x => { x with state := st }) = modAt u.legs l (fun x => x.won st) := by
    rw [drop]
    dsimp only
    rw [legs, modAt_modAt, modAt_modAt]
    rfl
  rw [all, drop, idle] at lands
  have paths : t.paths = v.paths := by rw [lands]
  rw [paths, lands]
  dsimp only
  rw [passing]
  rfl

theorem path_wonAs (p : PathId) : (u.wonAs l st).path p = if p ∈ u.groupPaths l then .passing else u.path p := by
  unfold State.wonAs
  rw [path_setLegState, dropRecord_eq]
  exact path_setPaths (u.retimed l) (u.groupPaths l) .passing p

theorem legs_wonAs : (u.wonAs l st).legs = modAt u.legs l (fun x => x.won st) := by rw [wonAs_eq]

theorem leg_wonAs : (u.wonAs l st).leg l = (u.leg l).won st := by
  unfold State.leg
  rw [legs_wonAs, modAt_same]

theorem leg_wonAs_other {k : LegId} (hk : k ≠ l) : (u.wonAs l st).leg k = u.leg k := by
  unfold State.leg
  rw [legs_wonAs, modAt_other _ _ _ _ hk]

theorem face_wonAs (f : FaceId) :
    (u.wonAs l st).face f = if u.onGroup l f = true then { u.face f with status := .idle } else u.face f := by
  rw [wonAs_eq]
  exact face_idleFaces u l f

theorem succeedAttempt_full (full : (u.leg l).currentWidth = (u.leg l).configuredWidth) :
    u.succeedAttempt l = u.wonAs l .active := by
  have retimed : (u.oweResults l).modLeg l Leg.retimed = u.retimed l := by
    rw [oweResults_eq]
    rfl
  unfold State.succeedAttempt State.wonAs
  rw [← groupPaths_retimed, ← retimed]
  simp only [full, beq_self_eq_true, if_true]
  rfl

theorem succeedAttempt_reduced (reduced : (u.leg l).currentWidth ≠ (u.leg l).configuredWidth) :
    u.succeedAttempt l = (u.wonAs l .degraded).reportMid ((u.wonAs l .degraded).legReport .widthReduced l none) := by
  have retimed : (u.oweResults l).modLeg l Leg.retimed = u.retimed l := by
    rw [oweResults_eq]
    rfl
  have narrow : ((u.leg l).currentWidth == (u.leg l).configuredWidth) = false := beq_eq_false_iff_ne.mpr reduced
  unfold State.succeedAttempt State.wonAs
  rw [← groupPaths_retimed, ← retimed]
  simp only [narrow, Bool.false_eq_true, if_false]
  rfl

/-- WIDTH REDUCED as the statements spell it. -/
def State.reducedReport (s : State) (l : LegId) : Report := s.errorAtLeg l .widthReduced .degraded (s.leg l).attemptCount none

theorem succeedAttempt_told (reduced : (u.leg l).currentWidth ≠ (u.leg l).configuredWidth) (rest : u.tableAtRest)
    (quiet : u.noSlotOn l .tallyThreshold) : u.succeedAttempt l = (u.wonAs l .degraded).told [u.reducedReport l] := by
  have leg := leg_wonAs (u := u) (l := l) (st := .degraded)
  have same : (u.wonAs l .degraded).table = u.table ∧ (u.wonAs l .degraded).clock = u.clock
      ∧ (u.wonAs l .degraded).slots = u.slots := by
    rw [wonAs_eq]
    exact ⟨rfl, rfl, rfl⟩
  obtain ⟨table, clock, slots⟩ := same
  rw [succeedAttempt_reduced reduced]
  generalize u.wonAs l .degraded = v at *
  have report : v.legReport .widthReduced l none = u.reducedReport l := by
    unfold State.legReport State.reducedReport State.errorAtLeg State.stamp
    rw [leg, clock]
    rfl
  have idle : v.table = noWork := table.trans rest
  rw [report]
  refine reportMid_told (by rw [idle]; rfl) (by rw [idle]; rfl) fun k hk => ?_
  obtain rfl : l = k := Option.some.inj hk
  exact noSlotOn_of_slots slots quiet

end

end Sys2Proof.Machine

/-! READY words move the attempt (spec/03 R59, R60). -/

namespace Sys2Proof.Machine

/-! ### Notices of reports -/

/-- The error unit takes a report and only adds to the notice queue (R129). -/
theorem noticesGrow_takeReport (s : State) (r : Report) :
    ∃ ns : List Notice, (s.takeReport r).1.notices = ns.foldl NoticeQueue.take s.notices := by
  have notice (u v : State) (rec : ErrorRecord) : ∃ ns : List Notice, (u.errorNotice v rec).notices = ns.foldl NoticeQueue.take u.notices := by
    unfold State.errorNotice
    split
    · exact ⟨[_], rfl⟩
    · exact ⟨[], rfl⟩
  simp only [State.takeReport]
  split
  · exact ⟨[], rfl⟩
  · split
    · exact notice _ _ _
    · split
      · exact notice _ _ _
      · exact notice _ _ _

theorem noticesGrow_afterReports (rs : List Report) (s : State) :
    ∃ ns : List Notice, (s.afterReports rs).notices = ns.foldl NoticeQueue.take s.notices := by
  induction rs generalizing s with
  | nil => exact ⟨[], rfl⟩
  | cons r rs ih =>
    obtain ⟨first, taken⟩ := noticesGrow_takeReport s r
    obtain ⟨later, rest⟩ := ih (s.takeReport r).1
    refine ⟨first ++ later, ?_⟩
    rw [List.foldl_append, ← taken]
    exact rest

theorem noticesGrow_told (rs : List Report) (s : State) :
    ∃ ns : List Notice, (s.told rs).notices = ns.foldl NoticeQueue.take s.notices := by
  unfold State.told
  split
  · exact noticesGrow_afterReports rs s
  · exact ⟨[], rfl⟩

/-- Telling nothing changes nothing. -/
theorem told_nothing (s : State) : s.told [] = s := by
  unfold State.told
  split
  · rfl
  · rw [List.append_nil]

/-! ### The success -/

section
variable {s u : State} {l : LegId} {f : FaceId} {rec : TrainRecord}

/-- The state of a leg whose attempt has succeeded (R32). -/
def Leg.successState (x : Leg) : LegState := if x.currentWidth = x.configuredWidth then .active else .degraded

/-- What a success reports (R32). -/
def State.successReports (s : State) (l : LegId) : List Report :=
  if (s.leg l).currentWidth = (s.leg l).configuredWidth then [] else [s.reducedReport l]

theorem succeedAttempt_eq (rest : u.tableAtRest) (quiet : u.noSlotOn l .tallyThreshold) :
    u.succeedAttempt l = (u.wonAs l (u.leg l).successState).told (u.successReports l) := by
  unfold Leg.successState State.successReports
  by_cases full : (u.leg l).currentWidth = (u.leg l).configuredWidth
  · rw [if_pos full, if_pos full, told_nothing]
    exact succeedAttempt_full full
  · rw [if_neg full, if_neg full]
    exact succeedAttempt_told full rest quiet

/-- The attempt of the state `b` has succeeded with a last READY on a face (R32, R60). -/
def State.attemptWon (b t : State) (l : LegId) (f : FaceId) (rec : TrainRecord) : Prop :=
  t.leg l = (b.leg l).won (b.leg l).successState
  ∧ (∀ p : PathId, t.path p = if b.onPhase l true (cFace p) = true then .passing else b.path p)
  ∧ (∀ g : FaceId, b.onGroup l g = true → (t.face g).status = .idle)
  ∧ t.sent = b.sent ++ [⟨f, .ready⟩]
  ∧ (∀ g : FaceId, setHas t.resultOwed g.val =
      (setHas b.resultOwed g.val || (b.onGroup l g && setHas rec.sweepOutstanding g.val)))
  ∧ t.reportsOf (b.told (b.successReports l))
  ∧ (∃ ns : List Notice, t.notices =
      (ns.foldl NoticeQueue.take b.notices).take
        (.legState b.clock.stamp l .training (t.leg l).state (.train (b.leg l).trainingCause) (b.leg l).currentWidth))
  ∧ (∀ k : LegId, k ≠ l → t.leg k = b.leg k) ∧ t.engine = b.engine ∧ t.port = b.port

theorem successState_linked (x : Leg) : x.successState = .active ∨ x.successState = .degraded := by
  unfold Leg.successState
  split
  · exact .inl rfl
  · exact .inr rfl

theorem noticeCause_won {e : Cause} (event : e ≠ .reset) (x : Leg) :
    noticeCause e (x.won x.successState) = .train x.trainingCause := by
  have linked (st : LegState) (h : st = .active ∨ st = .degraded) : noticeCause e (x.won st) = .train x.trainingCause := by
    cases e with
    | reset => exact absurd rfl event
    | _ => rcases h with rfl | rfl <;> rfl
  exact linked _ (successState_linked x)

theorem attemptWon_legEvent {e : Cause} {F : State → State} (event : e ≠ .reset)
    (becomes : F s = (s.readied l f rec).succeedAttempt l) (training : (s.leg l).state = .training) (rest : s.tableAtRest)
    (quiet : s.noSlotOn l .tallyThreshold) : s.attemptWon (s.legEvent l e F) l f rec := by
  have own := leg_readied (s := s) (l := l) (f := f) (rec := rec)
  have success := succeedAttempt_eq (u := s.readied l f rec) (l := l) rest quiet
  have reports : (s.readied l f rec).successReports l = s.successReports l := by
    unfold State.successReports State.reducedReport
    rw [own]
    rfl
  have state : ((s.readied l f rec).leg l).successState = (s.leg l).successState := by rw [own]; rfl
  rw [reports, state] at success
  rw [success] at becomes
  have eq := wonAs_eq (u := s.readied l f rec) (l := l) (st := (s.leg l).successState)
  have leg := leg_wonAs (u := s.readied l f rec) (l := l) (st := (s.leg l).successState)
  have legs (k : LegId) (hk : k ≠ l) := leg_wonAs_other (u := s.readied l f rec) (st := (s.leg l).successState) hk
  have path (p : PathId) := path_wonAs (u := s.readied l f rec) (l := l) (st := (s.leg l).successState) p
  have face (g : FaceId) := face_wonAs (u := s.readied l f rec) (l := l) (st := (s.leg l).successState) g
  have fields : ((s.readied l f rec).wonAs l (s.leg l).successState).errors = s.errors
      ∧ ((s.readied l f rec).wonAs l (s.leg l).successState).notices = s.notices
      ∧ ((s.readied l f rec).wonAs l (s.leg l).successState).clock = s.clock
      ∧ ((s.readied l f rec).wonAs l (s.leg l).successState).inFlight = s.inFlight
      ∧ ((s.readied l f rec).wonAs l (s.leg l).successState).table = s.table
      ∧ ((s.readied l f rec).wonAs l (s.leg l).successState).engine = s.engine
      ∧ ((s.readied l f rec).wonAs l (s.leg l).successState).port = s.port
      ∧ ((s.readied l f rec).wonAs l (s.leg l).successState).sent = s.sent ++ [⟨f, .ready⟩]
      ∧ ((s.readied l f rec).wonAs l (s.leg l).successState).resultOwed = (s.readied l f rec).owes l := by
    rw [eq]
    exact ⟨rfl, rfl, rfl, rfl, rfl, rfl, rfl, rfl, rfl⟩
  obtain ⟨errors, notices, clock, inFlight, table, engine, port, sent, owed⟩ := fields
  generalize (s.readied l f rec).wonAs l (s.leg l).successState = v at *
  have told := told_of_same (s.successReports l) errors notices clock inFlight
  obtain ⟨ns, grown⟩ := noticesGrow_told (s.successReports l) s
  rw [told] at becomes
  rw [own] at leg
  have home : (F s).leg l = (s.leg l).won (s.leg l).successState := by
    rw [becomes]
    exact leg
  have atRest : (F s).tableAtRest := by
    rw [becomes]
    exact table.trans rest
  have moved : ((F s).leg l).state ≠ (s.leg l).state := by
    rw [home, training]
    show (s.leg l).successState ≠ .training
    rcases successState_linked (s.leg l) with linked | linked <;> rw [linked] <;> decide
  have notice : s.moveNotice (F s) l e = .legState s.clock.stamp l .training (s.leg l).successState
      (.train (s.leg l).trainingCause) (s.leg l).currentWidth := by
    have stamp : (F s).stamp = s.clock.stamp := by
      rw [becomes, ← clock]
      rfl
    rw [State.moveNotice, home, noticeCause_won event, stamp, training]
    rfl
  rw [legEvent_moved atRest moved, notice, becomes]
  refine ⟨leg, fun p => ?paths, fun g on => ?idle, sent, fun g => ?owed, ⟨rfl, rfl⟩, ⟨ns, ?notices⟩, fun k hk => ?legs,
    engine, port⟩
  case paths =>
    refine (path p).trans ?_
    have on : s.onPhase l true (cFace p) = true ↔ p ∈ s.groupPaths l := by
      have inside := mem_pathsAt_facePath s l (s.leg l).group (cFace p)
      rw [facePath_cFace] at inside
      refine Iff.trans ?_ inside.symm
      unfold State.onPhase
      rw [isCFace_cFace, beq_self_eq_true, Bool.and_true]
      rfl
    rw [groupPaths_readied]
    exact if_congr on.symm rfl rfl
  case idle =>
    have status := face g
    rw [onGroup_readied, if_pos on] at status
    exact congrArg Face.status status
  case owed =>
    show setHas v.resultOwed g.val = _
    rw [owed, setHas_owes]
    unfold State.outstanding
    rw [onGroup_readied, own]
    rfl
  case notices =>
    rw [← grown]
    show NoticeQueue.take _ _ = NoticeQueue.take _ (.legState s.clock.stamp l .training (v.leg l).state _ _)
    rw [leg]
    rfl
  case legs => exact (legs k hk).trans (leg_readied_other hk)

/-- A face of the present phase that becomes READY, taken by the leg controller (R59, R60). -/
theorem legEvent_readied {e : Cause} {F : State → State} (becomes : F s = (s.saysReady l f rec).becomeReady l f)
    (kind : isCFace f = decide (rec.phase = .c)) (rest : s.tableAtRest) (waits : ¬s.othersReady l f) :
    s.legEvent l e F = s.readied l f rec := by
  rw [becomeReady_waits kind waits] at becomes
  have own := leg_readied (s := s) (l := l) (f := f) (rec := rec)
  rw [← becomes] at own
  have atRest : (F s).tableAtRest := by
    rw [becomes]
    exact rest
  rw [legEvent_same atRest (by rw [own]), becomes]

theorem legEvent_turned {e : Cause} {F : State → State} {rate : Rate} (becomes : F s = (s.saysReady l f rec).becomeReady l f)
    (turn : rec.phase = .c) (kind : isCFace f = true) (rest : s.tableAtRest) (last : s.othersReady l f)
    (agreed : (s.leg l).agreedRate = some rate) : s.turnedPhase (s.legEvent l e F) l f rec rate := by
  rw [becomeReady_c turn kind last] at becomes
  have turned := turnedPhase_startSPhase (s := s) (l := l) (f := f) (rec := rec) kind agreed
  have foot := startSPhase_footprint (u := s.readied l f rec) (l := l)
  rw [← becomes] at turned foot
  have own : (F s).leg l = { s.leg l with record := some { rec with phase := .s } } := turned.1
  have atRest : (F s).tableAtRest := by
    rw [State.tableAtRest, foot]
    exact rest
  rw [legEvent_same atRest (by rw [own])]
  exact turned

/-- What a step makes of a face that becomes READY is what the leg controller's taking makes of it, where the step's other work
does not meet the taking's. -/
theorem becomesReady_of {b : State} {answered : State → State} {out : Host.Outcome State Fault Refusal}
    (kind : isCFace f = decide (rec.phase = .c))
    (waits : ¬b.othersReady l f → out = .next (answered (b.readied l f rec)))
    (turns : rec.phase = .c → isCFace f = true → b.othersReady l f → ∀ rate : Rate, (b.leg l).agreedRate = some rate →
      ∃ t, out = .next (answered t) ∧ b.turnedPhase t l f rec rate)
    (wins : rec.phase = .s → b.othersReady l f → b.noSlotOn l .tallyThreshold →
      ∃ t, out = .next (answered t) ∧ b.attemptWon t l f rec)
    (ports : ∀ t : State, t.port = b.port → answered t = { t with port := (answered b).port }) :
    b.becomesReady l f rec answered out := by
  refine ⟨waits, fun last turn rate agreed => ?turns, fun last turn quiet => ?wins⟩
  case turns =>
    obtain ⟨t, step, leg, statuses, sent, paths, errors, notices, engine, owed, port⟩ := turns turn
      (by rw [kind, turn]; rfl) last rate agreed
    rw [ports t port] at step
    exact ⟨_, step, leg, statuses, sent, paths, errors, notices, engine, owed, rfl⟩
  case wins =>
    obtain ⟨t, step, leg, paths, idle, sent, owed, reports, notices, legs, -, port⟩ := wins turn last quiet
    rw [ports t port] at step
    refine ⟨_, step, ?_, paths, idle, sent, owed, ?_, notices, rfl, legs⟩
    · refine leg.trans ?_
      unfold Leg.won Leg.successState
      simp only [decide_eq_true_eq]
    · unfold State.successReports at reports
      simp only [decide_eq_true_eq]
      split at reports
      · rename_i full
        rw [if_pos full]
        rw [told_nothing] at reports
        exact reports
      · rename_i reduced
        rw [if_neg reduced]
        exact reports

end

end Sys2Proof.Machine

/-! PARTNER READY (spec/03 R59, R60). -/

namespace Sys2Proof.Machine

theorem modRecord_eq {s : State} {l : LegId} {r : TrainRecord} (record : (s.leg l).record = some r)
    (g : TrainRecord → TrainRecord) : s.modRecord l g = s.modLeg l (fun x => { x with record := some (g r) }) := by
  have same : ({ s.leg l with record := (s.leg l).record.map g } : Leg) = { s.leg l with record := some (g r) } := by
    rw [record]
    rfl
  exact congrArg (fun x => ({ s with legs := s.legs.set l x } : State)) same

/-- The READY word, whose operands are 0 (R178). -/
def readyWord : RawWord := ⟨0#8, 0#8, crc8 [4#8, 0#8, 0#8]⟩

theorem isReadyWord_readyWord : isReadyWord readyWord = true := by
  simp [isReadyWord, wordChecks, readyWord]

section
variable {s : State} {f : FaceId} {q : Place} {r : TrainRecord}

theorem partnerReady_taken (inside : s.inExchange f q r) (live : (s.face f).status ≠ .idle) :
    exec (.partnerReady f readyWord) s = .next (s.legEvent q.leg wordCause (fun s => s.takeReady q.leg r f)) := by
  have exchange := exchange_of_inExchange inside
  have step : exec (.partnerReady f readyWord) s = execPartnerReady f readyWord s := rfl
  rw [step]
  unfold execPartnerReady
  rw [isReadyWord_readyWord, exchange]
  simp only [live, if_false]

/-- The record once the partner's READY has been heard (R59). -/
def TrainRecord.hearsReady (r : TrainRecord) (f : FaceId) : TrainRecord :=
  { r with readyReceived := setAdd r.readyReceived f.val }

theorem takeReady_again {l : LegId} (again : (s.face f).status = .ready ∨ setHas r.readyReceived f.val = true) :
    s.takeReady l r f = s.send f .ready := if_pos again

theorem takeReady_kept {l : LegId} (record : (s.leg l).record = some r) (fresh : (s.face f).status ≠ .ready)
    (unheard : setHas r.readyReceived f.val = false) (unsent : setHas r.readySent f.val = false) :
    s.takeReady l r f = s.modLeg l (fun x => { x with record := some (r.hearsReady f) }) := by
  unfold State.takeReady
  rw [if_neg (by simp [fresh, unheard]), unsent, if_neg (by decide)]
  exact modRecord_eq record _

theorem takeReady_becomes {l : LegId} (record : (s.leg l).record = some r) (fresh : (s.face f).status ≠ .ready)
    (unheard : setHas r.readyReceived f.val = false) (said : setHas r.readySent f.val = true) :
    s.takeReady l r f = (s.saysReady l f (r.hearsReady f)).becomeReady l f := by
  unfold State.takeReady
  rw [if_neg (by simp [fresh, unheard]), said, if_pos rfl, modRecord_eq record]
  rfl

end

/-- Settles O54, by what the taking of a READY does in each case. -/
theorem readyWordsMoveTheAttempt : Obligations.ReadyWordsMoveTheAttempt := by
  intro s f q r rest _ inside live
  have taken := partnerReady_taken inside live
  obtain ⟨-, -, training, record, -⟩ := inside
  refine ⟨fun again => ?again, fun fresh unheard unsent => ?kept, fun fresh unheard said kind => ?becomes⟩
  case again =>
    have act := takeReady_again (l := q.leg) again
    refine taken.trans (congrArg Host.Outcome.next ?_)
    rw [legEvent_same (by rw [act]; exact rest) (by rw [act]; rfl), act]
    rfl
  case kept =>
    have act := takeReady_kept record fresh unheard unsent
    have own := State.leg_modLeg s q.leg (fun x => { x with record := some (r.hearsReady f) })
    refine taken.trans (congrArg Host.Outcome.next ?_)
    rw [legEvent_same (by rw [act]; exact rest) (by rw [act, own]), act]
    rfl
  case becomes =>
    have act := takeReady_becomes record fresh unheard said
    refine becomesReady_of kind (fun waits => ?_) (fun turn c last rate agreed => ?_) (fun turn last quiet => ?_)
      (fun t port => ?_)
    · exact taken.trans (congrArg Host.Outcome.next (legEvent_readied act kind rest waits))
    · exact ⟨_, taken, legEvent_turned act turn c rest last agreed⟩
    · refine ⟨_, taken, attemptWon_legEvent (by decide) ?_ training rest quiet⟩
      have s_face : isCFace f = false := by
        rw [kind]
        exact decide_eq_false (by rw [show r.phase = .s from turn]; decide)
      exact act.trans (becomeReady_s turn s_face last)
    · show t = { t with port := s.port }
      rw [← port]

end Sys2Proof.Machine

/-! The running slot empties: step boundaries, suspensions and the stop of a job that ends (spec/05 R85, R91, R94 to R97). -/

namespace Sys2Proof.Machine

/-! ### The engine once its running job has left -/

/-- Once the running job has left, there is only a suspended MARGIN that resumes, or nothing; no result waits. -/
def Engine.isLast (e : Engine) : Prop :=
  e.held = []
  ∧ ((e.suspended.isSome = true ∧ e.urgentPending = false) ∨ (e.suspended = none ∧ ∀ g : FaceId, e.queue[g] = none))

theorem isLast_rewritten {e : Engine} (last : e.isLast) (fs : List FaceId) : (e.rewritten fs).isLast := by
  obtain ⟨held, suspended | ⟨suspended, empty⟩⟩ := last
  · refine ⟨held, .inl ⟨?_, suspended.2⟩⟩
    show (e.suspended.map _).isSome = true
    rw [Option.isSome_map]
    exact suspended.1
  · refine ⟨held, .inr ⟨?_, empty⟩⟩
    show e.suspended.map _ = none
    rw [suspended]
    rfl

theorem freed_rewritten (e : Engine) (f : FaceId) : (e.rewritten [f]).freed none = e.freed (some f) := by
  have slot : (e.suspended.map (fun x => if x.job.face ∈ [f] then (⟨x.job, 0, false⟩ : SuspendedJob) else x)).map
      (fun x => (⟨x.job, if (none : Option FaceId) = some x.job.face then 0 else x.stepsDone, 0, false⟩ : RunningJob)) =
      e.suspended.map (fun x => ⟨x.job, if some f = some x.job.face then 0 else x.stepsDone, 0, false⟩) := by
    cases e.suspended with
    | none => rfl
    | some x =>
      by_cases own : x.job.face = f
      · simp [own]
      · simp [own, Ne.symm own]
  exact congrArg (fun running => ({ e with running := running, suspended := none, held := [] } : Engine)) slot

theorem handHeld_none {s : State} (held : s.engine.held = []) : s.handHeld = s := by
  have empty : ({ s.engine with held := [] } : Engine) = s.engine := by rw [← held]
  unfold State.handHeld
  rw [held]
  exact congrArg (fun e => ({ s with engine := e } : State)) empty

/-- The choice after the last job: a suspended MARGIN resumes, or the engine stays IDLE (R91). -/
theorem choose_last {s : State} (last : s.engine.isLast) :
    (s.modEngine (fun e => { e with running := none })).choose = s.modEngine (fun e => e.freed none) := by
  obtain ⟨held, ⟨some_, quiet⟩ | ⟨suspended, empty⟩⟩ := last
  · obtain ⟨x, suspended⟩ := Option.isSome_iff_exists.mp some_
    have resumes := choose_resumes (s := s.modEngine (fun e => { e with running := none })) (x := x) rfl suspended quiet
    have engine : ({ s.engine with running := none } : Engine).resume x = s.engine.freed none := by
      unfold Engine.resume Engine.freed
      rw [suspended, held]
      rfl
    exact resumes.trans (congrArg (fun e => ({ s with engine := e } : State)) engine)
  · have idle : (s.modEngine (fun e => { e with running := none })).engineIdle := by
      refine ⟨rfl, suspended, fun f pending => ?_⟩
      have absent : (s.modEngine (fun e => { e with running := none })).queued f = none := empty f
      rw [absent] at pending
      exact Bool.noConfusion pending
    have engine : ({ s.engine with running := none } : Engine) = s.engine.freed none := by
      unfold Engine.freed
      dsimp only
      rw [suspended, held]
      rfl
    exact (choose_idle idle).trans (congrArg (fun e => ({ s with engine := e } : State)) engine)

theorem leaveSlot_last {s : State} (last : s.engine.isLast) : s.leaveSlot = s.modEngine (fun e => e.freed none) := by
  have held : (s.modEngine (fun e => { e with running := none })).engine.held = [] := last.1
  unfold State.leaveSlot
  rw [handHeld_none held, choose_last last]

/-! ### A job that ends -/

/-- What the stop of an ending job hands over: its own result, and those that waited for it (R96, R97). -/
def State.stopsEnding (s : State) (j : Job) : State :=
  { s with
    engine := s.engine.freed none
    resultOwed := owedAfter s.resultOwed (j :: s.engine.held)
    notices := (s.doneNotices (j :: s.engine.held)).foldl NoticeQueue.take s.notices }

theorem stopEnding_last {s : State} (j : Job) (last : ({ s.engine with held := [] } : Engine).isLast) :
    s.stopEnding j = s.stopsEnding j := by
  have hands : ((s.modEngine (fun e => { e with running := none })).handCancelled j).handHeld =
      State.modEngine ({ s with
        engine := { s.engine with held := [] }
        resultOwed := owedAfter s.resultOwed (j :: s.engine.held)
        notices := (s.doneNotices (j :: s.engine.held)).foldl NoticeQueue.take s.notices })
          (fun e => { e with running := none }) := by
    have held : ((s.modEngine (fun e => { e with running := none })).handCancelled j).engine.held = s.engine.held := by
      rw [handCancelled_eq]
      rfl
    have order (u : State) : u.handHeld = (u.modEngine (fun e => { e with held := [] })).handAll u.engine.held := rfl
    have swap (u : State) : (u.handCancelled j).modEngine (fun e => { e with held := [] }) =
        (u.modEngine (fun e => { e with held := [] })).handCancelled j := by
      rw [handCancelled_eq, handCancelled_eq]
      rfl
    rw [order, held, swap]
    exact handAll_eq (j :: s.engine.held) _
  unfold State.stopEnding
  rw [hands]
  exact choose_last (s := { s with
    engine := { s.engine with held := [] }
    resultOwed := owedAfter s.resultOwed (j :: s.engine.held)
    notices := (s.doneNotices (j :: s.engine.held)).foldl NoticeQueue.take s.notices }) last

/-! ### The next job -/

/-- The engine takes the job that it chooses (R91 step 4). -/
theorem choose_next {s : State} {j : Job} (free : s.engine.running = none) (resumes : s.engine.resumes = none)
    (next : s.engine.nextJob = some j) (unpinned : s.pinnedAtTaking j = false) :
    s.choose = s.modEngine (fun e => { e.after j with running := some ⟨j, 0, 0, false⟩ }) := by
  simp only [State.choose, State.chooseWithin, free, resumes, next, dequeue_after, unpinned]
  rfl

/-- The SWEEP that stands first from the URGENT pointer is the next job, and no suspended MARGIN resumes before it. -/
theorem nextJob_urgent {e : Engine} {f : FaceId} {j : Job}
    (first : (facesFrom e.urgentPointer).find? (pendingKind e .sweep) = some f) (queued : e.queue[f] = some j) :
    e.nextJob = some j ∧ e.resumes = none ∧ j.kind = .sweep := by
  obtain ⟨j', queued', kind, unmasked⟩ := (pendingKind_iff e .sweep f).mp (List.find?_some first)
  obtain rfl : j = j' := Option.some.inj (queued.symm.trans queued')
  refine ⟨?_, ?_, kind⟩
  · have offers : e.offered .sweep = some j := by
      unfold Engine.offered
      rw [show e.pointer .sweep = e.urgentPointer from rfl, first]
      exact queued
    rw [nextJob_offered, offers, Option.some_or]
  · have pending : e.urgentPending = true := List.any_eq_true.mpr ⟨f, mem_allFaces f, List.find?_some first⟩
    unfold Engine.resumes
    rw [if_pos pending]

/-! ### Step boundaries -/

section
variable {s : State} {r : RunningJob}

theorem stepBoundary_ends (running : s.engine.running = some r) (ending : r.cancelling = true) :
    exec .tuneStepBoundary s = .next (s.stopEnding r.job) := by
  have step : exec .tuneStepBoundary s = execTuneStepBoundary s := rfl
  rw [step]
  unfold execTuneStepBoundary
  rw [running]
  simp only [ending, if_true]

theorem completion_ends (found : Finding) (running : s.engine.running = some r) (ending : r.cancelling = true) :
    exec (.jobCompletion found) s = .next (s.stopEnding r.job) := by
  have step : exec (.jobCompletion found) s = execJobCompletion found s := rfl
  rw [step]
  unfold execJobCompletion
  rw [running]
  simp only [ending, if_true]

/-- A boundary of a job that goes on, or is suspended (R85, R94). -/
theorem stepBoundary_goes (running : s.engine.running = some r) (going : r.cancelling = false)
    (more : r.stepsDone + 1 < jobSteps r.job.kind) :
    exec .tuneStepBoundary s = .next (if s.suspensionAhead r = some 1 then s.suspendRunning r.job (r.stepsDone + 1)
      else s.modEngine (fun e => { e with running := some ⟨r.job, r.stepsDone + 1, r.sinceStart + 1, false⟩ })) := by
  have step : exec .tuneStepBoundary s = execTuneStepBoundary s := rfl
  have open_ : ¬r.stepsDone + 1 ≥ jobSteps r.job.kind := Nat.not_le.mpr more
  rw [step]
  unfold execTuneStepBoundary
  rw [running]
  simp only [going, open_, if_false, Bool.false_eq_true]

theorem suspensionAhead_one : s.suspensionAhead r = some 1 ↔
    r.job.kind = .margin ∧ s.engine.urgentPending = true ∧ 4 ≤ r.sinceStart + 1 ∧ r.stepsDone + 1 < 32 := by
  have grace : graceSteps = 4 := rfl
  have steps : jobSteps .margin = 32 := rfl
  unfold State.suspensionAhead
  simp only [grace, steps]
  by_cases near : 4 ≤ r.sinceStart + 1
  · have one : max 1 (4 - r.sinceStart) = 1 := by omega
    simp only [one, near, true_and, Bool.and_eq_true, beq_iff_eq, decide_eq_true_eq, ite_eq_left_iff, reduceCtorEq, imp_false,
      not_not, and_assoc]
  · have far : max 1 (4 - r.sinceStart) ≠ 1 := by omega
    constructor
    · intro ahead
      split at ahead
      · exact absurd (Option.some.inj ahead) far
      · cases ahead
    · exact fun h => absurd h.2.2.1 near

end

/-- Settles O30, by what a boundary does with a job that goes on, one that is suspended and one that ends. -/
theorem stepBoundaries : Obligations.StepBoundaries := by
  refine fun s r running => ⟨fun going more stays => ?goes, fun going margin more grace f j first queued own pinned => ?suspends,
    fun ending last => ?stops⟩
  case goes =>
    refine (stepBoundary_goes running going more).trans (congrArg Host.Outcome.next (if_neg fun ahead => ?_))
    obtain ⟨margin, urgent, grace, -⟩ := suspensionAhead_one.mp ahead
    rcases stays with other | quiet | near
    · exact other margin
    · rw [quiet] at urgent
      exact Bool.noConfusion urgent
    · omega
  case suspends =>
    have urgent : s.engine.urgentPending = true :=
      List.any_eq_true.mpr ⟨f, mem_allFaces f, List.find?_some first⟩
    have ahead := suspensionAhead_one.mpr ⟨margin, urgent, grace, more⟩
    obtain ⟨next, resumes, kind⟩ := nextJob_urgent first queued
    refine (stepBoundary_goes running going (by rw [margin]; exact more)).trans (congrArg Host.Outcome.next ?_)
    rw [if_pos ahead]
    subst own
    have unpinned : s.pinnedAtTaking j = false := by
      unfold State.pinnedAtTaking
      rw [pinned, Bool.and_false]
    refine (choose_next (s := s.modEngine (fun e => { e with
      running := none, suspended := some ⟨r.job, r.stepsDone + 1, true⟩ })) (j := j) rfl ?_ next unpinned).trans ?_
    · unfold Engine.resumes
      exact if_pos urgent
    · unfold Engine.after
      rw [kind]
      rfl
  case stops =>
    have stops := stopEnding_last r.job (s := s) last
    have same : s.stopsEnding r.job = { s with
        engine := s.engine.freed none
        resultOwed := (r.job :: s.engine.held).foldl (fun o j =>
          if j.kind = .sweep ∧ j.requester = .leg then setDrop o j.face.val else o) s.resultOwed
        notices := (r.job :: s.engine.held).foldl (fun n j =>
          if j.requester = .switch then n.take (.jobDone s.clock.stamp j.tag j.face .cancelled none) else n) s.notices } := by
      have owed : owedAfter s.resultOwed (r.job :: s.engine.held) = (r.job :: s.engine.held).foldl (fun o j =>
          if j.kind = .sweep ∧ j.requester = .leg then setDrop o j.face.val else o) s.resultOwed := by
        unfold owedAfter Job.isLegSweep
        simp only [Bool.and_eq_true, beq_iff_eq]
      have notices : (s.doneNotices (r.job :: s.engine.held)).foldl NoticeQueue.take s.notices =
          (r.job :: s.engine.held).foldl (fun n j =>
            if j.requester = .switch then n.take (.jobDone s.clock.stamp j.tag j.face .cancelled none) else n) s.notices := by
        unfold State.doneNotices
        rw [List.foldl_map, List.foldl_filter]
        simp only [beq_iff_eq]
      unfold State.stopsEnding
      rw [owed, notices]
    have boundary := stepBoundary_ends running ending
    have completion (found : Finding) := completion_ends found running ending
    rw [stops, same] at boundary completion
    exact ⟨boundary, completion⟩

end Sys2Proof.Machine

/-! SWEEP results (spec/03 R57), and SWEEPs that complete (spec/05 R98, R99). -/

namespace Sys2Proof.Machine

/-! ### The leg controller takes a SWEEP result -/

/-- The record once the part has said READY for a SWEEP that has completed (R57). -/
def TrainRecord.sweepReady (r : TrainRecord) (f : FaceId) : TrainRecord :=
  { r with sweepOutstanding := setDrop r.sweepOutstanding f.val, readySent := setAdd r.readySent f.val }

section
variable {s : State} {f : FaceId} {l : LegId} {rec : TrainRecord} {res : SweepResult}

/-- The cause a LEG STATE notice of a SWEEP result's taking would carry if the new state gave none. -/
theorem sweepResult_leg (leg : s.faceLeg f = some l) (res : SweepResult) :
    s.sweepResult f res = s.legEvent l (.train .first) (fun s => s.takeSweepResult f res) := by
  unfold State.sweepResult
  rw [leg]

theorem sweepResult_same {t : State} (rest : s.tableAtRest) (taken : s.takeSweepResult f res = t) (table : t.table = s.table)
    (legs : t.legs = s.legs) : s.sweepResult f res = t := by
  unfold State.sweepResult
  split
  · rename_i l leg
    rw [legEvent_same, taken]
    · rw [State.tableAtRest, taken, table]
      exact rest
    · unfold State.leg
      rw [taken, legs]
  · exact taken

/-- A result that is owed is discarded (R47, R57). -/
theorem sweepResult_owed (rest : s.tableAtRest) (owed : setHas s.resultOwed f.val = true) : s.sweepResult f res = s.clearOwed f :=
  sweepResult_same rest (if_pos owed) rfl rfl

/-- A result that nothing waits for changes nothing (R57). -/
theorem sweepResult_unasked (rest : s.tableAtRest) (free : setHas s.resultOwed f.val = false)
    (unasked : ∀ (l : LegId) (rec : TrainRecord), s.faceLeg f = some l → (s.leg l).record = some rec →
      setHas rec.sweepOutstanding f.val = false) : s.sweepResult f res = s := by
  refine sweepResult_same rest ?_ rfl rfl
  unfold State.takeSweepResult
  rw [free, if_neg Bool.false_ne_true]
  split
  · rfl
  · rename_i l leg
    have flag : s.hasFlag l f TrainRecord.sweepOutstanding = false := by
      unfold State.hasFlag
      split
      · rename_i rec record
        exact unasked l rec leg record
      · rfl
    rw [flag, if_neg Bool.false_ne_true]

/-- The leg's training record is `rec`. -/
def State.recording (s : State) (l : LegId) (rec : TrainRecord) : State := s.modLeg l (fun x => { x with record := some rec })

theorem recording_modRecord (g : TrainRecord → TrainRecord) : (s.recording l rec).modRecord l g = s.recording l (g rec) := by
  have own : ((s.recording l rec).leg l).record = some rec := congrArg Leg.record (State.leg_modLeg s l _)
  exact (modRecord_eq own g).trans
    (State.modLeg_modLeg s l (fun x => { x with record := some rec }) (fun x => { x with record := some (g rec) }))

/-- A SWEEP that is asked for and has found a setting, or that was PINNED: the part says READY (R57). -/
theorem takeSweepResult_ready (free : setHas s.resultOwed f.val = false) (leg : s.faceLeg f = some l)
    (record : (s.leg l).record = some rec) (asked : setHas rec.sweepOutstanding f.val = true) (found : res ≠ .noConverge) :
    s.takeSweepResult f res =
      if setHas rec.readyReceived f.val = true then (s.saysReady l f (rec.sweepReady f)).becomeReady l f
      else s.saysReady l f (rec.sweepReady f) := by
  have flag : s.hasFlag l f TrainRecord.sweepOutstanding = true := by
    unfold State.hasFlag
    rw [record]
    exact asked
  have first : s.modRecord l (fun r => { r with sweepOutstanding := setDrop r.sweepOutstanding f.val }) =
      s.recording l { rec with sweepOutstanding := setDrop rec.sweepOutstanding f.val } := modRecord_eq record _
  have ready : s.takeSweepResult f res =
      (s.modRecord l (fun r => { r with sweepOutstanding := setDrop r.sweepOutstanding f.val })).partReady l f := by
    unfold State.takeSweepResult
    rw [free, leg]
    simp only [flag, Bool.false_eq_true, if_false, if_true]
    cases res with
    | noConverge => exact absurd rfl found
    | converged | pinned => rfl
  rw [ready, first]
  have said : (State.modRecord ((s.recording l { rec with sweepOutstanding := setDrop rec.sweepOutstanding f.val }).send f .ready) l
        (fun r => { r with readySent := setAdd r.readySent f.val })) = s.saysReady l f (rec.sweepReady f) :=
    congrArg (fun u => State.send u f .ready) (recording_modRecord _)
  have heard : (s.saysReady l f (rec.sweepReady f)).hasFlag l f TrainRecord.readyReceived = setHas rec.readyReceived f.val := by
    have record' : ((s.saysReady l f (rec.sweepReady f)).leg l).record = some (rec.sweepReady f) :=
      congrArg Leg.record (State.leg_modLeg s l _)
    unfold State.hasFlag
    rw [record']
    rfl
  unfold State.partReady
  dsimp only
  rw [said, heard]

theorem sweepResult_said (rest : s.tableAtRest) (free : setHas s.resultOwed f.val = false) (leg : s.faceLeg f = some l)
    (record : (s.leg l).record = some rec) (asked : setHas rec.sweepOutstanding f.val = true) (found : res ≠ .noConverge)
    (unheard : setHas rec.readyReceived f.val = false) : s.sweepResult f res = s.saysReady l f (rec.sweepReady f) := by
  have taken := takeSweepResult_ready free leg record asked found
  rw [if_neg (by rw [unheard]; decide)] at taken
  have own : (s.saysReady l f (rec.sweepReady f)).leg l = { s.leg l with record := some (rec.sweepReady f) } :=
    State.leg_modLeg s l _
  rw [sweepResult_leg leg, legEvent_same, taken]
  · rw [taken]
    exact rest
  · rw [taken, own]

end

/-! ### What lies outside a READY -/

section
variable {s t : State} {l : LegId} {f : FaceId} {rec : TrainRecord}

/-- The S phase's start touches neither the engine nor the port. -/
theorem turnedPhase_aside {rate : Rate} (h : s.turnedPhase t l f rec rate) (e : Engine) (p : Port) :
    ({ s with engine := e, port := p } : State).turnedPhase { t with engine := e, port := p } l f rec rate := by
  obtain ⟨leg, statuses, sent, paths, errors, notices, -, owed, -⟩ := h
  exact ⟨leg, statuses, sent, paths, errors, notices, rfl, owed, rfl⟩

/-- Neither does a success. -/
theorem attemptWon_aside (h : s.attemptWon t l f rec) (e : Engine) (p : Port) :
    ({ s with engine := e, port := p } : State).attemptWon { t with engine := e, port := p } l f rec := by
  obtain ⟨leg, paths, idle, sent, owed, ⟨errors, inFlight⟩, notices, legs, -, -⟩ := h
  have told := told_of_same (s := s) (u := { s with engine := e, port := p }) (s.successReports l) rfl rfl rfl rfl
  refine ⟨leg, paths, idle, sent, owed, ⟨errors.trans ?_, inFlight.trans ?_⟩, notices, legs, rfl, rfl⟩
  · exact (congrArg State.errors told).symm
  · exact (congrArg State.inFlight told).symm

end

end Sys2Proof.Machine

/-! SWEEPs that complete (spec/05 R98, R99). -/

namespace Sys2Proof.Machine

/-! ### The delivery of a found setting -/

theorem restartSuspended_eq (s : State) (f : FaceId) : s.restartSuspended f = s.modEngine (fun e => e.rewritten [f]) := by
  unfold State.restartSuspended Engine.rewritten
  simp only [List.mem_singleton]

section
variable {s : State} {f : FaceId}

theorem deliverRx_settles (settles : s.settlesOnCompletion f = true) (rx : Option RxHalf) : s.deliverRx f rx =
    (s.modFace f Face.swapped).modEngine (fun e => e.rewritten [f]) := by
  unfold State.deliverRx
  rw [if_pos settles]
  exact restartSuspended_eq _ f

theorem deliverRx_none (stays : s.settlesOnCompletion f = false) : s.deliverRx f none = s :=
  if_neg (Bool.eq_false_iff.mp stays)

theorem deliverRx_pinned (stays : s.settlesOnCompletion f = false) (pinned : (s.face f).pinned = true) (rx : RxHalf) :
    s.deliverRx f (some rx) = s := by
  unfold State.deliverRx
  rw [if_neg (Bool.eq_false_iff.mp stays)]
  exact if_pos pinned

theorem deliverRx_written (stays : s.settlesOnCompletion f = false) (open_ : (s.face f).pinned = false) (rx : RxHalf) :
    s.deliverRx f (some rx) =
      (s.modFace f (fun x => { x with active := ⟨x.active.tx, rx⟩ })).modEngine (fun e => e.rewritten [f]) := by
  unfold State.deliverRx
  rw [if_neg (Bool.eq_false_iff.mp stays)]
  exact (if_neg (Bool.eq_false_iff.mp open_)).trans (restartSuspended_eq _ f)

theorem deliverRx_footprint (rx : Option RxHalf) :
    s.deliverRx f rx = { s with faces := (s.deliverRx f rx).faces, engine := (s.deliverRx f rx).engine } := by
  unfold State.deliverRx
  split
  · rfl
  · split
    · rfl
    · split <;> rfl

theorem isLast_deliverRx (last : s.engine.isLast) (rx : Option RxHalf) : (s.deliverRx f rx).engine.isLast := by
  cases settles : s.settlesOnCompletion f with
  | true =>
    rw [deliverRx_settles settles]
    exact isLast_rewritten last [f]
  | false =>
    cases rx with
    | none =>
      rw [deliverRx_none settles]
      exact last
    | some rx =>
      cases pinned : (s.face f).pinned with
      | true =>
        rw [deliverRx_pinned settles pinned]
        exact last
      | false =>
        rw [deliverRx_written settles pinned]
        exact isLast_rewritten last [f]

/-- Whether the completion on a face is a settle point, as the statements spell it (R78). -/
theorem settles_false (h : ¬((s.face f).pending = true ∧ (s.face f).swapOnCompletion = true ∧ s.path (facePath f) = .passing)) :
    s.settlesOnCompletion f = false := by
  rw [← settlesOnCompletion_iff] at h
  exact Bool.eq_false_iff.mpr h

/-- The state that a job leaves which has found a setting, once the running slot is free. -/
def State.foundLeft (s : State) (f : FaceId) (rx : RxHalf) : State :=
  if (s.face f).pending = true ∧ (s.face f).swapOnCompletion = true ∧ s.path (facePath f) = .passing then
    (s.modEngine (fun e => e.freed (some f))).modFace f Face.swapped
  else if (s.face f).pinned = true then s.modEngine (fun e => e.freed none)
  else (s.modEngine (fun e => e.freed (some f))).modFace f (fun x => { x with active := ⟨x.active.tx, rx⟩ })

/-- The same for a job that has found none. -/
def State.missedLeft (s : State) (f : FaceId) : State :=
  if (s.face f).pending = true ∧ (s.face f).swapOnCompletion = true ∧ s.path (facePath f) = .passing then
    (s.modEngine (fun e => e.freed (some f))).modFace f Face.swapped
  else s.modEngine (fun e => e.freed none)

theorem deliverRx_freed_some (rx : RxHalf) :
    (s.deliverRx f (some rx)).modEngine (fun e => e.freed none) = s.foundLeft f rx := by
  have engine := freed_rewritten s.engine f
  unfold State.foundLeft
  split
  · rename_i swaps
    rw [deliverRx_settles ((settlesOnCompletion_iff s f).mpr swaps)]
    exact congrArg (fun e => State.modFace { s with engine := e } f Face.swapped) engine
  · rename_i stays
    have settles := settles_false stays
    split
    · rename_i pinned
      rw [deliverRx_pinned settles pinned]
    · rename_i open_
      rw [deliverRx_written settles (Bool.eq_false_iff.mpr open_)]
      exact congrArg (fun e => State.modFace { s with engine := e } f (fun x => { x with active := ⟨x.active.tx, rx⟩ })) engine

theorem deliverRx_freed_none : (s.deliverRx f none).modEngine (fun e => e.freed none) = s.missedLeft f := by
  have engine := freed_rewritten s.engine f
  unfold State.missedLeft
  split
  · rename_i swaps
    rw [deliverRx_settles ((settlesOnCompletion_iff s f).mpr swaps)]
    exact congrArg (fun e => State.modFace { s with engine := e } f Face.swapped) engine
  · rename_i stays
    rw [deliverRx_none (settles_false stays)]

end

/-! ### Completions -/

section
variable {s : State} {r : RunningJob} {found : Finding}

theorem completion_done (running : s.engine.running = some r) (going : r.cancelling = false) (valid : found.valid = true)
    (stays : s.suspensionAhead r = none) : exec (.jobCompletion found) s = .next (s.completeJob r.job found) := by
  have step : exec (.jobCompletion found) s = execJobCompletion found s := rfl
  rw [step]
  unfold execJobCompletion
  rw [running]
  simp only [going, valid, stays, Bool.false_eq_true, Bool.not_true, if_false]

theorem suspensionAhead_other (kind : r.job.kind ≠ .margin) : s.suspensionAhead r = none := by
  have other : (r.job.kind == .margin) = false := beq_eq_false_iff_ne.mpr kind
  unfold State.suspensionAhead
  rw [other]
  rfl

/-- The leaving of the slot after a delivery and what a leg controller has made of its result. -/
theorem leaveSlot_same {u t : State} (last : u.engine.isLast) (same : t.engine = u.engine) :
    t.leaveSlot = { t with engine := u.engine.freed none } := by
  rw [leaveSlot_last (by rw [same]; exact last)]
  exact congrArg (fun e => ({ t with engine := e.freed none } : State)) same

theorem sweep_done (running : s.engine.running = some r) (going : r.cancelling = false) (kind : r.job.kind = .sweep)
    (valid : found.valid = true) : exec (.jobCompletion found) s =
      .next (((s.deliverRx r.job.face found.rx).sweepResult r.job.face
        (if found.rx.isSome then .converged else .noConverge)).leaveSlot) := by
  refine (completion_done running going valid (suspensionAhead_other (by rw [kind]; decide))).trans ?_
  unfold State.completeJob
  rw [kind]
  rfl

end

/-! ### A SWEEP result with which the face becomes READY -/

section
variable {u : State} {f : FaceId} {l : LegId} {rec : TrainRecord} {res : SweepResult}

/-- A SWEEP result with which the face becomes READY, in a step that afterwards settles the engine and the port. -/
theorem sweepResult_becomesReady {e : Engine} {p : Port} {post answered : State → State} (rest : u.tableAtRest)
    (free : setHas u.resultOwed f.val = false) (leg : u.faceLeg f = some l) (record : (u.leg l).record = some rec)
    (training : (u.leg l).state = .training) (asked : setHas rec.sweepOutstanding f.val = true) (found : res ≠ .noConverge)
    (heard : setHas rec.readyReceived f.val = true) (kind : isCFace f = decide (rec.phase = .c))
    (after : ∀ t : State, t.engine = u.engine → t.port = u.port → post t = answered { t with engine := e, port := p })
    (ports : ∀ t : State, t.port = p → answered t = { t with port := (answered { u with engine := e, port := p }).port }) :
    ({ u with engine := e, port := p } : State).becomesReady l f (rec.sweepReady f) answered
      (.next (post (u.sweepResult f res))) := by
  have taken := takeSweepResult_ready free leg record asked found
  rw [if_pos heard] at taken
  have result := sweepResult_leg leg res
  refine becomesReady_of kind (fun waits => ?_) (fun turn c last rate agreed => ?_) (fun turn last quiet => ?_) ports
  · have readied := legEvent_readied (e := .train .first) (F := fun s => s.takeSweepResult f res) taken kind rest waits
    rw [result, readied]
    exact congrArg Host.Outcome.next (after _ rfl rfl)
  · have turned := legEvent_turned (e := .train .first) (F := fun s => s.takeSweepResult f res) taken turn c rest last agreed
    rw [result]
    generalize u.legEvent l (.train .first) (fun s => s.takeSweepResult f res) = t at *
    obtain ⟨-, -, -, -, -, -, engine, -, port⟩ := id turned
    exact ⟨_, congrArg Host.Outcome.next (after t engine port), turnedPhase_aside turned e p⟩
  · have s_face : isCFace f = false := by
      rw [kind]
      exact decide_eq_false (by rw [show rec.phase = .s from turn]; decide)
    have won := attemptWon_legEvent (s := u) (e := .train .first) (F := fun s => s.takeSweepResult f res) (by decide)
      (taken.trans (becomeReady_s (s := u) turn s_face last)) training rest quiet
    rw [result]
    generalize u.legEvent l (.train .first) (fun s => s.takeSweepResult f res) = t at *
    obtain ⟨-, -, -, -, -, -, -, -, engine, port⟩ := id won
    exact ⟨_, congrArg Host.Outcome.next (after t engine port), attemptWon_aside won e p⟩

end

/-! ### What a completed SWEEP leaves -/

section
variable {s u c : State} {f : FaceId} {rx : Option RxHalf} {res : SweepResult}

/-- What the leg controller makes of the result leaves the slot's choice as it was. -/
theorem sweepLeft {t : State} (last : s.engine.isLast) (result : (s.deliverRx f rx).sweepResult f res = t)
    (engine : t.engine = (s.deliverRx f rx).engine) : ((s.deliverRx f rx).sweepResult f res).leaveSlot =
      { t with engine := (s.deliverRx f rx).engine.freed none } := by
  rw [result]
  exact leaveSlot_same (isLast_deliverRx last rx) engine

theorem deliverRx_same : (s.deliverRx f rx).table = s.table ∧ (s.deliverRx f rx).resultOwed = s.resultOwed
    ∧ (∀ k : LegId, (s.deliverRx f rx).leg k = s.leg k) ∧ (s.deliverRx f rx).faceLeg f = s.faceLeg f := by
  rw [deliverRx_footprint]
  exact ⟨rfl, rfl, fun _ => rfl, rfl⟩

theorem sweepLeft_owed (last : s.engine.isLast) (rest : s.tableAtRest) (owed : setHas s.resultOwed f.val = true) :
    ((s.deliverRx f rx).sweepResult f res).leaveSlot =
      { (s.deliverRx f rx).modEngine (fun e => e.freed none) with resultOwed := setDrop s.resultOwed f.val } := by
  obtain ⟨table, owed', -, -⟩ := deliverRx_same (s := s) (f := f) (rx := rx)
  have result := sweepResult_owed (s := s.deliverRx f rx) (res := res) (f := f) (table.trans rest) (by rw [owed']; exact owed)
  rw [sweepLeft last result rfl, ← owed']
  rfl

theorem sweepLeft_unasked (last : s.engine.isLast) (rest : s.tableAtRest) (free : setHas s.resultOwed f.val = false)
    (unasked : ∀ (l : LegId) (rec : TrainRecord), s.faceLeg f = some l → (s.leg l).record = some rec →
      setHas rec.sweepOutstanding f.val = false) : ((s.deliverRx f rx).sweepResult f res).leaveSlot =
      (s.deliverRx f rx).modEngine (fun e => e.freed none) := by
  obtain ⟨table, owed', legs, leg⟩ := deliverRx_same (s := s) (f := f) (rx := rx)
  have result := sweepResult_unasked (s := s.deliverRx f rx) (res := res) (f := f) (table.trans rest) (by rw [owed']; exact free)
    (fun l rec own record => unasked l rec (leg.symm.trans own) (by rw [← legs]; exact record))
  rw [sweepLeft last result rfl]
  rfl

theorem sweepLeft_said {l : LegId} {rec : TrainRecord} (last : s.engine.isLast) (rest : s.tableAtRest)
    (free : setHas s.resultOwed f.val = false) (own : s.faceLeg f = some l) (record : (s.leg l).record = some rec)
    (asked : setHas rec.sweepOutstanding f.val = true) (found : res ≠ .noConverge)
    (unheard : setHas rec.readyReceived f.val = false) : ((s.deliverRx f rx).sweepResult f res).leaveSlot =
      ((s.deliverRx f rx).modEngine (fun e => e.freed none)).saysReady l f (rec.sweepReady f) := by
  obtain ⟨table, owed', legs, leg⟩ := deliverRx_same (s := s) (f := f) (rx := rx)
  have result := sweepResult_said (s := s.deliverRx f rx) (res := res) (f := f) (table.trans rest) (by rw [owed']; exact free)
    (leg.trans own) (by rw [legs]; exact record) asked found unheard
  rw [sweepLeft last result rfl]
  rfl

theorem sweepLeft_becomes {l : LegId} {rec : TrainRecord} (last : s.engine.isLast) (rest : s.tableAtRest)
    (free : setHas s.resultOwed f.val = false) (own : s.faceLeg f = some l) (record : (s.leg l).record = some rec)
    (training : (s.leg l).state = .training) (asked : setHas rec.sweepOutstanding f.val = true) (found : res ≠ .noConverge)
    (heard : setHas rec.readyReceived f.val = true) (kind : isCFace f = decide (rec.phase = .c)) :
    ((s.deliverRx f rx).modEngine (fun e => e.freed none)).becomesReady l f (rec.sweepReady f) id
      (.next ((s.deliverRx f rx).sweepResult f res).leaveSlot) := by
  obtain ⟨table, owed', legs, leg⟩ := deliverRx_same (s := s) (f := f) (rx := rx)
  have isLast := isLast_deliverRx (f := f) last rx
  generalize s.deliverRx f rx = u at *
  refine sweepResult_becomesReady (u := u) (e := u.engine.freed none) (p := u.port) (post := State.leaveSlot) (table.trans rest)
    (by rw [owed']; exact free) (leg.trans own) (by rw [legs]; exact record) (by rw [legs]; exact training) asked found heard kind
    (fun t engine port => ?_) (fun t port => ?_)
  · rw [leaveSlot_same isLast engine, ← port]
    rfl
  · show t = { t with port := u.port }
    rw [← port]

end

/-- Settles O32, by the delivery, the leg controller's taking of the result, and the free slot. -/
theorem sweepCompletions : Obligations.SweepCompletions := by
  intro s r rx m running going last valid rest kind leg f swaps swapped written kept converged missed
  have found := sweep_done (found := ⟨some rx, m⟩) running going kind valid
  have missing := sweep_done (found := ⟨none, m⟩) running going kind rfl
  have freedFound : (s.deliverRx f (some rx)).modEngine (fun e => e.freed none) = converged := deliverRx_freed_some rx
  have freedMissing : (s.deliverRx f none).modEngine (fun e => e.freed none) = missed := deliverRx_freed_none
  refine ⟨fun owed => ⟨?_, ?_⟩, fun free unasked => ⟨?_, ?_⟩, fun l rec own record free asked => ⟨fun unheard => ?_,
    fun q _ inside leg heard face => ?_⟩⟩
  · rw [← freedFound]
    exact found.trans (congrArg Host.Outcome.next (sweepLeft_owed last rest owed))
  · rw [← freedMissing]
    exact missing.trans (congrArg Host.Outcome.next (sweepLeft_owed last rest owed))
  · rw [← freedFound]
    exact found.trans (congrArg Host.Outcome.next (sweepLeft_unasked last rest free unasked))
  · rw [← freedMissing]
    exact missing.trans (congrArg Host.Outcome.next (sweepLeft_unasked last rest free unasked))
  · rw [← freedFound]
    exact found.trans (congrArg Host.Outcome.next
      (sweepLeft_said (res := .converged) last rest free own record asked (by decide) unheard))
  · rw [← freedFound, found]
    obtain ⟨-, -, training, -, -⟩ := inside
    rw [leg] at training
    exact sweepLeft_becomes (res := .converged) last rest free own record training asked (by decide) heard face

end Sys2Proof.Machine

/-! SET TUNE MASK (spec/05 R93). -/

namespace Sys2Proof.Machine

/-- The engine with another mask (R93). -/
def State.withMask (s : State) (fs : FaceSet) : State := s.modEngine (fun e => { e with mask := fs })

section
variable {s : State} {tag : Byte} {fs : FaceSet}

/-- The state in which the request's block acts. -/
def State.maskTaken (s : State) (tag : Byte) (fs : FaceSet) : State :=
  s.acceptWrite (requestFrame tag 0x42#8 (le16 fs.toNat))

theorem setTuneMask_chooses (hport : s.takesRequests) : exec (.setTuneMask tag (le16 fs.toNat)) s =
    .next (({ ((s.maskTaken tag fs).withMask fs).choose with port := s.port } : State).answered tag 0x42#8 (le16 fs.toNat) .done []) := by
  obtain ⟨ground, -⟩ := takingKept_choose ((s.maskTaken tag fs).withMask fs)
  obtain ⟨-, -, -, -, port, -⟩ := ground
  exact takeRequest_acted (act := setTuneMaskAct _) hport (by decide : 2 ≤ 128)
    (withOperand_some _ _ _ fs (faceSetBody_le16 fs)) port

theorem setTuneMask_of {t : State} (hport : s.takesRequests)
    (chooses : ((s.maskTaken tag fs).withMask fs).choose = t.acceptWrite (requestFrame tag 0x42#8 (le16 fs.toNat))) :
    exec (.setTuneMask tag (le16 fs.toNat)) s = .next (t.answered tag 0x42#8 (le16 fs.toNat) .done []) := by
  refine takeRequest_taken (act := setTuneMaskAct _) hport (by decide : 2 ≤ 128)
    ((withOperand_some _ _ _ fs (faceSetBody_le16 fs)).trans ?_) (.inr rfl)
  exact congrArg (fun u => Answer.plain u .done) chooses

end

/-! ### The only job of an unmasked face is for a pinned face -/

section
variable {s : State} {j : Job}

/-- Nothing else than the job is pending on an unmasked face, and the engine is free. -/
structure State.onlyJob (s : State) (j : Job) : Prop where
  free : s.engine.running = none
  suspended : s.engine.suspended = none
  queued : s.queued j.face = some j
  unmasked : setHas s.engine.mask j.face.val = false
  masked : ∀ g : FaceId, g ≠ j.face → (s.queued g).isSome = true → setHas s.engine.mask g.val = true
  pinned : (s.face j.face).pinned = true

theorem State.onlyJob.takes (only : s.onlyJob j) : s.engine.takes j :=
  takes_only only.queued only.unmasked only.suspended only.masked

theorem State.onlyJob.allMasked (only : s.onlyJob j) : (s.engine.after j).allMasked := by
  intro f pending
  have queue : (s.engine.after j).queue[f] = if f = j.face then none else s.engine.queue[f] :=
    State.queued_setQueued_eq s j.face f none
  rw [queue] at pending
  by_cases same : f = j.face
  · rw [if_pos same] at pending
    exact Bool.noConfusion pending
  · rw [if_neg same] at pending
    exact only.masked f same pending

/-- The state once the job has completed PINNED, before its result is handed over (R78, R85). -/
def State.pinnedTaken (s : State) (j : Job) : State := (s.modEngine (fun e => e.after j)).pinnedDone j.face

theorem engine_pinnedTaken : (s.pinnedTaken j).engine = s.engine.after j := engine_pinnedDone _ _

theorem choose_only_trim (only : s.onlyJob j) (kind : j.kind = .trim) : s.choose = s.pinnedTaken j := by
  have plain : j.isLegSweep = false := by
    unfold Job.isLegSweep
    rw [kind]
    rfl
  have done := completePinned_eq (s := s.modEngine (fun e => e.after j)) only.suspended j
  rw [if_neg (by rw [plain]; decide)] at done
  rw [choose_pinned only.free only.takes (by rw [kind]; decide) only.pinned, done]
  refine chooseWithin_masked ?_ ?_ 16
  · exact (congrArg Engine.suspended engine_pinnedTaken).trans only.suspended
  · have engine := engine_pinnedTaken (s := s) (j := j)
    unfold State.pinnedTaken at engine
    rw [engine]
    exact only.allMasked

theorem choose_only_sweep (only : s.onlyJob j) (kind : j.kind = .sweep) (requester : j.requester = .leg) :
    s.choose = ((s.pinnedTaken j).sweepResult j.face .pinned).chooseWithin 16 := by
  have leg : j.isLegSweep = true := by
    unfold Job.isLegSweep
    rw [kind, requester]
    rfl
  have done := completePinned_eq (s := s.modEngine (fun e => e.after j)) only.suspended j
  rw [if_pos leg] at done
  rw [choose_pinned only.free only.takes (by rw [kind]; decide) only.pinned, done]
  rfl

theorem chooseWithin_after {t : State} (only : s.onlyJob j) (engine : t.engine = s.engine.after j) (n : Nat) :
    t.chooseWithin n = t := by
  refine chooseWithin_masked ?_ ?_ n
  · rw [engine]
    exact only.suspended
  · rw [engine]
    exact only.allMasked

/-- The result of the job leaves the engine as it was: nothing more is chosen. -/
theorem choose_only_result {t : State} (only : s.onlyJob j) (kind : j.kind = .sweep) (requester : j.requester = .leg)
    (result : (s.pinnedTaken j).sweepResult j.face .pinned = t) (engine : t.engine = (s.pinnedTaken j).engine) :
    s.choose = t := by
  rw [choose_only_sweep only kind requester, result]
  exact chooseWithin_after only (engine.trans engine_pinnedTaken) 16

theorem pinnedTaken_same : (s.pinnedTaken j).table = s.table ∧ (s.pinnedTaken j).resultOwed = s.resultOwed
    ∧ (∀ k : LegId, (s.pinnedTaken j).leg k = s.leg k) ∧ (∀ f : FaceId, (s.pinnedTaken j).faceLeg f = s.faceLeg f)
    ∧ (s.pinnedTaken j).port = s.port := by
  unfold State.pinnedTaken State.pinnedDone
  split
  · exact ⟨rfl, rfl, fun _ => rfl, fun _ => rfl, rfl⟩
  · exact ⟨rfl, rfl, fun _ => rfl, fun _ => rfl, rfl⟩

/-- As the statements spell it. -/
theorem pinnedTaken_eq : s.pinnedTaken j =
    if (s.face j.face).pending = true ∧ (s.face j.face).swapOnCompletion = true ∧ s.path (facePath j.face) = .passing then
      (s.modEngine (fun e => e.after j)).modFace j.face Face.swapped
    else s.modEngine (fun e => e.after j) :=
  if_congr (settlesOnCompletion_iff (s.modEngine (fun e => e.after j)) j.face) rfl rfl

end

/-- Settles O29, by what the engine chooses under the new mask. -/
theorem setTuneMaskReplacesTheMask : Obligations.SetTuneMaskReplacesTheMask := by
  intro s tag fs hport rest body masked answered
  refine ⟨fun idle => setTuneMask_of hport ?stays, fun free => ⟨fun j takes unpinned => setTuneMask_of hport ?takes,
    fun x suspended quiet => setTuneMask_of hport ?resumes⟩, ?pinned⟩
  case stays =>
    rcases idle with busy | idle
    · exact choose_running (s := (s.maskTaken tag fs).withMask fs) busy
    · exact choose_idle (s := (s.maskTaken tag fs).withMask fs) idle
  case takes => exact choose_takes (s := (s.maskTaken tag fs).withMask fs) free takes unpinned
  case resumes =>
    refine (choose_resumes (s := (s.maskTaken tag fs).withMask fs) free suspended ((urgentPending_iff _).mpr quiet)).trans ?_
    rfl
  case pinned =>
    intro f j free suspended queued own others unmasked pinned taken swaps done
    subst own
    have only : ((s.maskTaken tag fs).withMask fs).onlyJob j := ⟨free, suspended, queued, unmasked, others, pinned⟩
    have taking : ((s.maskTaken tag fs).withMask fs).pinnedTaken j =
        done.acceptWrite (requestFrame tag 0x42#8 (le16 fs.toNat)) := by
      rw [pinnedTaken_eq]
      show _ = (if swaps then taken.modFace j.face Face.swapped else taken).acceptWrite _
      by_cases swap : swaps
      · rw [if_pos swap]
        exact if_pos swap
      · rw [if_neg swap]
        exact if_neg swap
    obtain ⟨table, owed', legs, leg', port⟩ := pinnedTaken_same (s := (s.maskTaken tag fs).withMask fs) (j := j)
    refine ⟨fun kind => setTuneMask_of hport ((choose_only_trim only kind).trans taking), fun kind requester =>
      ⟨fun owed => ?owed, fun l rec free leg record asked => ⟨fun unheard => ?said, fun q _ inside here heard kindOf => ?becomes⟩⟩⟩
    case owed =>
      refine setTuneMask_of hport ((choose_only_result only kind requester
        (sweepResult_owed (table.trans rest) (by rw [owed']; exact owed)) rfl).trans ?_)
      unfold State.clearOwed
      rw [owed', taking]
      rfl
    case said =>
      refine setTuneMask_of hport ((choose_only_result only kind requester
        (sweepResult_said (table.trans rest) (by rw [owed']; exact free) ((leg' _).trans leg) (by rw [legs]; exact record) asked
          (by decide) unheard) rfl).trans ?_)
      rw [taking]
      rfl
    case becomes =>
      obtain ⟨-, -, training, -, -⟩ := inside
      rw [here] at training
      have kept : done.port = s.port := by
        show (if swaps then taken.modFace j.face Face.swapped else taken).port = s.port
        split <;> rfl
      have back : ({ ((s.maskTaken tag fs).withMask fs).pinnedTaken j with
          engine := (((s.maskTaken tag fs).withMask fs).pinnedTaken j).engine, port := s.port } : State) = done := by
        rw [taking, ← kept]
        rfl
      rw [← back, setTuneMask_chooses hport, choose_only_sweep only kind requester]
      refine sweepResult_becomesReady (u := ((s.maskTaken tag fs).withMask fs).pinnedTaken j) (res := .pinned)
        (post := fun t => answered { t.chooseWithin 16 with port := s.port }) (table.trans rest) (by rw [owed']; exact free)
        ((leg' _).trans leg) (by rw [legs]; exact record) (by rw [legs]; exact training) asked (by decide) heard kindOf
        (fun t engine _ => ?_) (fun t port => ?_)
      · dsimp only
        rw [chooseWithin_after only (engine.trans engine_pinnedTaken), ← engine]
      · show t.answered tag 0x42#8 (le16 fs.toNat) .done [] = _
        unfold State.answered
        rw [port] <;> rfl

end Sys2Proof.Machine

/-! MARGINs and TRIMs that complete (spec/05 R98 to R100). -/

namespace Sys2Proof.Machine

/-! ### The check of a recorded margin -/

/-- What the check of a margin against the floor of its face's leg makes of a state (R100). -/
def State.judges (s : State) (f : FaceId) (m : Fin 64) (u : State) : State :=
  match s.faceLeg f with
  | some l => if m.val < (s.leg l).marginFloor then (u.takeReport (s.errorAtFace l .marginLow f (some m.val))).1 else u
  | none => u

/-- A margin that is no lower than the floor of its face's leg, where the face has one. -/
def State.passesFloor (s : State) (f : FaceId) (m : Fin 64) : Prop :=
  ∀ l : LegId, s.faceLeg f = some l → (s.leg l).marginFloor ≤ m.val

section
variable {s u : State} {f : FaceId} {m : Fin 64} {l : LegId}

theorem judges_passes (passes : s.passesFloor f m) : s.judges f m u = u := by
  unfold State.judges
  split
  · rename_i l leg
    exact if_neg (Nat.not_lt.mpr (passes l leg))
  · rfl

theorem judges_low (leg : s.faceLeg f = some l) (low : m.val < (s.leg l).marginFloor) :
    s.judges f m u = (u.takeReport (s.errorAtFace l .marginLow f (some m.val))).1 := by
  unfold State.judges
  rw [leg]
  exact if_pos low

theorem judges_of_same (errors : u.errors = s.errors) (notices : u.notices = s.notices) (clock : u.clock = s.clock) :
    s.judges f m u = { u with errors := (s.judges f m s).errors, notices := (s.judges f m s).notices } := by
  have keeps : u = { u with errors := s.errors, notices := s.notices } := by rw [← errors, ← notices]
  by_cases passes : s.passesFloor f m
  · rw [judges_passes passes, judges_passes passes]
    exact keeps
  · unfold State.passesFloor at passes
    push Not at passes
    obtain ⟨l, leg, low⟩ := passes
    rw [judges_low leg low, judges_low leg low]
    exact takeReport_of_same errors notices clock

theorem faceReport_eq {v : State} (leg : s.faceLeg f = some l) (same : v.faceLeg f = s.faceLeg f) (own : v.leg l = s.leg l)
    (clock : v.clock = s.clock) (k : ErrorKind) (d : Option Nat) : v.faceReport k f d = s.errorAtFace l k f d := by
  have leg' := same.trans leg
  unfold State.faceReport State.errorAtFace State.stamp
  rw [leg', clock]
  simp only [Option.map_some, own]

theorem checkMargin_passes (passes : s.passesFloor f m) : s.checkMargin f m = s := by
  unfold State.checkMargin
  split
  · rfl
  · rename_i l leg
    exact if_neg (Nat.not_lt.mpr (passes l leg))

/-- A margin below the floor is reported once what is in flight has been delivered; where no slot is on it, that is all. -/
theorem checkMargin_low (leg : s.faceLeg f = some l) (low : m.val < (s.leg l).marginFloor) (rest : s.handFlight.tableAtRest)
    (quiet : s.handFlight.noSlotOn l .tallyThreshold) (unheard : s.handFlight.noSlotOn l .marginLow) :
    s.checkMargin f m = (s.handFlight.takeReport (s.errorAtFace l .marginLow f (some m.val))).1 := by
  have report := faceReport_eq leg rfl rfl rfl .marginLow (some m.val)
  have told : s.tell (s.errorAtFace l .marginLow f (some m.val)) =
      (s.handFlight.takeReport (s.errorAtFace l .marginLow f (some m.val))).1 :=
    tell_eq rest fun k hk => by
      obtain rfl : l = k := Option.some.inj hk
      exact quiet
  have foot := takeReport_footprint s.handFlight (s.errorAtFace l .marginLow f (some m.val))
  unfold State.checkMargin
  rw [leg]
  dsimp only
  rw [if_pos low, report, told]
  refine tableTake_eq (ev := ⟨l, .marginLow, none⟩) ?_ ?_
  · rw [foot]
    exact rest
  · rw [foot]
    exact unheard

/-- The check in a state that differs from `s` by faces and the engine alone. -/
theorem checkMargin_judges (same : u = { s with faces := u.faces, engine := u.engine }) (rest : s.tableAtRest)
    (quiet : ∀ l : LegId, s.faceLeg f = some l → s.noSlotOn l .tallyThreshold ∧ s.noSlotOn l .marginLow)
    (free : s.inFlight = [] ∨ s.passesFloor f m) : u.checkMargin f m = s.judges f m u := by
  have fields : u.inFlight = s.inFlight ∧ u.clock = s.clock ∧ u.faceLeg f = s.faceLeg f ∧ (∀ k : LegId, u.leg k = s.leg k)
      ∧ u.table = s.table ∧ u.slots = s.slots := by
    rw [same]
    exact ⟨rfl, rfl, rfl, fun _ => rfl, rfl, rfl⟩
  obtain ⟨inFlight, clock, faceLeg, legs, table, slots⟩ := fields
  by_cases passes : s.passesFloor f m
  · rw [judges_passes passes]
    exact checkMargin_passes fun l leg => by
      rw [legs]
      exact passes l (faceLeg.symm.trans leg)
  · have empty : u.inFlight = [] := inFlight.trans (free.resolve_right passes)
    unfold State.passesFloor at passes
    push Not at passes
    obtain ⟨l, leg, low⟩ := passes
    obtain ⟨first, second⟩ := quiet l leg
    have flown : u.handFlight = u := handFlight_nil empty
    have report : u.errorAtFace l .marginLow f (some m.val) = s.errorAtFace l .marginLow f (some m.val) := by
      unfold State.errorAtFace
      rw [legs, clock]
    rw [judges_low leg low, ← report]
    refine (checkMargin_low (faceLeg.trans leg) (by rw [legs]; exact low) ?_ ?_ ?_).trans (by rw [flown])
    · rw [flown]
      exact table.trans rest
    · rw [flown]
      exact noSlotOn_of_slots slots first
    · rw [flown]
      exact noSlotOn_of_slots slots second

end

/-! ### A MARGIN -/

/-- The face's record of a margin (R100). -/
def State.measured (s : State) (f : FaceId) (m : Fin 64) : State := s.modFace f (fun x => { x with lastMargin := some m })

/-- The JOB DONE notice of a MARGIN that has completed, with the stamp that `s` has (R102). -/
def State.marginDone (s : State) (j : Job) (m : Fin 64) (u : State) : State :=
  if j.requester = .switch then u.raiseNotice (.jobDone s.clock.stamp j.tag j.face .completed (some m)) else u

section
variable {s : State} {r : RunningJob} {rx : RxHalf} {m : Fin 64}

theorem jobNotice_done {u : State} {j : Job} (clock : u.clock = s.clock) : u.jobNotice j .completed (some m) = s.marginDone j m u := by
  unfold State.jobNotice State.marginDone State.stamp
  rw [clock]

theorem marginDone_engine {u : State} (j : Job) (g : Engine → Engine) :
    (s.marginDone j m u).modEngine g = s.marginDone j m (u.modEngine g) := by
  unfold State.marginDone
  split <;> rfl

theorem engine_marginDone (u : State) (j : Job) : (s.marginDone j m u).engine = u.engine := by
  unfold State.marginDone
  split <;> rfl

theorem judges_engine {f : FaceId} {u : State} (g : Engine → Engine) (errors : u.errors = s.errors) (notices : u.notices = s.notices)
    (clock : u.clock = s.clock) : (s.judges f m u).modEngine g = s.judges f m (u.modEngine g) := by
  have first := judges_of_same (s := s) (f := f) (m := m) errors notices clock
  have second := judges_of_same (s := s) (u := u.modEngine g) (f := f) (m := m) errors notices clock
  rw [first, second]
  rfl

/-- A MARGIN that completes: the record, the check and the notice, and then the free slot. -/
theorem completeMargin_eq (rest : s.tableAtRest)
    (quiet : ∀ l : LegId, s.faceLeg r.job.face = some l → s.noSlotOn l .tallyThreshold ∧ s.noSlotOn l .marginLow)
    (free : s.inFlight = [] ∨ s.passesFloor r.job.face m) :
    s.completeMargin r.job m = s.marginDone r.job m (s.judges r.job.face m (s.measured r.job.face m)) := by
  have check := checkMargin_judges (u := s.measured r.job.face m) (f := r.job.face) (m := m) rfl rest quiet free
  have judged := judges_of_same (s := s) (u := s.measured r.job.face m) (f := r.job.face) (m := m) rfl rfl rfl
  have step : s.completeMargin r.job m =
      ((s.measured r.job.face m).checkMargin r.job.face m).jobNotice r.job .completed (some m) := rfl
  rw [step, check, jobNotice_done (s := s)]
  rw [judged]
  rfl

theorem completeJob_margin (kind : r.job.kind = .margin) (found : Finding) :
    s.completeJob r.job found = (s.completeMargin r.job found.margin).leaveSlot := by
  unfold State.completeJob
  rw [kind]

theorem completeJob_trim (kind : r.job.kind = .trim) (found : Finding) :
    s.completeJob r.job found = (s.completeTrim r.job found).leaveSlot := by
  unfold State.completeJob
  rw [kind]

theorem urgentPending_last {e : Engine} (last : e.isLast) : e.urgentPending = false := by
  obtain ⟨-, ⟨-, quiet⟩ | ⟨-, empty⟩⟩ := last
  · exact quiet
  · refine (urgentPending_iff e).mpr fun f k queued => ?_
    rw [Option.mem_def, empty f] at queued
    cases queued

theorem suspensionAhead_quiet (quiet : s.engine.urgentPending = false) : s.suspensionAhead r = none := by
  unfold State.suspensionAhead
  rw [quiet, Bool.and_false]
  rfl

theorem suspensionAhead_late (late : r.stepsDone = 31) : s.suspensionAhead r = none := by
  have steps : jobSteps .margin = 32 := rfl
  unfold State.suspensionAhead
  have past : decide (r.stepsDone + max 1 (graceSteps - r.sinceStart) < jobSteps .margin) = false := by
    rw [steps, late]
    exact decide_eq_false (by omega)
  dsimp only
  rw [past, Bool.and_false]
  rfl

theorem margin_done (running : s.engine.running = some r) (going : r.cancelling = false) (kind : r.job.kind = .margin)
    (valid : rx.valid = true) (stays : s.suspensionAhead r = none) (rest : s.tableAtRest)
    (quiet : ∀ l : LegId, s.faceLeg r.job.face = some l → s.noSlotOn l .tallyThreshold ∧ s.noSlotOn l .marginLow)
    (free : s.inFlight = [] ∨ s.passesFloor r.job.face m) : exec (.jobCompletion ⟨some rx, m⟩) s =
      .next (s.marginDone r.job m (s.judges r.job.face m (s.measured r.job.face m))).leaveSlot := by
  rw [completion_done (found := ⟨some rx, m⟩) running going valid stays, completeJob_margin kind,
    completeMargin_eq rest quiet free]

theorem leaveSlot_free {u : State} (held : u.engine.held = []) :
    u.leaveSlot = (u.modEngine (fun e => { e with running := none })).choose := by
  have held' : (u.modEngine (fun e => { e with running := none })).engine.held = [] := held
  unfold State.leaveSlot
  rw [handHeld_none held']

theorem engine_judges {f : FaceId} {u : State} (errors : u.errors = s.errors) (notices : u.notices = s.notices)
    (clock : u.clock = s.clock) : (s.judges f m u).engine = u.engine := by
  rw [judges_of_same errors notices clock]

/-- The last job, a MARGIN (R98, R100). -/
theorem margin_last (running : s.engine.running = some r) (going : r.cancelling = false) (kind : r.job.kind = .margin)
    (valid : rx.valid = true) (rest : s.tableAtRest) (last : s.engine.isLast)
    (quiet : ∀ l : LegId, s.faceLeg r.job.face = some l → s.noSlotOn l .tallyThreshold ∧ s.noSlotOn l .marginLow)
    (free : s.inFlight = [] ∨ s.passesFloor r.job.face m) : exec (.jobCompletion ⟨some rx, m⟩) s =
      .next (s.marginDone r.job m
        (s.judges r.job.face m ((s.modEngine (fun e => e.freed none)).measured r.job.face m))) := by
  have engine : (s.marginDone r.job m (s.judges r.job.face m (s.measured r.job.face m))).engine = s.engine := by
    rw [engine_marginDone, engine_judges (s := s) (u := s.measured r.job.face m) rfl rfl rfl]
    rfl
  rw [margin_done running going kind valid (suspensionAhead_quiet (urgentPending_last last)) rest quiet free,
    leaveSlot_last (by rw [engine]; exact last), marginDone_engine,
    judges_engine (s := s) (u := s.measured r.job.face m) _ rfl rfl rfl]
  rfl

end

end Sys2Proof.Machine

/-! TRIMs that complete, MARGINs after which the engine chooses, and the completions together (spec/05 R98 to R100). -/

namespace Sys2Proof.Machine

section
variable {s : State} {r : RunningJob} {rx : RxHalf} {m : Fin 64}

/-! ### A TRIM -/

theorem trim_done {found : Finding} (running : s.engine.running = some r) (going : r.cancelling = false)
    (kind : r.job.kind = .trim) (valid : found.valid = true) :
    exec (.jobCompletion found) s = .next (s.completeTrim r.job found).leaveSlot := by
  rw [completion_done running going valid (suspensionAhead_other (by rw [kind]; decide)), completeJob_trim kind]

theorem completeTrim_kept (keeps : s.settlesOnCompletion r.job.face = true ∨ (s.face r.job.face).pinned = true) :
    s.completeTrim r.job ⟨some rx, m⟩ = s.deliverRx r.job.face (some rx) := by
  unfold State.completeTrim
  exact if_pos (Bool.or_eq_true_iff.mpr keeps)

theorem completeTrim_written (stays : s.settlesOnCompletion r.job.face = false) (open_ : (s.face r.job.face).pinned = false) :
    s.completeTrim r.job ⟨some rx, m⟩ =
      ((s.deliverRx r.job.face (some rx)).writeMargin r.job.face m).checkMargin r.job.face m := by
  unfold State.completeTrim
  exact if_neg (by rw [stays, open_]; decide)

theorem completeTrim_idle (parked : s.path (facePath r.job.face) ≠ .passing) (away : s.path (facePath r.job.face) ≠ .testing) :
    s.completeTrim r.job ⟨none, m⟩ = s := by
  have stays : s.settlesOnCompletion r.job.face = false := settles_false fun h => parked h.2.2
  unfold State.completeTrim
  dsimp only
  rw [deliverRx_none stays]
  cases path : s.path (facePath r.job.face) with
  | passing => exact absurd path parked
  | testing => exact absurd path away
  | unmapped | parked | benched | training => rfl

theorem completeTrim_failed {l : LegId}
    (live : s.path (facePath r.job.face) = .passing ∨ s.path (facePath r.job.face) = .testing)
    (leg : s.faceLeg r.job.face = some l) (rest : s.tableAtRest) (quiet : s.noSlotOn l .tallyThreshold)
    (empty : s.inFlight = []) : s.completeTrim r.job ⟨none, m⟩ =
      ((s.deliverRx r.job.face none).takeReport (s.errorAtFace l .tuneNoConverge r.job.face none)).1 := by
  have foot := deliverRx_footprint (s := s) (f := r.job.face) none
  unfold State.completeTrim
  dsimp only
  generalize s.deliverRx r.job.face none = u at *
  have fields : u.path (facePath r.job.face) = s.path (facePath r.job.face) ∧ u.faceLeg r.job.face = s.faceLeg r.job.face
      ∧ u.leg l = s.leg l ∧ u.clock = s.clock ∧ u.inFlight = s.inFlight ∧ u.table = s.table ∧ u.slots = s.slots := by
    rw [foot]
    exact ⟨rfl, rfl, rfl, rfl, rfl, rfl, rfl⟩
  obtain ⟨path, faceLeg, own, clock, inFlight, table, slots⟩ := fields
  have report := faceReport_eq leg faceLeg own clock .tuneNoConverge none
  have told : u.tell (u.faceReport .tuneNoConverge r.job.face none) =
      (u.takeReport (s.errorAtFace l .tuneNoConverge r.job.face none)).1 := by
    rw [report]
    refine tell_nil (inFlight.trans empty) (table.trans rest) fun k hk => ?_
    obtain rfl : l = k := Option.some.inj hk
    exact noSlotOn_of_slots slots quiet
  rw [← path] at live
  cases here : u.path (facePath r.job.face) with
  | passing | testing => exact told
  | unmapped | parked | benched | training =>
    rw [here] at live
    rcases live with h | h <;> cases h

theorem trim_kept (running : s.engine.running = some r) (going : r.cancelling = false) (kind : r.job.kind = .trim)
    (valid : rx.valid = true) (last : s.engine.isLast)
    (keeps : s.settlesOnCompletion r.job.face = true ∨ (s.face r.job.face).pinned = true) :
    exec (.jobCompletion ⟨some rx, m⟩) s = .next (s.foundLeft r.job.face rx) := by
  rw [trim_done (found := ⟨some rx, m⟩) running going kind valid, completeTrim_kept keeps,
    leaveSlot_last (isLast_deliverRx last _), deliverRx_freed_some]

/-- The setting that a TRIM has found is written, with its margin (R80, R99). -/
def State.trimmed (s : State) (f : FaceId) (rx : RxHalf) (m : Fin 64) : State :=
  s.modFace f (fun x => { x with active := ⟨x.active.tx, rx⟩, lastMargin := some m })

theorem trim_written (running : s.engine.running = some r) (going : r.cancelling = false) (kind : r.job.kind = .trim)
    (valid : rx.valid = true) (rest : s.tableAtRest) (last : s.engine.isLast)
    (stays : s.settlesOnCompletion r.job.face = false) (open_ : (s.face r.job.face).pinned = false)
    (quiet : ∀ l : LegId, s.faceLeg r.job.face = some l → s.noSlotOn l .tallyThreshold ∧ s.noSlotOn l .marginLow)
    (free : s.inFlight = [] ∨ s.passesFloor r.job.face m) : exec (.jobCompletion ⟨some rx, m⟩) s =
      .next (s.judges r.job.face m ((s.modEngine (fun e => e.freed (some r.job.face))).trimmed r.job.face rx m)) := by
  have both : (s.modFace r.job.face (fun x => { x with active := ⟨x.active.tx, rx⟩ })).modFace r.job.face
      (fun x => { x with lastMargin := some m }) =
      s.trimmed r.job.face rx m :=
    congrArg (fun faces => ({ s with faces := faces } : State)) (modAt_modAt s.faces r.job.face
      (fun x => { x with active := ⟨x.active.tx, rx⟩ }) (fun x => { x with lastMargin := some m }))
  have written : (s.deliverRx r.job.face (some rx)).writeMargin r.job.face m =
      (s.trimmed r.job.face rx m).modEngine (fun e => e.rewritten [r.job.face]) := by
    rw [deliverRx_written stays open_, ← both]
    rfl
  rw [trim_done (found := ⟨some rx, m⟩) running going kind valid, completeTrim_written stays open_, written,
    checkMargin_judges (s := s) rfl rest quiet free]
  have engine : (s.judges r.job.face m ((s.trimmed r.job.face rx m).modEngine (fun e => e.rewritten [r.job.face]))).engine =
      s.engine.rewritten [r.job.face] :=
    engine_judges (s := s) (u := (s.trimmed r.job.face rx m).modEngine (fun e => e.rewritten [r.job.face])) rfl rfl rfl
  have leaves := judges_engine (s := s) (f := r.job.face) (m := m)
    (u := (s.trimmed r.job.face rx m).modEngine (fun e => e.rewritten [r.job.face])) (fun e => e.freed none) rfl rfl rfl
  rw [leaveSlot_last (by rw [engine]; exact isLast_rewritten last _), leaves]
  have freed := freed_rewritten s.engine r.job.face
  refine congrArg (fun u => Host.Outcome.next (s.judges r.job.face m u)) ?_
  exact congrArg (fun e => State.trimmed { s with engine := e } r.job.face rx m) freed

theorem trim_failed {l : LegId} (running : s.engine.running = some r) (going : r.cancelling = false)
    (kind : r.job.kind = .trim) (rest : s.tableAtRest) (last : s.engine.isLast)
    (live : s.path (facePath r.job.face) = .passing ∨ s.path (facePath r.job.face) = .testing)
    (leg : s.faceLeg r.job.face = some l) (quiet : s.noSlotOn l .tallyThreshold) (empty : s.inFlight = []) :
    exec (.jobCompletion ⟨none, m⟩) s =
      .next ((s.missedLeft r.job.face).takeReport (s.errorAtFace l .tuneNoConverge r.job.face none)).1 := by
  have foot := takeReport_footprint (s.deliverRx r.job.face none) (s.errorAtFace l .tuneNoConverge r.job.face none)
  have engine : ((s.deliverRx r.job.face none).takeReport (s.errorAtFace l .tuneNoConverge r.job.face none)).1.engine =
      (s.deliverRx r.job.face none).engine := by rw [foot]
  rw [trim_done (found := ⟨none, m⟩) running going kind rfl, completeTrim_failed live leg rest quiet empty,
    leaveSlot_same (isLast_deliverRx last none) engine, ← deliverRx_freed_none]
  have same := takeReport_of_same (s := s.deliverRx r.job.face none)
    (u := (s.deliverRx r.job.face none).modEngine (fun e => e.freed none))
    (r := s.errorAtFace l .tuneNoConverge r.job.face none) rfl rfl rfl
  rw [same, foot]
  rfl

/-! ### A MARGIN after which the engine chooses -/

theorem margin_chooses (running : s.engine.running = some r) (going : r.cancelling = false) (kind : r.job.kind = .margin)
    (valid : rx.valid = true) (stays : s.suspensionAhead r = none) (rest : s.tableAtRest)
    (quiet : ∀ l : LegId, s.faceLeg r.job.face = some l → s.noSlotOn l .tallyThreshold ∧ s.noSlotOn l .marginLow)
    (passes : s.passesFloor r.job.face m) (held : s.engine.held = []) : exec (.jobCompletion ⟨some rx, m⟩) s =
      .next (s.marginDone r.job m ((s.modEngine (fun e => { e with running := none })).measured r.job.face m)).choose := by
  rw [margin_done running going kind valid stays rest quiet (.inr passes), judges_passes passes,
    leaveSlot_free (by rw [engine_marginDone]; exact held), marginDone_engine]
  rfl

theorem face_marginDone (u : State) (j : Job) (f : FaceId) : (s.marginDone j m u).face f = u.face f := by
  unfold State.marginDone
  split <;> rfl

/-- A margin taken leaves every pin as it was. -/
theorem pinned_measured (u : State) (f g : FaceId) : ((u.measured f m).face g).pinned = (u.face g).pinned := by
  unfold State.measured
  rw [State.face_modFace_eq]
  split
  · rename_i same
    rw [same]
  · rfl

end

/-- Where a SWEEP is pending on an unmasked face, the job that is taken is a SWEEP. -/
theorem takes_urgent {e : Engine} {j : Job} (takes : e.takes j) (urgent : e.urgentPending = true) : j.kind = .sweep := by
  obtain ⟨g, -, pending⟩ := List.any_eq_true.mp urgent
  obtain ⟨k, queued, kind, unmasked⟩ := (pendingKind_iff e .sweep g).mp pending
  obtain ⟨own, -, -, first⟩ := takes
  by_cases same : g = j.face
  · subst same
    obtain rfl : j = k := Option.some.inj (own.symm.trans queued)
    exact kind
  · rcases first g same unmasked k queued with below | ⟨equal, -⟩
    · rw [kind] at below
      exact absurd below (Nat.not_lt_zero _)
    · rw [equal, kind]

/-- What the leaving of the slot does where nothing is pending: the results that waited are handed over, and a suspended MARGIN
resumes. -/
theorem leaveSlot_clear {u : State} (clear : ∀ g : FaceId, u.queued g = none) :
    u.leaveSlot.errors = u.errors ∧ ∃ ns : List Notice, u.leaveSlot.notices = ns.foldl NoticeQueue.take u.notices := by
  have hands : (u.modEngine (fun e => { e with running := none })).handHeld =
      (u.modEngine (fun e => { e with running := none, held := [] })).handAll u.engine.held := rfl
  have eq := handAll_eq u.engine.held (u.modEngine (fun e => { e with running := none, held := [] }))
  rw [← hands] at eq
  unfold State.leaveSlot
  generalize (u.modEngine (fun e => { e with running := none })).handHeld = v at *
  have masked : v.engine.allMasked := by
    intro g pending
    have absent : v.engine.queue[g] = none := by
      rw [eq]
      exact clear g
    rw [absent] at pending
    exact Bool.noConfusion pending
  have free : v.engine.running = none := by rw [eq]; rfl
  have quiet : v.engine.urgentPending = false := by
    refine List.any_eq_false.mpr fun g _ => ?_
    rw [pendingKind_masked masked]
    decide
  have chosen : v.choose.errors = v.errors ∧ v.choose.notices = v.notices := by
    cases suspended : v.engine.suspended with
    | none =>
      rw [choose_idle ⟨free, suspended, masked⟩]
      exact ⟨rfl, rfl⟩
    | some x =>
      rw [choose_resumes free suspended quiet]
      exact ⟨rfl, rfl⟩
  have fields : v.errors = u.errors ∧ ∃ ns : List Notice, v.notices = ns.foldl NoticeQueue.take u.notices := by
    rw [eq]
    exact ⟨rfl, _, rfl⟩
  obtain ⟨errors, ns, notices⟩ := fields
  exact ⟨chosen.1.trans errors, ns, chosen.2.trans notices⟩

/-- Settles O31, part by part: the last job, a MARGIN after which the engine chooses, and a MARGIN below the floor. -/
theorem marginAndTrimCompletions : Obligations.MarginAndTrimCompletions := by
  intro s r rx m running going rest valid quiet f freed low passes judged done measured
  have judgedAs (u : State) : judged u = s.judges f m u := rfl
  refine ⟨fun last => ⟨fun kind free => ?margin, fun kind stays open_ free => ?written, fun kind pending swap passing => ?settles,
    fun kind stays pinned => ?pinned, fun kind off off' => ?idle, fun l kind live leg empty => ?failed⟩,
    fun held kind high => ⟨fun j takes unpinned late => ?takes, fun x suspended none_ => ?resumes⟩,
    fun l leg kind none_ below => ?below⟩
  case margin => exact margin_last running going kind valid rest last quiet free
  case written => exact trim_written running going kind valid rest last stays open_ quiet free
  case settles =>
    have settles := (settlesOnCompletion_iff s f).mpr ⟨pending, swap, passing⟩
    refine (trim_kept running going kind valid last (.inl settles)).trans (congrArg Host.Outcome.next ?_)
    exact if_pos ⟨pending, swap, passing⟩
  case pinned =>
    refine (trim_kept running going kind valid last (.inr pinned)).trans (congrArg Host.Outcome.next ?_)
    refine (if_neg fun swaps => ?_).trans (if_pos pinned)
    exact Bool.eq_false_iff.mp stays ((settlesOnCompletion_iff s f).mpr swaps)
  case idle =>
    rw [trim_done (found := ⟨none, m⟩) running going kind rfl, completeTrim_idle off off', leaveSlot_last last]
    rfl
  case failed =>
    obtain ⟨tallied, -⟩ := quiet l leg
    refine (trim_failed running going kind rest last live leg tallied empty).trans ?_
    have left : s.missedLeft f = if s.settlesOnCompletion f = true then (freed true).modFace f Face.swapped else freed false :=
      if_congr (settlesOnCompletion_iff s f).symm rfl rfl
    exact congrArg (fun u => Host.Outcome.next (State.takeReport u (s.errorAtFace l .tuneNoConverge f none)).1) left
  case takes =>
    have stays : s.suspensionAhead r = none := by
      by_cases urgent : s.engine.urgentPending = true
      · exact suspensionAhead_late (late (takes_urgent takes urgent))
      · exact suspensionAhead_quiet (Bool.eq_false_iff.mpr urgent)
    refine (margin_chooses running going kind valid stays rest quiet high held).trans (congrArg Host.Outcome.next ?_)
    have engine := engine_marginDone (s := s) (m := m) ((s.modEngine (fun e => { e with running := none })).measured f m) r.job
    have face := face_marginDone (s := s) (m := m) ((s.modEngine (fun e => { e with running := none })).measured f m) r.job j.face
    have pin := pinned_measured (m := m) (s.modEngine (fun e => { e with running := none })) f j.face
    refine (choose_takes (j := j) (by rw [engine]; rfl) (by rw [engine]; exact takes) (unpinned.imp id fun open_ => ?_)).trans ?_
    · rw [face, pin]
      exact open_
    · rw [marginDone_engine]
      rfl
  case resumes =>
    have stays := suspensionAhead_quiet (r := r) ((urgentPending_iff s.engine).mpr none_)
    refine (margin_chooses running going kind valid stays rest quiet high held).trans (congrArg Host.Outcome.next ?_)
    have engine := engine_marginDone (s := s) (m := m) ((s.modEngine (fun e => { e with running := none })).measured f m) r.job
    refine (choose_resumes (x := x) (by rw [engine]; rfl) (by rw [engine]; exact suspended)
      (by rw [engine]; exact (urgentPending_iff s.engine).mpr none_)).trans ?_
    rw [marginDone_engine]
    rfl
  case below =>
    intro flown tallied unheard clear
    have atRest : flown.tableAtRest := tableAtRest_handFlight rest
    have check : (measured s).checkMargin f m = (flown.takeReport (low l)).1 :=
      checkMargin_low (s := measured s) leg below atRest tallied unheard
    have clock : flown.clock = s.clock := by
      obtain ⟨-, -, -, -, -, -, clock, -⟩ := groundKept_handFlight (measured s)
      exact clock
    have foot := takeReport_footprint flown (low l)
    have same : (flown.takeReport (low l)).1.clock = s.clock ∧ (flown.takeReport (low l)).1.engine = flown.engine := by
      rw [foot]
      exact ⟨clock, rfl⟩
    have ends : s.completeMargin r.job m = done (flown.takeReport (low l)).1 := by
      have step : s.completeMargin r.job m = ((measured s).checkMargin f m).jobNotice r.job .completed (some m) := rfl
      rw [step, check]
      exact jobNotice_done same.1
    have cleared (g : FaceId) : (done (flown.takeReport (low l)).1).queued g = none := by
      have engine : (done (flown.takeReport (low l)).1).engine = flown.engine := (engine_marginDone _ _).trans same.2
      unfold State.queued
      rw [engine]
      exact clear g
    obtain ⟨errors, later, notices⟩ := leaveSlot_clear cleared
    refine ⟨_, ?_, errors.trans ?_, later, notices⟩
    · rw [completion_done (found := ⟨some rx, m⟩) running going valid (suspensionAhead_quiet none_), completeJob_margin kind, ends]
    · show (s.marginDone r.job m (flown.takeReport (low l)).1).errors = _
      unfold State.marginDone
      split <;> rfl

end Sys2Proof.Machine

/-! Several jobs that a leg controller asks for together (spec/05 R87, R88, R90, R91). -/

namespace Sys2Proof.Machine

/-! ### A job that takes the place of a pending one -/

/-- The pending job of a face, where there is one, ends DISPLACED (R90). -/
def State.displaces (s : State) (f : FaceId) : State := (s.queued f).elim s s.handDisplaced

/-- A job takes its face's place in the queue, and an engine that is free chooses (R90, R91). -/
def State.replaces (s : State) (j : Job) : State := (s.displaces j.face).queueJob j

theorem handDisplaced_footprint (s : State) (j : Job) : s.handDisplaced j = { s with notices := (s.handDisplaced j).notices } := by
  unfold State.handDisplaced State.jobNotice
  split <;> rfl

theorem displaces_footprint (s : State) (f : FaceId) : s.displaces f = { s with notices := (s.displaces f).notices } := by
  unfold State.displaces
  cases s.queued f with
  | none => rfl
  | some j => exact handDisplaced_footprint s j

/-- Jobs of the faces in a list have been asked for, of those that the test wants. The engine has started the job of `first`,
where there is one; the others are pending. -/
structure State.requested (s t : State) (job : FaceId → Job) (k : JobKind) (fs : List FaceId) (wants : FaceId → Bool)
    (first : Option FaceId) : Prop where
  rest : t = { s with engine := t.engine, notices := t.notices }
  queued : ∀ f : FaceId, t.queued f = if (f ∈ fs ∧ wants f = true) ∧ first ≠ some f then some (job f) else s.queued f
  running : t.engine.running = first.elim s.engine.running (fun f => some ⟨job f, 0, 0, false⟩)
  turn : t.engine.turnOf k = first.elim (s.engine.turnOf k) (fun f => f + 1)
  suspended : t.engine.suspended = s.engine.suspended
  mask : t.engine.mask = s.engine.mask
  inside : ∀ f : FaceId, first = some f → f ∈ fs ∧ wants f = true

section
variable {s t u : State} {job : FaceId → Job} {k : JobKind} {wants : FaceId → Bool}

theorem requested_nothing (fs : List FaceId) (unwanted : ∀ f ∈ fs, wants f = false) : s.requested s job k fs wants none where
  rest := rfl
  queued f := by
    refine (if_neg fun h => ?_).symm
    obtain ⟨⟨mem, wanted⟩, -⟩ := h
    rw [unwanted f mem] at wanted
    exact Bool.noConfusion wanted
  running := rfl
  turn := rfl
  suspended := rfl
  mask := rfl
  inside f h := by cases h

theorem requested_waits {f : FaceId} (own : (job f).face = f) (wanted : wants f = true)
    (waits : s.engine.running.isSome = true ∨ (s.engineIdle ∧ setHas s.engine.mask f.val = true)) :
    s.requested (s.replaces (job f)) job k [f] wants none := by
  have foot := displaces_footprint s f
  have engine : (s.displaces f).engine = s.engine := by rw [foot]
  have queues : s.replaces (job f) = (s.displaces f).setQueued f (some (job f)) := by
    have step := queueJob_waits (s := s.displaces f) (j := job f) (by
      unfold State.engineIdle State.queued
      rw [engine, own]
      exact waits)
    unfold State.replaces
    rw [own] at step ⊢
    exact step
  rw [queues]
  generalize s.displaces f = d at *
  exact {
    rest := by rw [foot]; rfl
    queued := fun g => by
      have same : d.queued g = s.queued g := congrArg (fun e : Engine => e.queue[g]) engine
      rw [State.queued_setQueued_eq, same]
      by_cases here : g = f
      · rw [if_pos here, if_pos ⟨⟨List.mem_singleton.mpr here, by rw [here]; exact wanted⟩, fun none_ => by cases none_⟩, here]
      · rw [if_neg here, if_neg fun h => here (List.mem_singleton.mp h.1.1)]
    running := (congrArg Engine.running engine : d.engine.running = s.engine.running)
    turn := by
      have turns : (d.setQueued f (some (job f))).engine.turnOf k = d.engine.turnOf k := by cases k <;> rfl
      exact turns.trans (congrArg (fun e => Engine.turnOf e k) engine : d.engine.turnOf k = s.engine.turnOf k)
    suspended := (congrArg Engine.suspended engine : d.engine.suspended = s.engine.suspended)
    mask := (congrArg Engine.mask engine : d.engine.mask = s.engine.mask)
    inside := fun g h => by cases h }

theorem requested_starts {f : FaceId} (own : (job f).face = f) (kind : (job f).kind = k) (wanted : wants f = true)
    (idle : s.engineIdle) (unmasked : setHas s.engine.mask f.val = false)
    (unpinned : (s.face f).pinned = false) : s.requested (s.replaces (job f)) job k [f] wants (some f) := by
  have absent := queued_idle idle unmasked
  have stays : s.displaces f = s := by
    unfold State.displaces
    rw [absent]
    rfl
  have starts : s.replaces (job f) =
      s.modEngine (fun e => { e.after (job f) with queue := e.queue, running := some ⟨job f, 0, 0, false⟩ }) := by
    unfold State.replaces
    rw [own, stays]
    exact queueJob_starts idle (by rw [own]; exact unmasked) (.inr (by rw [own]; exact unpinned))
  rw [starts]
  exact {
    rest := rfl
    queued := fun g => by
      have same : (s.modEngine (fun e => { e.after (job f) with
        queue := e.queue, running := some ⟨job f, 0, 0, false⟩ })).queued g = s.queued g := rfl
      rw [same]
      refine (if_neg fun h => ?_).symm
      obtain ⟨⟨mem, -⟩, other⟩ := h
      exact other (congrArg some (List.mem_singleton.mp mem).symm)
    running := rfl
    turn := by
      subst kind
      show Engine.turnOf { s.engine.after (job f) with
        queue := s.engine.queue, running := some ⟨job f, 0, 0, false⟩ } (job f).kind = f + 1
      unfold Engine.after
      cases kind : (job f).kind <;> simp [Engine.turnOf, own]
    suspended := rfl
    mask := rfl
    inside := fun g h => by
      obtain rfl : f = g := Option.some.inj h
      exact ⟨List.mem_singleton.mpr rfl, wanted⟩ }

/-- A request for one face leaves the other faces' pending jobs. -/
theorem queued_requested_other {f g : FaceId} {first : Option FaceId} (h : s.requested t job k [f] wants first) (other : g ≠ f) :
    t.queued g = s.queued g :=
  (h.queued g).trans (if_neg fun asked => other (List.mem_singleton.mp asked.1.1))

/-- What is asked for first, and then the rest. -/
theorem requested_cons {f : FaceId} {fs : List FaceId} {first later : Option FaceId} (fresh : f ∉ fs)
    (h : s.requested t job k [f] wants first) (h' : t.requested u job k fs wants later)
    (once : first.isSome = true → later = none) : s.requested u job k (f :: fs) wants (first.or later) where
  rest := by
    have a := h.rest
    have b := h'.rest
    rw [a] at b
    exact b
  queued g := by
    rw [h'.queued g, h.queued g]
    have firstOwn (other : g ≠ f) : first ≠ some g := fun same => other (List.mem_singleton.mp (h.inside g same).1)
    have laterOwn (out : g ∉ fs) : later ≠ some g := fun same => out (h'.inside g same).1
    by_cases here : g = f
    · subst here
      have lower : later ≠ some g := laterOwn fresh
      have both : first.or later ≠ some g ↔ first ≠ some g := by
        cases first with
        | none => simp [lower]
        | some x => simp
      rw [if_neg (fun h => fresh h.1.1)]
      simp only [List.mem_cons, true_and, true_or, both]
    · have both : first.or later ≠ some g ↔ later ≠ some g := by
        cases start : first with
        | none => simp
        | some x =>
          rw [once (by rw [start]; rfl)]
          have away : some x ≠ some g := by rw [← start]; exact firstOwn here
          simp [away]
      simp only [List.mem_cons, List.not_mem_nil, here, false_and, false_or, both, if_false]
  running := by
    rw [h'.running, h.running]
    cases start : first with
    | none => rfl
    | some x => rw [once (by rw [start]; rfl)]; rfl
  turn := by
    rw [h'.turn, h.turn]
    cases start : first with
    | none => rfl
    | some x => rw [once (by rw [start]; rfl)]; rfl
  suspended := h'.suspended.trans h.suspended
  mask := h'.mask.trans h.mask
  inside g here := by
    cases start : first with
    | none =>
      rw [start, Option.none_or] at here
      obtain ⟨mem, wanted⟩ := h'.inside g here
      exact ⟨List.mem_cons_of_mem _ mem, wanted⟩
    | some x =>
      rw [start, Option.some_or] at here
      obtain rfl : x = g := Option.some.inj here
      obtain ⟨mem, wanted⟩ := h.inside x start
      rw [List.mem_singleton.mp mem]
      exact ⟨List.mem_cons_self, by rw [← List.mem_singleton.mp mem]; exact wanted⟩

end

/-! ### Requests in order -/

/-- What a request of a face's job does where neither the face's pending job nor, but for another job asked for before, the
running job has changed since `s`: the job takes its place where it is wanted. -/
def State.asksLike (s : State) (request : State → FaceId → State) (job : FaceId → Job) (wants : FaceId → Bool) (f : FaceId) : Prop :=
  ∀ u : State, u.queued f = s.queued f →
    (u.engine.running = s.engine.running
      ∨ (s.engine.running = none ∧ ∃ g : FaceId, g ≠ f ∧ u.engine.running = some ⟨job g, 0, 0, false⟩)) →
    request u f = if wants f = true then u.replaces (job f) else u

section
variable {request : State → FaceId → State} {job : FaceId → Job} {k : JobKind} {wants : FaceId → Bool}

theorem asksLike_later {s t : State} {f : FaceId} (asks : s.asksLike request job wants f) (queued : t.queued f = s.queued f)
    (running : t.engine.running = s.engine.running) : t.asksLike request job wants f := by
  intro u same runs
  rw [running] at runs
  exact asks u (same.trans queued) runs

theorem requests_busy {fs : List FaceId} (once : fs.Nodup) (own : ∀ f : FaceId, (job f).face = f) {s : State}
    (busy : s.engine.running.isSome = true) (asks : ∀ f ∈ fs, s.asksLike request job wants f) :
    s.requested (fs.foldl request s) job k fs wants none := by
  induction fs generalizing s with
  | nil => exact requested_nothing [] (fun f h => by cases h)
  | cons f fs ih =>
    obtain ⟨fresh, later⟩ := List.nodup_cons.mp once
    have step : s.requested (request s f) job k [f] wants none := by
      rw [asks f List.mem_cons_self s rfl (.inl rfl)]
      by_cases wanted : wants f = true
      · rw [if_pos wanted]
        exact requested_waits (own f) wanted (.inl busy)
      · rw [if_neg wanted]
        refine requested_nothing [f] fun g mem => ?_
        rw [List.mem_singleton.mp mem]
        exact Bool.eq_false_iff.mpr wanted
    have running : (request s f).engine.running = s.engine.running := step.running
    have rest := ih later (s := request s f) (by rw [running]; exact busy) fun g mem => by
      exact asksLike_later (asks g (List.mem_cons_of_mem _ mem))
        (queued_requested_other step fun same => fresh (same ▸ mem)) running
    exact requested_cons fresh step rest (fun h => by cases h)

theorem requests_idle {fs : List FaceId} (once : fs.Nodup) (own : ∀ f : FaceId, (job f).face = f)
    (kind : ∀ f : FaceId, (job f).kind = k) {s : State} (idle : s.engineIdle)
    (unpinned : ∀ f ∈ fs, (s.face f).pinned = false) (asks : ∀ f ∈ fs, s.asksLike request job wants f) :
    s.requested (fs.foldl request s) job k fs wants (fs.find? (fun f => wants f && !setHas s.engine.mask f.val)) := by
  induction fs generalizing s with
  | nil => exact requested_nothing [] (fun f h => by cases h)
  | cons f fs ih =>
    obtain ⟨fresh, later⟩ := List.nodup_cons.mp once
    have asked := asks f List.mem_cons_self s rfl (.inl rfl)
    rw [List.foldl_cons]
    by_cases starts : (wants f && !setHas s.engine.mask f.val) = true
    · obtain ⟨wanted, unmasked⟩ := Bool.and_eq_true_iff.mp starts
      rw [if_pos wanted] at asked
      rw [List.find?_cons_of_pos (p := fun f => wants f && !setHas s.engine.mask f.val) starts]
      have step : s.requested (request s f) job k [f] wants (some f) := by
        rw [asked]
        exact requested_starts (own f) (kind f) wanted idle (by simpa using unmasked) (unpinned f List.mem_cons_self)
      have running : (request s f).engine.running = some ⟨job f, 0, 0, false⟩ := step.running
      have rest := requests_busy (k := k) later own (s := request s f) (by rw [running]; rfl) fun g mem => by
        have other : f ≠ g := fun same => fresh (same ▸ mem)
        intro u same runs
        refine asks g (List.mem_cons_of_mem _ mem) u (same.trans ?_) (.inr ⟨idle.1, f, other, ?_⟩)
        · exact queued_requested_other step other.symm
        · rcases runs with runs | ⟨free, -⟩
          · exact runs.trans running
          · rw [running] at free
            cases free
      exact requested_cons fresh step rest (fun _ => rfl)
    · rw [List.find?_cons_of_neg (p := fun f => wants f && !setHas s.engine.mask f.val) starts]
      have step : s.requested (request s f) job k [f] wants none := by
        rw [asked]
        by_cases wanted : wants f = true
        · rw [if_pos wanted]
          refine requested_waits (own f) wanted (.inr ⟨idle, ?_⟩)
          rw [wanted, Bool.true_and] at starts
          simpa using starts
        · rw [if_neg wanted]
          refine requested_nothing [f] fun g mem => ?_
          rw [List.mem_singleton.mp mem]
          exact Bool.eq_false_iff.mpr wanted
      have running : (request s f).engine.running = s.engine.running := step.running
      have mask : (request s f).engine.mask = s.engine.mask := step.mask
      have idle' : (request s f).engineIdle := by
        obtain ⟨free, suspended, masked⟩ := idle
        refine ⟨running.trans free, step.suspended.trans suspended, fun g pending => ?_⟩
        rw [step.queued g] at pending
        rw [mask]
        by_cases asksIt : (g ∈ [f] ∧ wants g = true) ∧ none ≠ some g
        · obtain ⟨⟨mem, wanted⟩, -⟩ := asksIt
          rw [List.mem_singleton.mp mem] at wanted ⊢
          rw [wanted, Bool.true_and] at starts
          simpa using starts
        · rw [if_neg asksIt] at pending
          exact masked g pending
      have faces : (request s f).faces = s.faces := by rw [step.rest]
      have rest := ih later (s := request s f) idle' (fun g mem => by
        unfold State.face
        rw [faces]
        exact unpinned g (List.mem_cons_of_mem _ mem)) fun g mem => by
          exact asksLike_later (asks g (List.mem_cons_of_mem _ mem))
            (queued_requested_other step fun same => fresh (same ▸ mem)) running
      rw [mask] at rest
      exact requested_cons fresh step rest (fun h => by cases h)

/-- Requests of a leg controller at an engine that is busy or free: all are pending, but for the one that a free engine starts. -/
theorem requests_eq {fs : List FaceId} (once : fs.Nodup) (own : ∀ f : FaceId, (job f).face = f)
    (kind : ∀ f : FaceId, (job f).kind = k) {s : State}
    (engine : s.engine.running.isSome = true ∨ (s.engineIdle ∧ ∀ f ∈ fs, (s.face f).pinned = false))
    (asks : ∀ f ∈ fs, s.asksLike request job wants f) :
    s.requested (fs.foldl request s) job k fs wants
      (if s.engine.running.isSome = true then none
       else fs.find? (fun f => wants f && !setHas s.engine.mask f.val)) := by
  rcases engine with busy | ⟨idle, unpinned⟩
  · rw [if_pos busy]
    exact requests_busy once own busy asks
  · rw [if_neg (by rw [idle.1]; decide)]
    exact requests_idle once own kind idle unpinned asks

end

end Sys2Proof.Machine

/-! Trim timers (spec/02 R35), and ANNOUNCEs sent again (spec/03 R50). -/

namespace Sys2Proof.Machine

/-! ### TRIM requests -/

/-- Whether a TRIM request of a face becomes a pending TRIM (R88). -/
def State.takesTrim (s : State) (f : FaceId) : Bool :=
  !(s.engine.running.any (fun r => r.job.face == f && r.job.kind == .sweep && !r.cancelling))
    && (s.queued f).all (fun j => j.kind == .margin)

theorem asksLike_requestTrim (s : State) (by' : Requester) (f : FaceId) :
    s.asksLike (fun s f => s.requestTrim f by') (fun f => ⟨f, .trim, by', 0#8⟩) s.takesTrim f := by
  intro u queued running
  have sweeps : u.sweepRunningOn f = s.engine.running.any (fun r => r.job.face == f && r.job.kind == .sweep && !r.cancelling) := by
    rw [sweepRunningOn_eq]
    rcases running with same | ⟨free, g, -, busy⟩
    · rw [same]
    · rw [busy, free]
      simp
  unfold State.takesTrim State.requestTrim State.replaces State.displaces
  rw [← sweeps, ← queued]
  dsimp only
  cases pending : u.queued f with
  | none => cases u.sweepRunningOn f <;> simp
  | some j =>
    cases kind : j.kind with
    | margin => cases u.sweepRunningOn f <;> simp [kind]
    | sweep | trim => simp [kind]

theorem trimFaces_eq (s : State) (l : LegId) : s.trimFaces l =
    allFaces.filter (fun f => s.onLeg l f && s.path (facePath f) == .passing && !(s.face f).pinned) := by
  have faces : facesOfPaths (s.legPaths l) = allFaces.filter (s.onLeg l) := legFaces_eq s l
  unfold State.trimFaces
  rw [facesOfPaths_filter, faces, List.filter_filter, List.filter_filter]
  refine List.filter_congr fun f _ => ?_
  cases s.onLeg l f <;> cases s.path (facePath f) == .passing <;> cases (s.face f).pinned <;> rfl

section
variable {s : State} {l : LegId}

theorem trimExpiry_idle (off : isLinked (s.leg l).state = false ∨ (s.leg l).trimTimer = none) :
    exec (.trimTimerExpiry l) s = .next s := by
  have step : exec (.trimTimerExpiry l) s = execTrimTimerExpiry l s := rfl
  rw [step]
  unfold execTrimTimerExpiry
  refine congrArg Host.Outcome.next (if_neg fun live => ?_)
  obtain ⟨linked, running⟩ := live
  rcases off with down | stopped
  · rw [down] at linked
    exact Bool.noConfusion linked
  · rw [stopped] at running
    exact Bool.noConfusion running

theorem trimExpiry_asks (linked : isLinked (s.leg l).state = true) (runs : (s.leg l).trimTimer.isSome = true) :
    exec (.trimTimerExpiry l) s = .next (((s.trimFaces l).foldl (fun s f => s.requestTrim f .leg) s).modLeg l (fun x => { x with
      trimTimer := if x.trimInterval ≥ 1 then some (1000 * x.trimInterval) else none })) := by
  have step : exec (.trimTimerExpiry l) s = execTrimTimerExpiry l s := rfl
  rw [step]
  unfold execTrimTimerExpiry
  exact congrArg Host.Outcome.next (if_pos ⟨linked, runs⟩)

end

/-! ### The ANNOUNCE of a face -/

/-- The ANNOUNCE that the part sends on a face of an exchange (R50, R54). -/
theorem announceWord_inExchange {s : State} {f : FaceId} {q : Place} {r : TrainRecord} (inside : s.inExchange f q r) :
    s.announceWord q.leg f = .announce q.pos (s.leg q.leg).currentWidth
      (if isCFace f = true then r.offered else (((s.leg q.leg).agreedRate).map rateAlone).getD 0#3) r.attempt := by
  obtain ⟨-, place, -, record, -⟩ := inside
  have pos : s.pathPos (facePath f) = some q.pos := by
    unfold State.pathPos
    rw [place]
    rfl
  unfold State.announceWord
  dsimp only
  rw [pos, record]
  rfl

section
variable {s : State} {f : FaceId} {q : Place} {r : TrainRecord}

theorem announceRepeat_eq (inside : s.inExchange f q r) : exec (.announceRepeat f) s = .next
    (if (s.face f).status = .announced ∧ setHas r.partnerAnnounced f.val = false then s.sendAnnounce q.leg f else s) := by
  have step : exec (.announceRepeat f) s = execAnnounceRepeat f s := rfl
  rw [step]
  unfold execAnnounceRepeat
  rw [exchange_of_inExchange inside]

end

/-- Settles O50: the requests in face order, of which a free engine starts one, and the one ANNOUNCE. -/
theorem trimTimersAndRepeatedAnnounces : Obligations.TrimTimersAndRepeatedAnnounces := by
  refine ⟨fun s l => ⟨trimExpiry_idle, fun linked runs engine => ?asks⟩, fun s f q r inside => ⟨fun announced fresh => ?again,
    fun other => ?quiet⟩⟩
  case again =>
    rw [announceRepeat_eq inside, if_pos ⟨announced, fresh⟩]
    unfold State.sendAnnounce
    rw [announceWord_inExchange inside]
    rfl
  case quiet =>
    rw [announceRepeat_eq inside, if_neg fun h => ?_]
    obtain ⟨announced, fresh⟩ := h
    rcases other with away | heard
    · exact away announced
    · rw [heard] at fresh
      exact Bool.noConfusion fresh
  case asks =>
    intro asked first
    have mem (f : FaceId) : f ∈ s.trimFaces l ↔ (s.onLeg l f && s.path (facePath f) == .passing && !(s.face f).pinned) = true := by
      rw [trimFaces_eq]
      exact mem_filter_allFaces _ f
    have once : (s.trimFaces l).Nodup := by
      rw [trimFaces_eq]
      exact nodup_allFaces.filter _
    have requests := requests_eq (k := .trim) (request := fun s f => s.requestTrim f .leg)
      (job := fun f => ⟨f, .trim, .leg, 0#8⟩) (wants := s.takesTrim) once (fun _ => rfl) (fun _ => rfl)
      (engine.imp id fun idle => ⟨idle, fun f hf => by
        have on := (mem f).mp hf
        rw [Bool.and_eq_true] at on
        simpa using on.2⟩)
      (fun f _ => asksLike_requestTrim s .leg f)
    have asks (f : FaceId) : asked f = true ↔ f ∈ s.trimFaces l ∧ s.takesTrim f = true := by
      rw [mem]
      show (_ && _ && _ && _ && _) = true ↔ _
      unfold State.takesTrim
      simp only [Bool.and_eq_true, and_assoc]
    have firsts : (if s.engine.running.isSome = true then none
        else (s.trimFaces l).find? (fun f => s.takesTrim f && !setHas s.engine.mask f.val)) = first := by
      refine if_congr Iff.rfl rfl ?_
      rw [trimFaces_eq, List.find?_filter]
      refine congrFun (congrArg List.find? ?_) allFaces
      funext f
      show decide (_ ∧ _) = ((_ && _ && _ && _ && _) && _)
      unfold State.takesTrim
      rw [Bool.decide_and, Bool.decide_eq_true, Bool.decide_eq_true]
      simp only [Bool.and_assoc]
    rw [firsts] at requests
    obtain ⟨rest, queued, running, turn, suspended, -, -⟩ := requests
    have step := trimExpiry_asks linked runs
    generalize (s.trimFaces l).foldl (fun s f => s.requestTrim f .leg) s = u at *
    have legs (k : LegId) : u.leg k = s.leg k := by rw [rest]; rfl
    refine ⟨_, step, ?leg, fun f => ?queue, ?first, suspended, ?faces, ?paths, ?errors, fun k hk => ?others⟩
    case leg =>
      refine (State.leg_modLeg u l _).trans ?_
      rw [legs]
    case queue =>
      refine (queued f).trans (if_congr ?_ rfl rfl)
      rw [asks]
    case first =>
      clear_value first
      cases first with
      | none => exact ⟨running, turn⟩
      | some f => exact ⟨running, turn⟩
    case faces => exact (congrArg State.faces rest :)
    case paths => exact (congrArg State.paths rest :)
    case errors => exact (congrArg State.errors rest :)
    case others => exact (State.leg_modLeg_other u l k _ hk).trans (legs k)

end Sys2Proof.Machine

/-! What a partner's ANNOUNCE comes to (spec/03 R51 to R55). -/

namespace Sys2Proof.Machine

/-! ### The word -/

theorem announceOf_word (pos : Pos) (width : Fin 3) (rates : RateSet) (attempt : Fin 8) :
    announceOf (announceWordOf pos width rates attempt) = some ⟨pos, 2 ^ width.val, rates, attempt.val⟩ := by
  have h1 := pos.isLt
  have h2 := width.isLt
  have h3 := rates.isLt
  have h4 := attempt.isLt
  have first : (byte (pos.val + 4 * width.val + 16 * rates.toNat)).toNat = pos.val + 4 * width.val + 16 * rates.toNat := by
    rw [byte_toNat]
    omega
  have second : (byte attempt.val).toNat = attempt.val := by
    rw [byte_toNat]
    omega
  have code : (pos.val + 4 * width.val + 16 * rates.toNat) / 4 % 4 = width.val := by omega
  have low : (pos.val + 4 * width.val + 16 * rates.toNat) % 4 = pos.val := by omega
  have high : (pos.val + 4 * width.val + 16 * rates.toNat) / 16 = rates.toNat := by omega
  have top : pos.val + 4 * width.val + 16 * rates.toNat < 128 := by omega
  unfold announceOf announceWordOf wordChecks
  simp only [first, second, code, low, high, beq_self_eq_true, Bool.true_and, Bool.and_eq_true, decide_eq_true_eq]
  rw [if_pos ⟨⟨top, h2⟩, h4⟩, BitVec.ofNat_toNat, BitVec.setWidth_eq]

section
variable {s : State} {f : FaceId} {q : Place} {r : TrainRecord} {pos : Pos} {width : Fin 3} {rates : RateSet} {attempt : Fin 8}

theorem partnerAnnounce_taken (inside : s.inExchange f q r) (live : (s.face f).status ≠ .idle) :
    exec (.partnerAnnounce f (announceWordOf pos width rates attempt)) s =
      .next (s.takeAnnounce q.leg r f ⟨pos, 2 ^ width.val, rates, attempt.val⟩) := by
  have step : exec (.partnerAnnounce f (announceWordOf pos width rates attempt)) s =
      execPartnerAnnounce f (announceWordOf pos width rates attempt) s := rfl
  rw [step]
  unfold execPartnerAnnounce
  rw [announceOf_word, exchange_of_inExchange inside]
  simp only [live, if_false]

end

/-! ### The rate classes in common -/

theorem setHas_and {w : Nat} (x y : BitVec w) (k : Nat) : setHas (x &&& y) k = (setHas x k && setHas y k) := by
  unfold setHas
  exact BitVec.getLsbD_and

theorem setHas_foldl_and {w : Nat} (sets : PathId → BitVec w) (ps : List PathId) (x : BitVec w) (k : Nat) :
    setHas (ps.foldl (fun g p => g &&& sets p) x) k = true ↔ setHas x k = true ∧ ∀ p ∈ ps, setHas (sets p) k = true := by
  induction ps generalizing x with
  | nil => simp
  | cons p ps ih =>
    rw [List.foldl_cons, ih, setHas_and, Bool.and_eq_true, and_assoc, List.forall_mem_cons]

theorem mem_groupPaths_iff (s : State) (l : LegId) (p : PathId) :
    p ∈ s.groupPaths l ↔ ∃ q : Place, s.inGroup p q ∧ q.leg = l := by
  constructor
  · intro mem
    have own := pathsAt_own p mem
    cases place : s.place p with
    | none =>
      rw [State.pathLeg, place] at own
      cases own
    | some q =>
      rw [State.pathLeg, place] at own
      obtain rfl : q.leg = l := Option.some.inj own
      exact ⟨q, ⟨place, (mem_groupPaths place rfl).mp mem⟩, rfl⟩
  · rintro ⟨q, ⟨place, pos⟩, rfl⟩
    exact (mem_groupPaths place rfl).mpr pos

theorem commonRates_iff {s : State} {l : LegId} {r : TrainRecord} {p : PathId} {rates : RateSet} (inside : p ∈ s.groupPaths l)
    (k : Nat) : setHas (s.commonRates l r p rates) k = true ↔ s.commonRate l r p rates k := by
  unfold State.commonRates State.commonRate
  rw [setHas_foldl_and (fun q => if q = p then rates else (r.partnerRates[q]).getD 0#3)]
  refine and_congr Iff.rfl ⟨fun all => ⟨?_, fun p' q group own other => ?_⟩, fun h p' mem => ?_⟩
  · have here := all p inside
    rwa [if_pos rfl] at here
  · have there := all p' ((mem_groupPaths_iff s l p').mpr ⟨q, group, own⟩)
    rwa [if_neg other] at there
  · obtain ⟨here, others⟩ := h
    by_cases same : p' = p
    · rw [if_pos same]
      exact here
    · rw [if_neg same]
      obtain ⟨q, group, own⟩ := (mem_groupPaths_iff s l p').mp mem
      exact others p' q group own same

theorem highestRate_some {rs : RateSet} {rate : Rate} (has : setHas rs (rateIndex rate) = true)
    (higher : ∀ k : Nat, rateIndex rate < k → k < 3 → ¬setHas rs k = true) : highestRate rs = some rate := by
  unfold highestRate
  cases rate with
  | r100 => exact if_pos has
  | r50 => exact (if_neg (higher 2 (by decide) (by decide))).trans (if_pos has)
  | r25 =>
    exact (if_neg (higher 2 (by decide) (by decide))).trans
      ((if_neg (higher 1 (by decide) (by decide))).trans (if_pos has))

theorem highestRate_none {rs : RateSet} (empty : ∀ k : Nat, k < 3 → ¬setHas rs k = true) : highestRate rs = none := by
  unfold highestRate
  rw [if_neg (empty 2 (by decide)), if_neg (empty 1 (by decide)), if_neg (empty 0 (by decide))]

theorem lastAnnounce_iff (s : State) (l : LegId) (r : TrainRecord) (p : PathId) : s.lastAnnounce l r p = true ↔
    ∀ (p' : PathId) (x : Place), s.inGroup p' x → x.leg = l → p' ≠ p → setHas r.partnerAnnounced (cFace p').val = true := by
  unfold State.lastAnnounce
  simp only [List.all_eq_true, mem_groupPaths_iff, Bool.or_eq_true, beq_iff_eq]
  constructor
  · intro all p' x group own other
    exact (all p' ⟨x, group, own⟩).resolve_left other
  · rintro others p' ⟨x, group, own⟩
    by_cases same : p' = p
    · exact .inl same
    · exact .inr (others p' x group own same)

/-! ### The judgement -/

section
variable {s : State} {l : LegId} {f : FaceId} {q : Place} {r : TrainRecord} {a : Announced} {rate : Rate}

/-- The attempt number of a word names the present attempt, or none (R51). -/
def TrainRecord.isCurrent (r : TrainRecord) (attempt : Nat) : Prop := attempt = 0 ∨ attempt = r.attempt

theorem judgeAnnounce_stale (stale : ¬r.isCurrent a.attempt) : s.judgeAnnounce l r f a = .stale := by
  unfold TrainRecord.isCurrent at stale
  rw [not_or] at stale
  unfold State.judgeAnnounce
  exact if_pos stale

theorem judgeAnnounce_repeated (current : r.isCurrent a.attempt) (again : setHas r.partnerAnnounced f.val = true) :
    s.judgeAnnounce l r f a = .repeated := by
  unfold State.judgeAnnounce
  rw [if_neg fun h => current.elim h.1 h.2]
  exact if_pos again

theorem judgeAnnounce_mismatch (current : r.isCurrent a.attempt) (fresh : setHas r.partnerAnnounced f.val = false)
    (other : s.pathPos (facePath f) ≠ some a.pos) : s.judgeAnnounce l r f a = .mismatch := by
  unfold State.judgeAnnounce
  rw [if_neg fun h => current.elim h.1 h.2, fresh, if_neg Bool.false_ne_true]
  exact if_pos other

/-- The judgement of a C-face's first ANNOUNCE (R52, R53). -/
theorem judgeAnnounce_c (current : r.isCurrent a.attempt) (fresh : setHas r.partnerAnnounced f.val = false)
    (place : s.pathPos (facePath f) = some a.pos) (c : isCFace f = true) : s.judgeAnnounce l r f a =
      if s.lastAnnounce l r (facePath f) = true then
        (highestRate (s.commonRates l r (facePath f) a.rates)).elim .noRate .agreed
      else .recorded := by
  unfold State.judgeAnnounce
  rw [if_neg fun h => current.elim h.1 h.2, fresh, if_neg Bool.false_ne_true, if_neg (not_not.mpr place), if_pos c]
  cases highestRate (s.commonRates l r (facePath f) a.rates) <;> rfl

/-- The judgement of an S-face's first ANNOUNCE (R55). -/
theorem judgeAnnounce_s (current : r.isCurrent a.attempt) (fresh : setHas r.partnerAnnounced f.val = false)
    (place : s.pathPos (facePath f) = some a.pos) (c : isCFace f = false) (agreed : (s.leg l).agreedRate = some rate) :
    s.judgeAnnounce l r f a = if setHas a.rates (rateIndex rate) = true then .tune else .noRate := by
  unfold State.judgeAnnounce
  rw [if_neg fun h => current.elim h.1 h.2, fresh, if_neg Bool.false_ne_true, if_neg (not_not.mpr place), c,
    if_neg Bool.false_ne_true, agreed]

end

/-! ### The acceptance -/

/-- The record once the partner's ANNOUNCE on a face has been accepted (R51 step 3). -/
def TrainRecord.hearsAnnounce (r : TrainRecord) (f : FaceId) (rates : RateSet) : TrainRecord :=
  { r with
    partnerAnnounced := setAdd r.partnerAnnounced f.val
    partnerRates := if isCFace f = true then r.partnerRates.set (facePath f) (some rates) else r.partnerRates }

/-- The part's ANNOUNCE on a face of an exchange. -/
def State.ownAnnounce (s : State) (q : Place) (r : TrainRecord) (f : FaceId) : SentWord :=
  ⟨f, .announce q.pos (s.leg q.leg).currentWidth
    (if isCFace f = true then r.offered else (((s.leg q.leg).agreedRate).map rateAlone).getD 0#3) r.attempt⟩

section
variable {s : State} {f : FaceId} {q : Place} {r : TrainRecord}

theorem leg_recording (s : State) (l : LegId) (rec : TrainRecord) :
    (s.recording l rec).leg l = { s.leg l with record := some rec } := State.leg_modLeg s l _

theorem sendAnnounce_eq (inside : s.inExchange f q r) :
    s.sendAnnounce q.leg f = { s with sent := s.sent ++ [s.ownAnnounce q r f] } := by
  unfold State.sendAnnounce
  rw [announceWord_inExchange inside]
  rfl

theorem inExchange_recording (inside : s.inExchange f q r) (rec : TrainRecord) : (s.recording q.leg rec).inExchange f q rec := by
  obtain ⟨path, place, training, -, group⟩ := inside
  have own := leg_recording s q.leg rec
  refine ⟨path, place, ?_, ?_, ?_⟩ <;> rw [own]
  · exact training
  · exact group

theorem acceptAnnounce_eq (inside : s.inExchange f q r) (rates : RateSet) : s.acceptAnnounce q.leg f rates =
    { s.recording q.leg (r.hearsAnnounce f rates) with sent := s.sent ++ [s.ownAnnounce q r f] } := by
  have records : s.modRecord q.leg (fun r => { r with
      partnerAnnounced := setAdd r.partnerAnnounced f.val
      partnerRates := if isCFace f then modAt r.partnerRates (facePath f) (fun _ => some rates) else r.partnerRates }) =
      s.recording q.leg (r.hearsAnnounce f rates) := modRecord_eq inside.2.2.2.1 _
  have words : (s.recording q.leg (r.hearsAnnounce f rates)).ownAnnounce q (r.hearsAnnounce f rates) f = s.ownAnnounce q r f := by
    unfold State.ownAnnounce
    rw [leg_recording]
    rfl
  have sends := sendAnnounce_eq (inExchange_recording inside (r.hearsAnnounce f rates))
  rw [words] at sends
  unfold State.acceptAnnounce
  rw [records, sends]
  rfl

end

end Sys2Proof.Machine

/-! Faces that go to TUNING (spec/03 R52, R55, R57). -/

namespace Sys2Proof.Machine

/-! ### SWEEP requests -/

/-- Whether a SWEEP request of a face becomes a pending SWEEP: its pending job, if any, is of a lower class (R87). -/
def State.takesSweep (s : State) (f : FaceId) : Bool := (s.queued f).all (fun j => j.kind != .sweep)

theorem asksLike_requestSweep (s : State) (f : FaceId) :
    s.asksLike State.requestSweep (fun f => ⟨f, .sweep, .leg, 0#8⟩) s.takesSweep f := by
  intro u queued _
  unfold State.takesSweep State.requestSweep State.replaces State.displaces
  rw [← queued]
  dsimp only
  cases pending : u.queued f with
  | none => simp
  | some j =>
    cases kind : j.kind with
    | sweep => simp [kind]
    | trim | margin => simp [kind]

/-! ### The faces enter TUNING -/

/-- The record with SWEEPs outstanding on faces (R57). -/
def TrainRecord.sweeping (r : TrainRecord) (fs : List FaceId) : TrainRecord :=
  { r with sweepOutstanding := fs.foldl (fun o f => setAdd o f.val) r.sweepOutstanding }

theorem setHas_foldl_setAdd (fs : List FaceId) (o : FaceSet) (g : FaceId) :
    setHas (fs.foldl (fun o f => setAdd o f.val) o) g.val = (decide (g ∈ fs) || setHas o g.val) := by
  induction fs generalizing o with
  | nil => simp
  | cons f fs ih =>
    have same : decide (g.val = f.val) = decide (g = f) := decide_eq_decide.mpr Fin.ext_iff.symm
    rw [List.foldl_cons, ih, setHas_setAdd o f.isLt, same]
    by_cases here : g = f
    · simp [here]
    · simp [here]

theorem setHas_sweeping (r : TrainRecord) (fs : List FaceId) (g : FaceId) :
    setHas (r.sweeping fs).sweepOutstanding g.val = (decide (g ∈ fs) || setHas r.sweepOutstanding g.val) :=
  setHas_foldl_setAdd fs _ g

section
variable {s u t : State} {l : LegId} {r : TrainRecord}

/-- The faces of the list have entered TUNING (R57, R106). -/
structure State.tuning (u t : State) (l : LegId) (fs : List FaceId) (r : TrainRecord) : Prop where
  rest : t = { u with legs := t.legs, faces := t.faces, monitors := t.monitors }
  leg : t.leg l = { u.leg l with record := some (r.sweeping fs) }
  legs : ∀ k : LegId, k ≠ l → t.leg k = u.leg k
  face : ∀ g : FaceId, t.face g = if g ∈ fs then { u.face g with status := .tuning } else u.face g
  monitor : ∀ g : FaceId, t.monitor g = if g ∈ fs then (u.monitor g).unlock else u.monitor g

theorem tuning_nothing (record : (u.leg l).record = some r) : u.tuning u l [] r where
  rest := rfl
  leg := by
    have keeps : r.sweeping [] = r := rfl
    rw [keeps, ← record]
  legs _ _ := rfl
  face g := by simp
  monitor g := by simp

theorem enterTuning_eq (record : (u.leg l).record = some r) (f : FaceId) : u.enterTuning l f =
    ((u.setStatus f .tuning).modMonitor f Monitor.unlock).recording l (r.sweeping [f]) :=
  modRecord_eq (s := (u.setStatus f .tuning).modMonitor f Monitor.unlock) record _

theorem tuning_cons {f : FaceId} {fs : List FaceId} (record : (u.leg l).record = some r)
    (h : (u.enterTuning l f).tuning t l fs (r.sweeping [f])) : u.tuning t l (f :: fs) r where
  rest := by
    have rest := h.rest
    rw [enterTuning_eq record] at rest
    exact rest
  leg := by
    have leg := h.leg
    rw [enterTuning_eq record, leg_recording] at leg
    exact leg
  legs k hk := by
    have legs := h.legs k hk
    rw [enterTuning_eq record] at legs
    exact legs.trans (State.leg_modLeg_other _ l k _ hk)
  face g := by
    have face := h.face g
    have first : (u.enterTuning l f).face g = if g = f then { u.face g with status := .tuning } else u.face g := by
      rw [enterTuning_eq record]
      refine (State.face_modFace_eq u f g _).trans ?_
      by_cases same : g = f
      · rw [if_pos same, if_pos same, same]
      · rw [if_neg same, if_neg same]
    rw [face, first]
    by_cases same : g = f <;> simp [same]
  monitor g := by
    have monitor := h.monitor g
    have first : (u.enterTuning l f).monitor g = if g = f then (u.monitor g).unlock else u.monitor g := by
      rw [enterTuning_eq record]
      refine (monitor_modMonitor_eq (u.setStatus f .tuning) f g _).trans ?_
      by_cases same : g = f
      · rw [if_pos same, if_pos same, same]
        rfl
      · rw [if_neg same, if_neg same]
        rfl
    rw [monitor, first]
    by_cases same : g = f
    · simp only [same, if_true, List.mem_cons, true_or]
      split <;> rfl
    · simp [same]

theorem tuning_enterTuning (fs : List FaceId) (record : (u.leg l).record = some r) :
    u.tuning (fs.foldl (fun s f => s.enterTuning l f) u) l fs r := by
  induction fs generalizing u r with
  | nil => exact tuning_nothing record
  | cons f fs ih =>
    have record' : ((u.enterTuning l f).leg l).record = some (r.sweeping [f]) := by
      rw [enterTuning_eq record, leg_recording]
    exact tuning_cons record (ih record')

/-- Faces have gone to TUNING and have their SWEEPs asked for; the engine has started the one of `first`, where there is one. -/
structure State.tuned (u t : State) (l : LegId) (fs : List FaceId) (r : TrainRecord) (first : Option FaceId) : Prop where
  rest : t = { u with legs := t.legs, faces := t.faces, monitors := t.monitors, engine := t.engine, notices := t.notices }
  leg : t.leg l = { u.leg l with record := some (r.sweeping fs) }
  legs : ∀ k : LegId, k ≠ l → t.leg k = u.leg k
  face : ∀ g : FaceId, t.face g = if g ∈ fs then { u.face g with status := .tuning } else u.face g
  monitor : ∀ g : FaceId, t.monitor g = if g ∈ fs then (u.monitor g).unlock else u.monitor g
  other : ∀ g : FaceId, g ∉ fs → t.queued g = u.queued g
  starts : ∀ g : FaceId, first = some g → t.queued g = none
  waits : ∀ g : FaceId, g ∈ fs → first ≠ some g → ∃ j : Job, t.queued g = some j ∧ j.kind = .sweep
  running : t.engine.running = first.elim u.engine.running (fun g => some ⟨⟨g, .sweep, .leg, 0#8⟩, 0, 0, false⟩)
  turn : t.engine.urgentPointer = first.elim u.engine.urgentPointer (fun g => g + 1)

/-- The face whose SWEEP starts at its request: the first unmasked one, at an engine that is free (R91). -/
def State.startsFirst (s : State) (fs : List FaceId) : Option FaceId :=
  if s.engine.running.isSome = true then none else fs.find? (fun f => !setHas s.engine.mask f.val)

theorem tuned_tuneFaces {fs : List FaceId} (record : (u.leg l).record = some r) (once : fs.Nodup)
    (engine : u.engine.running.isSome = true ∨ (u.engineIdle ∧ ∀ f ∈ fs, (u.face f).pinned = false)) :
    u.tuned (u.tuneFaces l fs) l fs r (u.startsFirst fs) := by
  have tuning := tuning_enterTuning fs record
  unfold State.tuneFaces
  generalize fs.foldl (fun s f => s.enterTuning l f) u = v at *
  have engines : v.engine = u.engine := by rw [tuning.rest]
  have queues (g : FaceId) : v.queued g = u.queued g := congrArg (fun e : Engine => e.queue[g]) engines
  have pins (f : FaceId) : (v.face f).pinned = (u.face f).pinned := by
    rw [tuning.face]
    split <;> rfl
  have idle (h : u.engineIdle) : v.engineIdle := by
    unfold State.engineIdle State.queued
    rw [engines]
    exact h
  have requests := requests_eq (k := .sweep) (request := State.requestSweep) (job := fun f => ⟨f, .sweep, .leg, 0#8⟩)
    (wants := v.takesSweep) once (fun _ => rfl) (fun _ => rfl) (s := v)
    (by rw [engines]; exact engine.imp id fun h => ⟨idle h.1, fun f mem => by rw [pins]; exact h.2 f mem⟩)
    (fun f _ => asksLike_requestSweep v f)
  have first : (if v.engine.running.isSome = true then none
      else fs.find? (fun f => v.takesSweep f && !setHas v.engine.mask f.val)) = u.startsFirst fs := by
    unfold State.startsFirst
    rw [engines]
    rcases engine with busy | ⟨free, -⟩
    · rw [if_pos busy, if_pos busy]
    · refine if_congr Iff.rfl rfl (congrFun (congrArg List.find? (funext fun f => ?_)) fs)
      cases masked : setHas u.engine.mask f.val with
      | true => exact Bool.and_false _
      | false =>
        unfold State.takesSweep
        rw [queues, queued_idle free masked]
        rfl
  rw [first] at requests
  generalize fs.foldl State.requestSweep v = t at *
  obtain ⟨rest, queued, running, turn, -, -, inside⟩ := requests
  have facesOf : t.faces = v.faces ∧ t.monitors = v.monitors ∧ t.legs = v.legs := by
    rw [rest]
    exact ⟨rfl, rfl, rfl⟩
  obtain ⟨faces, monitors, legs⟩ := facesOf
  exact {
    rest := by
      have all := tuning.rest
      rw [all] at rest
      rw [faces, monitors, legs]
      exact rest
    leg := by
      unfold State.leg
      rw [legs]
      exact tuning.leg
    legs := fun k hk => by
      unfold State.leg
      rw [legs]
      exact tuning.legs k hk
    face := fun g => by
      unfold State.face
      rw [faces]
      exact tuning.face g
    monitor := fun g => by
      unfold State.monitor
      rw [monitors]
      exact tuning.monitor g
    other := fun g out => (queued g).trans ((if_neg fun h => out h.1.1).trans (queues g))
    starts := fun g here => by
      rw [queued g, if_neg fun h => h.2 here, queues]
      unfold State.startsFirst at here
      split at here
      · cases here
      · rename_i free
        have unmasked := List.find?_some here
        exact queued_idle ((engine.resolve_left free).1) (by simpa using unmasked)
    waits := fun g mem other => by
      cases wanted : v.takesSweep g with
      | true => exact ⟨⟨g, .sweep, .leg, 0#8⟩, (queued g).trans (if_pos ⟨⟨mem, wanted⟩, other⟩), rfl⟩
      | false =>
        have keeps := (queued g).trans (if_neg fun h => by rw [wanted] at h; exact Bool.noConfusion h.1.2)
        unfold State.takesSweep at wanted
        cases pending : v.queued g with
        | none =>
          rw [pending] at wanted
          exact Bool.noConfusion wanted
        | some j =>
          rw [pending] at wanted
          exact ⟨j, keeps.trans pending, by simpa using wanted⟩
    running := by rw [running, engines]
    turn := by
      refine turn.trans ?_
      rw [engines]
      rfl }

end

end Sys2Proof.Machine

/-! ANNOUNCEs of partners (spec/03 R51 to R55). -/

namespace Sys2Proof.Machine

section
variable {s : State} {f : FaceId} {q : Place} {r : TrainRecord} {a : Announced}

/-! ### What each outcome does -/

theorem takeAnnounce_stale (stale : ¬r.isCurrent a.attempt) : s.takeAnnounce q.leg r f a = s := by
  unfold State.takeAnnounce
  rw [judgeAnnounce_stale stale]

theorem takeAnnounce_repeated (inside : s.inExchange f q r) (current : r.isCurrent a.attempt)
    (again : setHas r.partnerAnnounced f.val = true) :
    s.takeAnnounce q.leg r f a = { s with sent := s.sent ++ [s.ownAnnounce q r f] } := by
  unfold State.takeAnnounce
  rw [judgeAnnounce_repeated current again]
  exact sendAnnounce_eq inside

theorem takeAnnounce_recorded (inside : s.inExchange f q r) (current : r.isCurrent a.attempt)
    (fresh : setHas r.partnerAnnounced f.val = false) (place : s.pathPos (facePath f) = some a.pos) (c : isCFace f = true)
    (early : ¬s.lastAnnounce q.leg r (facePath f) = true) : s.takeAnnounce q.leg r f a =
      { s.recording q.leg (r.hearsAnnounce f a.rates) with sent := s.sent ++ [s.ownAnnounce q r f] } := by
  unfold State.takeAnnounce
  rw [judgeAnnounce_c current fresh place c, if_neg early]
  exact acceptAnnounce_eq inside a.rates

/-- The state once an ANNOUNCE has been accepted: the leg's context is `x`, and the part has sent its own. -/
def State.accepted (s : State) (q : Place) (r : TrainRecord) (f : FaceId) (x : Leg) : State :=
  { s.modLeg q.leg (fun _ => x) with sent := s.sent ++ [s.ownAnnounce q r f] }

theorem takeAnnounce_agreed {rate : Rate} (inside : s.inExchange f q r) (current : r.isCurrent a.attempt)
    (fresh : setHas r.partnerAnnounced f.val = false) (place : s.pathPos (facePath f) = some a.pos) (c : isCFace f = true)
    (last : s.lastAnnounce q.leg r (facePath f) = true)
    (rates : highestRate (s.commonRates q.leg r (facePath f) a.rates) = some rate) : s.takeAnnounce q.leg r f a =
      (s.accepted q r f { s.leg q.leg with record := some (r.hearsAnnounce f a.rates), agreedRate := some rate }).tuneFaces q.leg
        (allFaces.filter (s.chosen q.leg .c)) := by
  have faces : (s.groupPaths q.leg).map cFace = allFaces.filter (s.chosen q.leg .c) := cFacesAt_eq s q.leg _
  have agrees : (s.recording q.leg (r.hearsAnnounce f a.rates)).modLeg q.leg (fun x => { x with agreedRate := some rate }) =
      s.modLeg q.leg (fun _ => { s.leg q.leg with record := some (r.hearsAnnounce f a.rates), agreedRate := some rate }) := by
    refine (State.modLeg_modLeg s q.leg (fun x => { x with record := some (r.hearsAnnounce f a.rates) })
      (fun x => { x with agreedRate := some rate })).trans ?_
    rfl
  unfold State.takeAnnounce
  rw [judgeAnnounce_c current fresh place c, if_pos last, rates, ← faces]
  show ((s.acceptAnnounce q.leg f a.rates).modLeg q.leg (fun x => { x with agreedRate := some rate })).tuneFaces q.leg _ = _
  rw [acceptAnnounce_eq inside]
  exact congrArg (fun u : State => State.tuneFaces { u with sent := s.sent ++ [s.ownAnnounce q r f] } q.leg
    ((s.groupPaths q.leg).map cFace)) agrees

theorem takeAnnounce_tune {rate : Rate} (inside : s.inExchange f q r) (current : r.isCurrent a.attempt)
    (fresh : setHas r.partnerAnnounced f.val = false) (place : s.pathPos (facePath f) = some a.pos) (c : isCFace f = false)
    (agreed : (s.leg q.leg).agreedRate = some rate) (common : setHas a.rates (rateIndex rate) = true) :
    s.takeAnnounce q.leg r f a =
      (s.accepted q r f { s.leg q.leg with record := some (r.hearsAnnounce f a.rates) }).tuneFaces q.leg [f] := by
  unfold State.takeAnnounce
  rw [judgeAnnounce_s current fresh place c agreed, if_pos common]
  show (s.acceptAnnounce q.leg f a.rates).tuneFaces q.leg [f] = _
  rw [acceptAnnounce_eq inside]
  rfl

/-! ### Faces that tune after an accepted ANNOUNCE -/

theorem leg_accepted (x : Leg) : (s.accepted q r f x).leg q.leg = x := State.leg_modLeg s q.leg _

theorem leg_accepted_other (x : Leg) {k : LegId} (hk : k ≠ q.leg) : (s.accepted q r f x).leg k = s.leg k :=
  State.leg_modLeg_other s q.leg k _ hk

theorem onLeg_of_onGroup {l : LegId} {g : FaceId} (on : s.onGroup l g = true) : s.onLeg l g = true := by
  unfold State.onLeg
  rw [faceLeg_of_onGroup on, beq_self_eq_true]

theorem singleFace : ∀ f : FaceId, [f] = allFaces.filter (fun g => g == f) := by decide

end

/-- Settles O52, by what an ANNOUNCE comes to, and by the faces that go to TUNING. -/
theorem announcesAreTaken : Obligations.AnnouncesAreTaken := by
  intro s f q r pos width rates attempt inside live engine i l own current heard tuned
  have step := partnerAnnounce_taken (pos := pos) (width := width) (rates := rates) (attempt := attempt) inside live
  have place : s.pathPos (facePath f) = some q.pos := by
    unfold State.pathPos
    rw [inside.2.1]
    rfl
  have inGroup : facePath f ∈ s.groupPaths l :=
    (mem_groupPaths_iff s l _).mpr ⟨q, ⟨inside.2.1, inside.2.2.2.2⟩, rfl⟩
  have training : (s.leg l).state = .training := inside.2.2.1
  have conclude (x : Leg) (fs : FaceId → Bool) (record : x.record = some heard) (state : x.state = .training)
      (pinned : s.engine.running.isSome = true ∨ (s.engineIdle ∧ ∀ g : FaceId, fs g = true → (s.face g).pinned = false)) :
      (((s.accepted q r f x).tuneFaces l (allFaces.filter fs)).leg l).agreedRate = x.agreedRate
        ∧ tuned ((s.accepted q r f x).tuneFaces l (allFaces.filter fs)) fs := by
    have mem (g : FaceId) : g ∈ allFaces.filter fs ↔ fs g = true := mem_filter_allFaces fs g
    have facts := tuned_tuneFaces (u := s.accepted q r f x) (l := l) (r := heard) (fs := allFaces.filter fs)
      (by rw [leg_accepted]; exact record) (nodup_allFaces.filter _)
      (pinned.imp id fun h => ⟨h.1, fun g on => h.2 g ((mem g).mp on)⟩)
    have firsts : (s.accepted q r f x).startsFirst (allFaces.filter fs) =
        if s.engine.running.isSome = true then none else allFaces.find? (fun g => fs g && !setHas s.engine.mask g.val) := by
      unfold State.startsFirst
      refine if_congr Iff.rfl rfl (List.find?_filter.trans (congrFun (congrArg List.find? (funext fun g => ?_)) allFaces))
      rw [Bool.decide_and, Bool.decide_eq_true, Bool.decide_eq_true]
      rfl
    rw [firsts] at facts
    have home := leg_accepted (s := s) (q := q) (r := r) (f := f) x
    have away (k : LegId) (hk : k ≠ l) := leg_accepted_other (s := s) (q := q) (r := r) (f := f) x hk
    generalize (s.accepted q r f x).tuneFaces l (allFaces.filter fs) = t at *
    obtain ⟨rest, leg, legs, face, monitor, other, starts, waits, running, turn⟩ := facts
    rw [home] at leg
    have out (g : FaceId) (off : fs g = false) : g ∉ allFaces.filter fs := fun h => by
      rw [(mem g).mp h] at off
      exact Bool.noConfusion off
    refine ⟨by rw [leg], fun g on => ⟨?status, ?lock, ?queue⟩, fun g off => ⟨?face, ?monitor, ?queued⟩, ?engine, ?record, ?paths,
      ?errors, ?state, ?sent, fun k hk => ?legs⟩
    case status => rw [face g, if_pos ((mem g).mpr on)]
    case lock =>
      rw [monitor g, if_pos ((mem g).mpr on)]
      rfl
    case queue =>
      generalize (if s.engine.running.isSome = true then none
        else allFaces.find? (fun g => fs g && !setHas s.engine.mask g.val)) = first at *
      by_cases here : first = some g
      · rw [if_pos here]
        exact starts g here
      · rw [if_neg here]
        exact waits g ((mem g).mpr on) here
    case face =>
      rw [face g, if_neg (out g off)]
      rfl
    case monitor =>
      rw [monitor g, if_neg (out g off)]
      rfl
    case queued => exact other g (out g off)
    case engine =>
      generalize (if s.engine.running.isSome = true then none
        else allFaces.find? (fun g => fs g && !setHas s.engine.mask g.val)) = first at *
      cases first with
      | none => exact ⟨running, turn⟩
      | some g => exact ⟨running, turn⟩
    case record =>
      refine ⟨heard.sweeping (allFaces.filter fs), by rw [leg], rfl, rfl, rfl, rfl, rfl, fun g => ?_⟩
      have listed : decide (g ∈ allFaces.filter fs) = fs g := by
        rw [Bool.eq_iff_iff, decide_eq_true_iff]
        exact mem g
      rw [setHas_sweeping, listed]
    case paths => exact (congrArg State.paths rest :)
    case errors => exact (congrArg State.errors rest :)
    case state =>
      rw [leg]
      exact state
    case sent => exact (congrArg State.sent rest :)
    case legs => exact (legs k hk).trans (away k hk)
  refine ⟨fun stale => ?stale, fun now again => ?repeated, fun now fresh here c early => ?recorded,
    fun now fresh here c last rate common higher => ?agreed, fun now fresh here s_face rate agreed common => ?tune⟩
  case stale => rw [show exec i s = _ from step, takeAnnounce_stale
    (a := ⟨pos, 2 ^ width.val, rates, attempt.val⟩) stale]
  case repeated =>
    rw [show exec i s = _ from step, takeAnnounce_repeated
      (a := ⟨pos, 2 ^ width.val, rates, attempt.val⟩) inside now again]
    rfl
  case recorded =>
    have open_ : ¬s.lastAnnounce q.leg r (facePath f) = true := fun last => by
      obtain ⟨p, x, group, own, other, unheard⟩ := early
      rw [(lastAnnounce_iff s l r _).mp last p x group own other] at unheard
      exact Bool.noConfusion unheard
    rw [show exec i s = _ from step, takeAnnounce_recorded
      (a := ⟨pos, 2 ^ width.val, rates, attempt.val⟩) inside now fresh (by rw [place, here]) c open_]
    rfl
  case agreed =>
    have highest : highestRate (s.commonRates q.leg r (facePath f) rates) = some rate :=
      highestRate_some ((commonRates_iff inGroup _).mpr common)
        (fun k above small has => higher k above small ((commonRates_iff inGroup k).mp has))
    have taken := takeAnnounce_agreed (a := ⟨pos, 2 ^ width.val, rates, attempt.val⟩) inside now fresh (by rw [place, here]) c
      ((lastAnnounce_iff s l r _).mpr last) highest
    rw [taken] at step
    have result := conclude { s.leg l with record := some heard, agreedRate := some rate } (s.chosen l .c) rfl training
      (engine.imp id fun h => ⟨h.1, fun g on => h.2 g (onLeg_of_onGroup (onGroup_of_chosen on))⟩)
    exact ⟨_, step, result⟩
  case tune =>
    have taken := takeAnnounce_tune (a := ⟨pos, 2 ^ width.val, rates, attempt.val⟩) inside now fresh (by rw [place, here]) s_face
      agreed common
    rw [singleFace f] at taken
    rw [taken] at step
    obtain ⟨rated, result⟩ := conclude { s.leg l with record := some heard } (fun g => g == f) rfl training
      (engine.imp id fun h => ⟨h.1, fun g on => h.2 g (by
        rw [beq_iff_eq.mp on]
        unfold State.onLeg
        rw [faceLeg_of_place inside.2.1, beq_self_eq_true])⟩)
    exact ⟨_, step, rated.trans agreed, result⟩

end Sys2Proof.Machine

/-! Reports of the lane monitors that reach a leg controller and the error unit (spec/06 R110, spec/07 R126). -/

namespace Sys2Proof.Machine

/-! ### Reports that wait for the error unit -/

/-- The error unit is in the middle of a report, and others wait for it (R126). -/
def State.waitingReports (u : State) (held : Bool) (rs : List Report) : State := { u with table := ⟨false, [], held, rs⟩ }

/-- No slot is on the threshold of a leg that a report is of. -/
def State.unheard (u : State) (rs : List Report) : Prop := ∀ r ∈ rs, ∀ l : LegId, r.leg = some l → u.noSlotOn l .tallyThreshold

theorem takeReport_waiting (u : State) (held : Bool) (rs : List Report) (r : Report) :
    ((u.waitingReports held rs).takeReport r).1 = (u.takeReport r).1.waitingReports held rs :=
  (takeReport_of_same (s := u) (u := u.waitingReports held rs) rfl rfl rfl).trans
    (congrArg (State.waitingReports · held rs) (takeReport_footprint u r)).symm

theorem takeWhole_reached {s : State} {r : Report} {l : LegId} (reached : (s.takeReport r).2 = some l) :
    s.takeWhole r = ((s.takeReport r).1.await ⟨thresholdEvent l, none⟩).holdReports := by
  unfold State.takeWhole
  generalize s.takeReport r = x at *
  obtain ⟨u, answer⟩ := x
  dsimp only at reached
  subst reached
  rfl

/-- A threshold that no slot is on, once it is taken, leaves the error unit to its next report. -/
theorem drain_threshold {u : State} {l : LegId} (quiet : u.noSlotOn l .tallyThreshold) (n : Nat) (rs : List Report) :
    State.drain (n + 1) { u with table := ⟨false, [⟨thresholdEvent l, none⟩], true, rs⟩ } =
      (u.waitingReports true rs).drain n := by
  have absent : State.matchingSlots { u with table := ⟨false, [], true, rs⟩ } (thresholdEvent l) = [] := matchingSlots_eq_nil quiet
  have taken : State.takeWaiting { u with table := ⟨false, [], true, rs⟩ } ⟨thresholdEvent l, none⟩ = u.waitingReports true rs := by
    unfold State.takeWaiting State.fireSlots
    dsimp only
    rw [Option.getD_none, absent]
    rfl
  exact congrArg (State.drain n) taken

theorem drain_reports (rs : List Report) {u : State} {held : Bool} {n : Nat} (quiet : u.unheard rs) (rounds : 2 * rs.length ≤ n) :
    ∃ held' : Bool, (u.waitingReports held rs).drain n = (u.afterReports rs).waitingReports held' [] := by
  induction rs generalizing u held n with
  | nil => exact ⟨held, drain_eq n rfl rfl⟩
  | cons r rs ih =>
    obtain ⟨m, rfl⟩ : ∃ m : Nat, n = m + 2 := ⟨n - 2, by simp only [List.length_cons] at rounds; omega⟩
    have left : 2 * rs.length ≤ m := by simp only [List.length_cons] at rounds; omega
    have later : (u.takeReport r).1.unheard rs := by
      intro x mem l own
      rw [takeReport_footprint]
      exact quiet x (List.mem_cons_of_mem _ mem) l own
    have first : (u.waitingReports held (r :: rs)).drain (m + 2) = ((u.waitingReports held rs).takeWhole r).drain (m + 1) := rfl
    have taken := takeReport_waiting u held rs r
    rw [first]
    cases reached : ((u.waitingReports held rs).takeReport r).2 with
    | none =>
      rw [takeWhole_unreached reached, taken]
      exact ih later (by omega)
    | some l =>
      have own := takeReport_reached reached
      have whole : (u.waitingReports held rs).takeWhole r =
          { (u.takeReport r).1 with table := ⟨false, [⟨thresholdEvent l, none⟩], true, rs⟩ } := by
        rw [takeWhole_reached reached, taken]
        rfl
      have slots : (u.takeReport r).1.noSlotOn l .tallyThreshold := by
        rw [takeReport_footprint]
        exact quiet r List.mem_cons_self l own
      rw [whole, drain_threshold slots]
      exact ih later left

/-- The reports that wait are all taken, in order, where they fire no slot. -/
theorem finish_reports {rs : List Report} {u : State} {held : Bool} (quiet : u.unheard rs) (few : rs.length ≤ 8) :
    (u.waitingReports held rs).finish = { u.afterReports rs with table := noWork } := by
  obtain ⟨held', drained⟩ := drain_reports rs (held := held) (n := 16) quiet (by omega)
  unfold State.finish
  rw [drained]
  rfl

/-! ### A monitor's report -/

section
variable {s v : State} {l : LegId} {r : Report} {take : LegId → State → State} {rs : List Report}

theorem monitorReport_moved (leg : r.leg = some l) (taken : take l s.holdReports = v) (table : v.table = ⟨false, [], true, rs⟩)
    (quiet : v.unheard (r :: rs)) (few : rs.length ≤ 7) (moved : (v.leg l).state ≠ (s.leg l).state) :
    s.monitorReport r take =
      { (v.raiseNotice (s.moveNotice v l (.train .loss))).afterReports (r :: rs) with table := noWork } := by
  have legTaken : s.holdReports.legTake l (.train .loss) (take l) = v.raiseNotice (s.moveNotice v l (.train .loss)) := by
    rw [legTake_moved (by rw [taken]; exact moved), taken]
    rfl
  have waits : { v.raiseNotice (s.moveNotice v l (.train .loss)) with
      table := { (v.raiseNotice (s.moveNotice v l (.train .loss))).table with
        reports := r :: (v.raiseNotice (s.moveNotice v l (.train .loss))).table.reports } } =
      (v.raiseNotice (s.moveNotice v l (.train .loss))).waitingReports true (r :: rs) := by
    have same : (v.raiseNotice (s.moveNotice v l (.train .loss))).table = ⟨false, [], true, rs⟩ := table
    rw [same]
    rfl
  unfold State.monitorReport
  rw [leg]
  dsimp only
  rw [legTaken, waits]
  refine finish_reports quiet ?_
  simp only [List.length_cons]
  omega

theorem monitorReport_same (leg : r.leg = some l) (taken : take l s.holdReports = v) (table : v.table = ⟨false, [], true, rs⟩)
    (quiet : v.unheard (r :: rs)) (few : rs.length ≤ 7) (same : (v.leg l).state = (s.leg l).state) :
    s.monitorReport r take = { v.afterReports (r :: rs) with table := noWork } := by
  have legTaken : s.holdReports.legTake l (.train .loss) (take l) = v := by
    rw [legTake_same (by rw [taken]; exact same), taken]
  have waits : { v with table := { v.table with reports := r :: v.table.reports } } = v.waitingReports true (r :: rs) := by
    rw [table]
    rfl
  unfold State.monitorReport
  rw [leg]
  dsimp only
  rw [legTaken, waits]
  refine finish_reports quiet ?_
  simp only [List.length_cons]
  omega

end

/-! ### The delivery of a loss -/

section
variable {s t : State} {f : FaceId} {l : LegId} {r : Report}

theorem handSignalLost_quiet (leg : r.leg = some l) (taken : s.monitorReport r (fun l s => s.takeSignalLoss l f) = t)
    (rest : t.tableAtRest) (quiet : t.noSlotOn l .signalLost) : s.handSignalLost f r = t := by
  unfold State.handSignalLost State.legSource
  rw [taken, leg]
  exact tableTake_eq (ev := ⟨l, .signalLost, none⟩) rest quiet

theorem handOver_signalLost (kind : r.kind = .signalLost) (face : r.face = some f) : s.handOver r = s.handSignalLost f r := by
  unfold State.handOver
  rw [kind, face]

theorem handOver_lockLost (kind : r.kind = .lockLost) (face : r.face = some f) : s.handOver r = s.handLockLost f r := by
  unfold State.handOver
  rw [kind, face]

end

/-! ### The commands -/

section
variable {s : State} {f : FaceId}

theorem signalLost_gone {d : Delivery} (other : d ≠ .delivered) (gone : (s.monitor f).signal ≠ .present) :
    exec (.signalLost ⟨f, d⟩) s = .next s := by
  cases d with
  | delivered => exact absurd rfl other
  | now | raised => exact congrArg Host.Outcome.next (if_neg gone)

theorem lockLost_gone {d : Delivery} (other : d ≠ .delivered)
    (gone : ¬((s.monitor f).signal = .present ∧ (s.monitor f).lock = .locked)) : exec (.lockLost ⟨f, d⟩) s = .next s := by
  cases d with
  | delivered => exact absurd rfl other
  | now | raised => exact congrArg Host.Outcome.next (if_neg gone)

theorem signalLost_now (present : (s.monitor f).signal = .present) (empty : s.inFlight = []) :
    exec (.signalLost ⟨f, .now⟩) s = .next ((s.loseSignal f).handSignalLost f (s.faceReport .signalLost f none)) := by
  have hands : (s.loseSignal f).handNow (s.faceReport .signalLost f none) =
      (s.loseSignal f).handSignalLost f (s.faceReport .signalLost f none) :=
    (handNow_empty (s := s.loseSignal f) empty).trans (handOver_signalLost rfl rfl)
  exact congrArg Host.Outcome.next ((if_pos present).trans hands)

theorem signalLost_raised (present : (s.monitor f).signal = .present) :
    exec (.signalLost ⟨f, .raised⟩) s = .next ((s.loseSignal f).raiseReport (s.faceReport .signalLost f none)) :=
  congrArg Host.Outcome.next (if_pos present)

theorem inFlight_loseLock (s : State) (f : FaceId) : (s.loseLock f).inFlight = s.inFlight := by
  unfold State.loseLock
  rw [modChecker_footprint]
  rfl

theorem lockLost_now (present : (s.monitor f).signal = .present) (locked : (s.monitor f).lock = .locked) (empty : s.inFlight = []) :
    exec (.lockLost ⟨f, .now⟩) s = .next ((s.loseLock f).handLockLost f (s.faceReport .lockLost f none)) := by
  have hands : (s.loseLock f).handNow (s.faceReport .lockLost f none) =
      (s.loseLock f).handLockLost f (s.faceReport .lockLost f none) :=
    (handNow_empty (s := s.loseLock f) ((inFlight_loseLock s f).trans empty)).trans (handOver_lockLost rfl rfl)
  exact congrArg Host.Outcome.next ((if_pos ⟨present, locked⟩).trans hands)

theorem lockLost_raised (present : (s.monitor f).signal = .present) (locked : (s.monitor f).lock = .locked) :
    exec (.lockLost ⟨f, .raised⟩) s = .next ((s.loseLock f).raiseReport (s.faceReport .lockLost f none)) :=
  congrArg Host.Outcome.next (if_pos ⟨present, locked⟩)

end

end Sys2Proof.Machine

/-! Losses that end a link (spec/06 R111). -/

namespace Sys2Proof.Machine

/-! ### A loss at a face -/

/-- The monitor of a face, and checkers, have changed, and nothing else. -/
structure State.lossAt (s u : State) (f : FaceId) : Prop where
  rest : u = { s with monitors := u.monitors, tests := u.tests }
  other : ∀ g : FaceId, g ≠ f → u.monitor g = s.monitor g

section
variable {s u : State} {f : FaceId} {l : LegId}

theorem lossAt_loseSignal (s : State) (f : FaceId) : s.lossAt (s.loseSignal f) f :=
  ⟨rfl, fun g other => State.monitor_modMonitor_other s f g _ other⟩

theorem lossAt_loseLock (s : State) (f : FaceId) : s.lossAt (s.loseLock f) f where
  rest := by
    unfold State.loseLock
    rw [modChecker_footprint]
    rfl
  other g other := by
    unfold State.loseLock
    rw [modChecker_footprint]
    exact State.monitor_modMonitor_other s f g _ other

/-- A loss on a path that is not BENCHED leaves an attempt to begin as it would. -/
theorem State.lossAt.attemptLike (loss : s.lossAt u f) (live : s.path (facePath f) ≠ .benched) (l : LegId) : s.attemptLike u l where
  place p := by rw [loss.rest]; rfl
  slip := by rw [loss.rest]; rfl
  training := by rw [loss.rest]; rfl
  target := by rw [loss.rest]; rfl
  settled g _ := by
    have face : u.face g = s.face g := by rw [loss.rest]; rfl
    rw [face]
    rfl
  enters p _ away benched := by
    have path : u.path p = s.path p := by rw [loss.rest]; rfl
    exact absurd (path.symm.trans benched) away
  stays p q _ _ benched _ := by
    have path : u.path p = s.path p := by rw [loss.rest]; rfl
    refine ⟨path.trans benched, fun g own => ⟨loss.other g fun same => live ?_, ?_⟩⟩
    · rw [← same, own]
      exact benched
    · have face : u.face g = s.face g := by rw [loss.rest]; rfl
      rw [face]
      rfl

/-! ### What parks a leg -/

/-- Parking the leg in `u` leaves its paths as parking it in `s` does: a path that `u` has PARKED has entered that state or was in
it, and the leg's faces differ by what a settle point and a status change. -/
structure State.parkLike (s u : State) (l : LegId) : Prop where
  place : ∀ p : PathId, u.place p = s.place p
  settled : ∀ f : FaceId, s.faceLeg f = some l → (s.face f).settled.sameSet (u.face f).settled
  enters : ∀ p : PathId, s.pathLeg p = some l → s.path p ≠ .parked → u.path p = .parked → s.pathRests u p
  stays : ∀ p : PathId, s.pathLeg p = some l → s.path p = .parked → u.path p = .parked ∧ s.pathKept u p

theorem pathRests_of_restLike {t v : State} {p : PathId} (h : s.pathRests t p) (like : t.restLike v) : s.pathRests v p := by
  intro g own
  obtain ⟨signal, lock, slips, face⟩ := h g own
  rw [like.monitor g]
  exact ⟨signal, lock, slips, Face.sameSet_trans face (like.face g)⟩

theorem pathKept_of_restLike {t v : State} {p : PathId} (h : s.pathKept t p) (like : t.restLike v) : s.pathKept v p := by
  intro g own
  obtain ⟨monitor, face⟩ := h g own
  rw [like.monitor g]
  exact ⟨monitor, Face.sameSet_trans face (like.face g)⟩

theorem legParked_of_parkLike {t : State} (before : s.parkLike u l) (after : (u.parkLeg l).restLike t) : s.legParked t l := by
  intro p own
  have place : u.pathLeg p = some l := by
    rw [State.pathLeg, before.place]
    exact own
  have mine (f : FaceId) (hf : facePath f = p) : u.faceLeg f = some l := by rw [State.faceLeg, hf, place]
  have ownFace (f : FaceId) (hf : facePath f = p) : s.faceLeg f = some l := by rw [State.faceLeg, hf, own]
  have still (there : u.path p = .parked) (f : FaceId) (hf : facePath f = p) :
      (u.parkLeg l).monitor f = u.monitor f ∧ (u.parkLeg l).face f = u.face f := by
    rw [monitor_parkLeg, face_parkLeg, hf, if_neg fun h => h.2 there, if_neg fun h => h.2 there]
    exact ⟨rfl, rfl⟩
  refine ⟨by rw [after.path, path_parkLeg, if_pos place], ?_⟩
  by_cases parked : s.path p = .parked
  · rw [if_pos parked]
    obtain ⟨there, kept⟩ := before.stays p own parked
    refine pathKept_of_restLike (fun f hf => ?_) after
    obtain ⟨monitor, face⟩ := still there f hf
    rw [monitor, face]
    exact kept f hf
  · rw [if_neg parked]
    by_cases there : u.path p = .parked
    · refine pathRests_of_restLike (fun f hf => ?_) after
      obtain ⟨monitor, face⟩ := still there f hf
      rw [monitor, face]
      exact before.enters p own parked there f hf
    · refine pathRests_of_restLike (fun f hf => ?_) after
      rw [monitor_parkLeg, face_parkLeg, hf, if_pos ⟨mine f hf, there⟩, if_pos ⟨mine f hf, there⟩]
      exact ⟨rfl, rfl, rfl, before.settled f (ownFace f hf)⟩

theorem State.lossAt.parkLike (loss : s.lossAt u f) (live : s.path (facePath f) ≠ .parked) (l : LegId) : s.parkLike u l where
  place p := by rw [loss.rest]; rfl
  settled g _ := by
    have face : u.face g = s.face g := by rw [loss.rest]; rfl
    rw [face]
    rfl
  enters p _ away there := by
    have path : u.path p = s.path p := by rw [loss.rest]; rfl
    exact absurd (path.symm.trans there) away
  stays p _ there := by
    have path : u.path p = s.path p := by rw [loss.rest]; rfl
    refine ⟨path.trans there, fun g own => ⟨loss.other g fun same => live ?_, ?_⟩⟩
    · rw [← same, own]
      exact there
    · have face : u.face g = s.face g := by rw [loss.rest]; rfl
      rw [face]
      rfl

end

/-! ### A series that a loss starts -/

/-- The state from which the leg's next series starts, while the error unit is in the middle of the loss: the notices `first`
have been raised, and what bears on the series is as in `s`. -/
structure State.lossTaken (s u : State) (l : LegId) (first : List Notice) : Prop where
  like : s.attemptLike u l
  park : s.parkLike u l
  legs : u.legs = s.legs
  sent : u.sent = s.sent
  errors : u.errors = s.errors
  notices : u.notices = first.foldl NoticeQueue.take s.notices
  clock : u.clock = s.clock
  slots : u.slots = s.slots
  owed : u.resultOwed = s.resultOwed
  inFlight : u.inFlight = []
  table : u.table = ⟨false, [], true, []⟩

/-- Notices have been raised. -/
def State.noticed (s : State) (ns : List Notice) : State := { s with notices := ns.foldl NoticeQueue.take s.notices }

/-- A loss has taken the leg to its next series (R111): all that the statements say of it, and the tests. -/
def State.wentDown (s u t : State) (l : LegId) (w : Nat) (g : PosSet) (first : List Notice) (r : Report) : Prop :=
  (s.seriesBegun t l .loss w g ∧ (t.leg l).excluded = (s.leg l).excluded
    ∧ (t.errors = ((s.noticed (first ++ [.legState s.clock.stamp l (s.leg l).state .training (.train .loss) w])).takeReport r).1.errors
      ∧ t.notices =
        ((s.noticed (first ++ [.legState s.clock.stamp l (s.leg l).state .training (.train .loss) w])).takeReport r).1.notices)
    ∧ ∀ j : LegId, j ≠ l → t.leg j = s.leg j)
  ∧ t.tests = u.tests ∧ t.tableAtRest ∧ t.slots = s.slots

section
variable {s b u : State} {l : LegId} {w : Nat} {g : PosSet} {first : List Notice} {r : Report} {take : LegId → State → State}

theorem monitorReport_series (taken : s.lossTaken u l first) (legs : b.legs = s.legs) (leg : r.leg = some l)
    (starts : take l b.holdReports = u.startSeries l .loss) (away : (s.leg l).state ≠ .training)
    (quiet : s.noSlotOn l .tallyThreshold)
    (chosen : selectWidth (s.leg l).configuredWidth (s.leg l).minimumWidth (s.leg l).excluded = some (w, g)) :
    s.wentDown u (b.monitorReport r take) l w g first r := by
  have own : u.leg l = s.leg l := by unfold State.leg; rw [taken.legs]
  have base : b.leg l = s.leg l := by unfold State.leg; rw [legs]
  have chosen' : selectWidth (u.leg l).configuredWidth (u.leg l).minimumWidth (u.leg l).excluded = some (w, g) := by
    rw [own]
    exact chosen
  have begun := seriesBegun_startSeries taken.like taken.sent .loss chosen'
  have series := leg_startSeries (s := u) (l := l) .loss chosen'
  have kept := othersKept_startSeries (s := u) (l := l) .loss chosen'
  have work := legWork_startSeries (s := u) (l := l) (c := .loss) chosen'
  have notice := moveNotice_startSeries (s := b) (u := u) (l := l) (c := .loss) (e := .train .loss) Cause.noConfusion chosen'
  have stamp : u.stamp = s.clock.stamp := by unfold State.stamp; rw [taken.clock]
  rw [stamp, base] at notice
  generalize u.startSeries l .loss = v at *
  obtain ⟨legsKept, -⟩ := kept
  have fields : v.table = u.table ∧ v.slots = u.slots ∧ v.errors = u.errors ∧ v.notices = u.notices ∧ v.clock = u.clock
      ∧ v.tests = u.tests := by
    rw [work]
    exact ⟨rfl, rfl, rfl, rfl, rfl, rfl⟩
  obtain ⟨table, slots, errors, notices, clock, tests⟩ := fields
  have unheard : v.unheard [r] := by
    intro x mem k own'
    rw [List.mem_singleton.mp mem, leg] at own'
    obtain rfl : l = k := Option.some.inj own'
    exact noSlotOn_of_slots (slots.trans taken.slots) quiet
  have report := monitorReport_moved (take := take) leg starts (table.trans taken.table) unheard (Nat.zero_le _) (by
    rw [series, base]
    exact away.symm)
  rw [notice] at report
  have reports := afterReports_of_same (s := s.noticed (first ++ [.legState s.clock.stamp l (s.leg l).state .training (.train .loss) w]))
    (u := v.raiseNotice (.legState s.clock.stamp l (s.leg l).state .training (.train .loss) w)) [r] (errors.trans taken.errors)
    (by
      show v.notices.take _ = (first ++ [_]).foldl NoticeQueue.take s.notices
      rw [notices, taken.notices, List.foldl_append]
      rfl) (clock.trans taken.clock)
  rw [reports] at report
  rw [report]
  refine ⟨⟨begun, ?_, ⟨rfl, rfl⟩, fun j hj => ?_⟩, tests, rfl, slots.trans taken.slots⟩
  · show (v.leg l).excluded = _
    rw [series, own]
    rfl
  · refine (legsKept j hj).1.trans ?_
    unfold State.leg
    rw [taken.legs]

/-- The leg goes to FAILED and reports it, in whatever state the error unit is (R34). -/
theorem enterFailed_mid (c : FailCause) : u.enterFailed l c =
    (u.failedAs l c).reportMid (u.errorAtLeg l .legFailed .failed (u.leg l).attemptCount (some (failCauseCode c))) := by
  have leg := leg_failedAs (u := u) (l := l) c
  have work : u.legWork (u.failedAs l c) := legWork_parkedAs _ _
  have reports : u.enterFailed l c =
      (u.failedAs l c).reportMid ((u.failedAs l c).legReport .legFailed l (some (failCauseCode c))) := rfl
  rw [reports]
  generalize u.failedAs l c = v at *
  have stamp : v.stamp = u.clock.stamp := by rw [State.stamp, work]
  unfold State.legReport State.errorAtLeg
  rw [leg, stamp]
  rfl

/-- A report made while the error unit is in the middle of another one waits for it. -/
theorem reportMid_held (empty : u.inFlight = []) (held : u.table.held = true) (r : Report) : u.reportMid r = u.queueReport r := by
  unfold State.reportMid
  rw [empty, held]
  rfl

/-- A loss has taken the leg to FAILED, as no width qualifies (R34). -/
def State.wentToFailed (s t : State) (l : LegId) (r : Report) : Prop :=
  ((t.leg l).state = .failed ∧ (t.leg l).failureCause = some .width ∧ (t.leg l).attemptCount = 0
    ∧ s.legParked t l ∧ t.sent = s.sent ∧ t.resultOwed = s.resultOwed
    ∧ (t.errors = ((s.noticed [.legState s.clock.stamp l (s.leg l).state .failed (.fail .width) 0]).afterReports
          [r, s.errorAtLeg l .legFailed .failed 0 (some 12)]).errors
      ∧ t.notices = ((s.noticed [.legState s.clock.stamp l (s.leg l).state .failed (.fail .width) 0]).afterReports
          [r, s.errorAtLeg l .legFailed .failed 0 (some 12)]).notices)
    ∧ ∀ j : LegId, j ≠ l → t.leg j = s.leg j)
  ∧ t.tableAtRest ∧ t.slots = s.slots

theorem monitorReport_unfit (taken : s.lossTaken u l []) (legs : b.legs = s.legs) (leg : r.leg = some l)
    (starts : take l b.holdReports = u.startSeries l .loss) (away : (s.leg l).state ≠ .failed)
    (quiet : s.noSlotOn l .tallyThreshold)
    (unfit : selectWidth (s.leg l).configuredWidth (s.leg l).minimumWidth (s.leg l).excluded = none) :
    s.wentToFailed (b.monitorReport r take) l r := by
  have own : u.leg l = s.leg l := by unfold State.leg; rw [taken.legs]
  have base : b.leg l = s.leg l := by unfold State.leg; rw [legs]
  have inner : (u.modLeg l (fun x => x.series .loss)).leg l = (s.leg l).series .loss := (State.leg_modLeg u l _).trans (by rw [own])
  have series := startSeries_none (u := u) (l := l) .loss (by rw [own]; exact unfit)
  have failed := leg_failedAs (u := u.modLeg l (fun x => x.series .loss)) (l := l) .width
  have others (j : LegId) (hj : j ≠ l) := leg_failedAs_other (u := u.modLeg l (fun x => x.series .loss)) .width hj
  have work : (u.modLeg l (fun x => x.series .loss)).legWork ((u.modLeg l (fun x => x.series .loss)).failedAs l .width) :=
    legWork_parkedAs _ _
  have sent : ((u.modLeg l (fun x => x.series .loss)).failedAs l .width).sent = u.sent := sent_parkedAs _ _
  have park : s.parkLike (u.modLeg l (fun x => x.series .loss)) l := ⟨taken.park.place, taken.park.settled, taken.park.enters, taken.park.stays⟩
  have parked : s.legParked ((u.modLeg l (fun x => x.series .loss)).failedAs l .width) l :=
    legParked_of_parkLike park (restLike_trans (restLike_modLeg _ l _) (restLike_setLegState .failed))
  have mid := enterFailed_mid (u := u.modLeg l (fun x => x.series .loss)) (l := l) .width
  have report : (u.modLeg l (fun x => x.series .loss)).errorAtLeg l .legFailed .failed
      ((u.modLeg l (fun x => x.series .loss)).leg l).attemptCount (some (failCauseCode .width)) =
      s.errorAtLeg l .legFailed .failed 0 (some 12) := by
    have clock : (u.modLeg l (fun x => x.series .loss)).clock = s.clock := taken.clock
    unfold State.errorAtLeg
    rw [inner, clock]
    rfl
  rw [report] at mid
  rw [series, mid] at starts
  rw [inner] at failed
  generalize (u.modLeg l (fun x => x.series .loss)).failedAs l .width = v at *
  have fields : v.table = u.table ∧ v.slots = u.slots ∧ v.errors = u.errors ∧ v.notices = u.notices ∧ v.clock = u.clock
      ∧ v.inFlight = u.inFlight ∧ v.resultOwed = u.resultOwed := by
    rw [work]
    exact ⟨rfl, rfl, rfl, rfl, rfl, rfl, rfl⟩
  obtain ⟨table, slots, errors, notices, clock, inFlight, owed⟩ := fields
  have waiting := reportMid_held (u := v) (inFlight.trans taken.inFlight) (by rw [table, taken.table])
    (s.errorAtLeg l .legFailed .failed 0 (some 12))
  rw [waiting] at starts
  have tables : (v.queueReport (s.errorAtLeg l .legFailed .failed 0 (some 12))).table =
      ⟨false, [], true, [s.errorAtLeg l .legFailed .failed 0 (some 12)]⟩ := by
    unfold State.queueReport
    rw [table, taken.table]
    rfl
  have unheard : (v.queueReport (s.errorAtLeg l .legFailed .failed 0 (some 12))).unheard
      [r, s.errorAtLeg l .legFailed .failed 0 (some 12)] := by
    intro x mem k own'
    have same : x.leg = some l := by
      rcases List.mem_cons.mp mem with rfl | mem
      · exact leg
      · rw [List.mem_singleton.mp mem]
        rfl
    obtain rfl : l = k := Option.some.inj (same.symm.trans own')
    exact noSlotOn_of_slots (slots.trans taken.slots) quiet
  have result := monitorReport_moved (take := take) leg starts tables unheard (by simp) (by
    show (v.leg l).state ≠ _
    rw [failed, base]
    exact away.symm)
  have notice : b.moveNotice (v.queueReport (s.errorAtLeg l .legFailed .failed 0 (some 12))) l (.train .loss) =
      .legState s.clock.stamp l (s.leg l).state .failed (.fail .width) 0 := by
    have stamp : (v.queueReport (s.errorAtLeg l .legFailed .failed 0 (some 12))).stamp = s.clock.stamp := by
      show v.clock.stamp = _
      rw [clock, taken.clock]
    have home : (v.queueReport (s.errorAtLeg l .legFailed .failed 0 (some 12))).leg l = v.leg l := rfl
    unfold State.moveNotice
    rw [stamp, home, failed, base]
    rfl
  rw [notice] at result
  have reports := afterReports_of_same (s := s.noticed [.legState s.clock.stamp l (s.leg l).state .failed (.fail .width) 0])
    (u := (v.queueReport (s.errorAtLeg l .legFailed .failed 0 (some 12))).raiseNotice
      (.legState s.clock.stamp l (s.leg l).state .failed (.fail .width) 0))
    [r, s.errorAtLeg l .legFailed .failed 0 (some 12)] (errors.trans taken.errors)
    (by
      show v.notices.take _ = [_].foldl NoticeQueue.take s.notices
      rw [notices, taken.notices]
      rfl) (clock.trans taken.clock)
  rw [reports] at result
  rw [result]
  have legOf (k : LegId) : State.leg v k = v.leg k := rfl
  refine ⟨⟨?_, ?_, ?_, parked, sent.trans taken.sent, owed.trans taken.owed, ⟨rfl, rfl⟩, fun j hj => ?_⟩, rfl, slots.trans taken.slots⟩
  · show (v.leg l).state = _
    rw [failed]
  · show (v.leg l).failureCause = _
    rw [failed]
    rfl
  · show (v.leg l).attemptCount = _
    rw [failed]
    rfl
  · refine (others j hj).trans ((State.leg_modLeg_other u l j _ hj).trans ?_)
    unfold State.leg
    rw [taken.legs]

end

end Sys2Proof.Machine

/-! Losses on PASSING and TESTING paths (spec/06 R111). -/

namespace Sys2Proof.Machine

section
variable {s b : State} {f : FaceId} {q : Place} {l : LegId} {r : Report}

/-! ### What the leg controller makes of a loss -/

theorem takeSignalLoss_passing (own : s.faceLeg f = some l) (passing : s.path (facePath f) = .passing)
    (linked : isLinked (s.leg l).state = true) : s.takeSignalLoss l f = s.startSeries l .loss := by
  unfold State.takeSignalLoss State.loseLink
  rw [if_neg (not_not.mpr own), passing]
  exact if_pos linked

theorem takeSignalLoss_testing (own : s.faceLeg f = some l) (testing : s.path (facePath f) = .testing) :
    s.takeSignalLoss l f = (s.endTest l .loss).startSeries l .loss := by
  unfold State.takeSignalLoss
  rw [if_neg (not_not.mpr own), testing]

theorem takeLockLoss_passing (own : s.faceLeg f = some l) (passing : s.path (facePath f) = .passing)
    (linked : isLinked (s.leg l).state = true) : s.takeLockLoss l f = s.startSeries l .loss := by
  unfold State.takeLockLoss State.loseLink
  rw [if_neg (not_not.mpr own), passing]
  exact if_pos linked

theorem takeLockLoss_testing (own : s.faceLeg f = some l) (testing : s.path (facePath f) = .testing) :
    s.takeLockLoss l f = s := by
  unfold State.takeLockLoss
  rw [if_neg (not_not.mpr own), testing]

/-! ### The state from which the series starts -/

theorem lossTaken_held (loss : s.lossAt b f) (benched : s.path (facePath f) ≠ .benched) (parked : s.path (facePath f) ≠ .parked)
    (rest : s.tableAtRest) (empty : s.inFlight = []) : s.lossTaken b.holdReports l [] := by
  have like := loss.attemptLike benched l
  have park := loss.parkLike parked l
  have foot := loss.rest
  have fields : b.legs = s.legs ∧ b.sent = s.sent ∧ b.errors = s.errors ∧ b.notices = s.notices ∧ b.clock = s.clock
      ∧ b.slots = s.slots ∧ b.resultOwed = s.resultOwed ∧ b.inFlight = s.inFlight ∧ b.table = s.table := by
    rw [foot]
    exact ⟨rfl, rfl, rfl, rfl, rfl, rfl, rfl, rfl, rfl⟩
  obtain ⟨legs, sent, errors, notices, clock, slots, owed, inFlight, table⟩ := fields
  exact {
    like := ⟨like.place, like.slip, like.training, like.target, like.settled, like.enters, like.stays⟩
    park := ⟨park.place, park.settled, park.enters, park.stays⟩
    legs := legs
    sent := sent
    errors := errors
    notices := notices
    clock := clock
    slots := slots
    owed := owed
    inFlight := inFlight.trans empty
    table := by
      unfold State.holdReports
      rw [table, rest]
      rfl }

/-- The test that a loss ends (R155), before the series. -/
theorem lossTaken_endTest {u : State} {x : TestRecord} (taken : s.lossTaken u l []) (test : u.test l = some x)
    (running : x.status = .running) :
    s.lossTaken (u.endTest l .loss) l [.testDone s.clock.stamp l .loss x.elapsed x.checkers] := by
  have foot := endTest_footprint (s := u) .loss test running
  have notices : (u.endTest l .loss).notices = s.notices.take (.testDone s.clock.stamp l .loss x.elapsed x.checkers) := by
    rw [foot]
    show u.notices.take (.testDone u.clock.stamp l .loss x.elapsed x.checkers) = _
    rw [taken.notices, taken.clock]
    rfl
  have like := taken.like
  have park := taken.park
  generalize u.endTest l .loss = v at *
  rw [foot] at notices ⊢
  exact {
    like := ⟨like.place, like.slip, like.training, like.target, like.settled, like.enters, like.stays⟩
    park := ⟨park.place, park.settled, park.enters, park.stays⟩
    legs := taken.legs
    sent := taken.sent
    errors := taken.errors
    notices := notices
    clock := taken.clock
    slots := taken.slots
    owed := taken.owed
    inFlight := taken.inFlight
    table := taken.table }

/-! ### The takings together -/

theorem linked_not {st : LegState} (linked : isLinked st = true) : st ≠ .training ∧ st ≠ .failed := by
  cases st with
  | active | degraded => exact ⟨by decide, by decide⟩
  | _ => exact Bool.noConfusion linked

theorem checkerOf_loseLock : (s.loseLock f).checkerOf f = (s.checkerOf f).map Checker.unlock :=
  checkerOf_modChecker_const (s := s.modMonitor f (fun m => { m with lock := .unlocked })) (f := f) Checker.unlock

theorem monitor_loseLock : (s.loseLock f).monitor f = { s.monitor f with lock := .unlocked } := by
  unfold State.loseLock
  rw [modChecker_footprint]
  exact State.monitor_modMonitor s f _

theorem unlock_eq (x : Checker) : x.unlock =
    if x.state = .lost then x else ⟨.lost, x.units, x.mismatched, min 255 (x.losses + 1), 0#31, 0, 0, 0, 0⟩ := by
  unfold Checker.unlock
  cases state : x.state <;> rfl

/-- A loss of lock on a TESTING path: the error unit alone takes it. -/
theorem lockLoss_testing (loss : s.lossAt b f) (own : s.faceLeg f = some l) (testing : s.path (facePath f) = .testing)
    (rest : s.tableAtRest) (quiet : s.noSlotOn l .tallyThreshold) (leg : r.leg = some l) :
    b.handLockLost f r = (b.takeReport r).1 := by
  have foot := loss.rest
  have fields : b.table = s.table ∧ b.slots = s.slots ∧ b.faceLeg f = s.faceLeg f ∧ b.path (facePath f) = s.path (facePath f) := by
    rw [foot]
    exact ⟨rfl, rfl, rfl, rfl⟩
  obtain ⟨table, slots, faceLeg, path⟩ := fields
  have taken : b.holdReports.takeLockLoss l f = b.holdReports := takeLockLoss_testing (faceLeg.trans own) (path.trans testing)
  have held : b.holdReports.table = ⟨false, [], true, []⟩ := by
    unfold State.holdReports
    rw [table, rest]
    rfl
  have unheard : b.holdReports.unheard [r] := by
    intro x mem k own'
    rw [List.mem_singleton.mp mem, leg] at own'
    obtain rfl : l = k := Option.some.inj own'
    exact noSlotOn_of_slots slots quiet
  have result := monitorReport_same (s := b) (take := fun l s => s.takeLockLoss l f) leg taken held unheard (Nat.zero_le _) rfl
  have same := takeReport_of_same (s := b) (u := b.holdReports) (r := r) rfl rfl rfl
  have back : ({ (b.holdReports.takeReport r).1 with table := noWork } : State) = (b.takeReport r).1 := by
    rw [same, takeReport_footprint b r, ← rest, ← table]
    rfl
  exact result.trans back

end

/-- Settles O57, by what the leg controller makes of the loss and by the reports in their order. -/
theorem lossesEndTheLink : Obligations.LossesEndTheLink := by
  intro s f q place rest l m old error unlocked
  have own : s.faceLeg f = some l := faceLeg_of_place place
  have report (k : ErrorKind) : s.faceReport k f none = error k := faceReport_eq own rfl rfl rfl k none
  refine ⟨fun d other => ⟨signalLost_gone other, fun gone => lockLost_gone other fun h => gone.elim (· h.1) (· h.2)⟩,
    fun present => ⟨?raisedSignal, fun locked => ?raisedLock⟩, fun empty quiet => ?taken⟩
  case raisedSignal =>
    rw [signalLost_raised present, report]
    rfl
  case raisedLock =>
    refine ⟨_, lockLost_raised present locked, monitor_loseLock, ?_, ?_, ?_⟩
    · rw [report]
      exact congrArg (· ++ [error .lockLost]) (inFlight_loseLock s f)
    · have checkers := checkerOf_loseLock (s := s) (f := f)
      rw [funext unlock_eq] at checkers
      exact checkers
    · have foot := (lossAt_loseLock s f).rest
      generalize s.loseLock f = b at *
      rw [foot]
      exact ⟨rfl, rfl, rfl, rfl⟩
  case taken =>
    have notBenched {st : PathState} (here : s.path (facePath f) = st) (live : st ≠ .benched ∧ st ≠ .parked) :
        s.path (facePath f) ≠ .benched ∧ s.path (facePath f) ≠ .parked := by
      rw [here]
      exact live
    intro queued
    refine ⟨fun w g chosen => ?widths, fun unfit passing linked present still => ?failed,
      fun testing present locked => ?lockTest⟩
    case widths =>
      intro down
      refine ⟨fun passing linked present => ⟨fun still => ?signal, fun locked => ?lock⟩,
        fun x testing state test running present still => ?test⟩
      case signal =>
        obtain ⟨benched, parked⟩ := notBenched passing (by decide)
        have taken := lossTaken_held (l := l) (lossAt_loseSignal s f) benched parked rest empty
        have starts := takeSignalLoss_passing (s := (s.loseSignal f).holdReports) own passing linked
        obtain ⟨result, -, atRest, slots⟩ := monitorReport_series (b := s.loseSignal f) (r := error .signalLost)
          (take := fun l s => s.takeSignalLoss l f) taken rfl rfl starts (linked_not linked).1 quiet chosen
        refine ⟨_, ?_, result⟩
        rw [signalLost_now present empty, report, handSignalLost_quiet rfl rfl atRest (noSlotOn_of_slots slots still)]
      case lock =>
        obtain ⟨benched, parked⟩ := notBenched passing (by decide)
        have foot := (lossAt_loseLock s f).rest
        have taken := lossTaken_held (l := l) (lossAt_loseLock s f) benched parked rest empty
        have step := lockLost_now present locked empty
        generalize s.loseLock f = b at *
        have fields : b.legs = s.legs ∧ b.faceLeg f = s.faceLeg f ∧ b.path (facePath f) = s.path (facePath f)
            ∧ b.leg l = s.leg l := by
          rw [foot]
          exact ⟨rfl, rfl, rfl, rfl⟩
        obtain ⟨legs, faceLeg, path, leg⟩ := fields
        have starts := takeLockLoss_passing (s := b.holdReports) (faceLeg.trans own) (path.trans passing)
          ((congrArg (fun x : Leg => isLinked x.state) leg).trans linked)
        obtain ⟨result, -, -, -⟩ := monitorReport_series (b := b) (r := error .lockLost)
          (take := fun l s => s.takeLockLoss l f) taken legs rfl starts (linked_not linked).1 quiet chosen
        rw [report] at step
        exact ⟨_, step, result⟩
      case test =>
        obtain ⟨benched, parked⟩ := notBenched testing (by decide)
        have held := lossTaken_held (l := l) (lossAt_loseSignal s f) benched parked rest empty
        have foot := endTest_footprint (s := (s.loseSignal f).holdReports) (l := l) .loss test running
        have taken := lossTaken_endTest held (x := x) test running
        have starts := takeSignalLoss_testing (s := (s.loseSignal f).holdReports) own testing
        obtain ⟨result, tests, atRest, slots⟩ := monitorReport_series (b := s.loseSignal f) (r := error .signalLost)
          (take := fun l s => s.takeSignalLoss l f) taken rfl rfl starts (by rw [show (s.leg l).state = .test from state]; decide)
          quiet chosen
        refine ⟨_, ?_, result, ?_⟩
        · rw [signalLost_now present empty, report, handSignalLost_quiet rfl rfl atRest (noSlotOn_of_slots slots still)]
        · unfold State.test
          rw [tests, foot]
          exact modAt_same _ _ _
    case failed =>
      obtain ⟨benched, parked⟩ := notBenched passing (by decide)
      have taken := lossTaken_held (l := l) (lossAt_loseSignal s f) benched parked rest empty
      have starts := takeSignalLoss_passing (s := (s.loseSignal f).holdReports) own passing linked
      obtain ⟨result, atRest, slots⟩ := monitorReport_unfit (b := s.loseSignal f) (r := error .signalLost)
        (take := fun l s => s.takeSignalLoss l f) taken rfl rfl starts (linked_not linked).2 quiet unfit
      refine ⟨_, ?_, result⟩
      rw [signalLost_now present empty, report, handSignalLost_quiet rfl rfl atRest (noSlotOn_of_slots slots still)]
    case lockTest =>
      have loss := lossAt_loseLock s f
      have foot := loss.rest
      have monitor := monitor_loseLock (s := s) (f := f)
      have checkers := checkerOf_loseLock (s := s) (f := f)
      rw [funext unlock_eq] at checkers
      have step := lockLost_now present locked empty
      rw [report] at step
      generalize s.loseLock f = b at *
      rw [lockLoss_testing loss own testing rest quiet rfl] at step
      have fields : b.errors = s.errors ∧ b.notices = s.notices ∧ b.clock = s.clock ∧ b.legs = s.legs ∧ b.paths = s.paths := by
        rw [foot]
        exact ⟨rfl, rfl, rfl, rfl, rfl⟩
      obtain ⟨errors, notices, clock, legs, paths⟩ := fields
      have same := takeReport_of_same (r := error .lockLost) errors notices clock
      rw [same] at step
      exact ⟨_, step, legs, paths, monitor, rfl, checkers⟩

end Sys2Proof.Machine

/-! What a leg controller does that neither the error unit nor a reaction slot senses (spec/06 R113, R114). -/

namespace Sys2Proof.Machine

/-! ### A queue that only shrinks -/

/-- No job has come to be pending, and the mask is as it was. -/
structure Engine.within (x y : Engine) : Prop where
  mask : y.mask = x.mask
  queue : ∀ (f : FaceId) (j : Job), y.queue[f] = some j → x.queue[f] = some j

theorem Engine.within_refl (x : Engine) : x.within x := ⟨rfl, fun _ _ => id⟩

theorem Engine.within_trans {x y z : Engine} (h : x.within y) (h' : y.within z) : x.within z :=
  ⟨h'.mask.trans h.mask, fun f j pending => h.queue f j (h'.queue f j pending)⟩

theorem Engine.within_sameBut {x y : Engine} (h : x.sameBut y) : x.within y := by
  refine ⟨?_, fun f j => ?_⟩
  · rw [h.rest]
  · rw [h.rest]
    exact id

theorem Engine.within_cancels (fs : List FaceId) (x : Engine) : x.within (fs.foldl Engine.cancel x) := by
  induction fs generalizing x with
  | nil => exact Engine.within_refl x
  | cons f fs ih =>
    have first : x.within (x.cancel f) := by
      refine ⟨rfl, fun g j pending => ?_⟩
      rw [queue_cancel] at pending
      split at pending
      · cases pending
      · exact pending
    exact Engine.within_trans first (ih (x.cancel f))

theorem Engine.noneUrgent_within {x y : Engine} (h : x.within y) (none_ : x.noneUrgent) : y.noneUrgent := by
  intro f j pending sweep
  rw [h.mask]
  exact none_ f j (h.queue f j pending) sweep

/-! ### What is not sensed -/

/-- No slot has fired, nothing waits that did not, no error has been taken, and no job has come to be pending. -/
structure State.unsensed (s t : State) : Prop where
  slots : t.slots = s.slots
  table : t.table = s.table
  errors : t.errors = s.errors
  jobs : s.engine.within t.engine

section
variable {s t u : State}

theorem unsensed_refl (s : State) : s.unsensed s := ⟨rfl, rfl, rfl, Engine.within_refl _⟩

theorem unsensed_of (slots : t.slots = s.slots) (table : t.table = s.table) (errors : t.errors = s.errors)
    (engine : t.engine = s.engine) : s.unsensed t := by
  refine ⟨slots, table, errors, ?_⟩
  rw [engine]
  exact Engine.within_refl _

theorem unsensed_trans (h : s.unsensed t) (h' : t.unsensed u) : s.unsensed u :=
  ⟨h'.slots.trans h.slots, h'.table.trans h.table, h'.errors.trans h.errors, Engine.within_trans h.jobs h'.jobs⟩

theorem unsensed_foldl {α : Type} {g : State → α → State} (step : ∀ (s : State) (x : α), s.unsensed (g s x)) (xs : List α) (s : State) :
    s.unsensed (xs.foldl g s) := foldl_rel unsensed_refl (fun _ _ _ => unsensed_trans) step xs s

end

section
variable (s : State) (l : LegId)

theorem unsensed_modLeg (g : Leg → Leg) : s.unsensed (s.modLeg l g) := unsensed_of rfl rfl rfl rfl

theorem unsensed_setStatus (f : FaceId) (st : TrainStatus) : s.unsensed (s.setStatus f st) := unsensed_of rfl rfl rfl rfl

theorem unsensed_sendAnnounce (f : FaceId) : s.unsensed (s.sendAnnounce l f) := unsensed_of rfl rfl rfl rfl

theorem unsensed_startMonitors (p : PathId) (n : Nat) : s.unsensed (s.startMonitors p n) := unsensed_of rfl rfl rfl rfl

theorem unsensed_setLatch (b : Bool) : s.unsensed (s.setLatch l b) := unsensed_of rfl rfl rfl rfl

theorem unsensed_clearCounts : s.unsensed (s.clearCounts l) :=
  unsensed_trans (unsensed_modLeg s l _) (unsensed_setLatch _ l false)

theorem unsensed_judge : s.unsensed s.judge := by
  rw [judge_footprint]
  exact unsensed_of rfl rfl rfl rfl

theorem unsensed_setLegState (st : LegState) : s.unsensed (s.setLegState l st) :=
  unsensed_trans (unsensed_modLeg s l _) (unsensed_judge _)

theorem unsensed_setPaths (ps : List PathId) (st : PathState) : s.unsensed (s.setPaths ps st) := by
  have engine := engine_setPaths st ps s
  have foot := setPaths_footprint s ps st
  generalize s.setPaths ps st = t at *
  refine ⟨?_, ?_, ?_, Engine.within_sameBut engine⟩ <;> rw [foot]

theorem unsensed_settleFace (f : FaceId) : s.unsensed (s.settleFace f) := by
  have engine := engine_settleFace s f
  have foot := settleFace_footprint s f
  generalize s.settleFace f = t at *
  refine ⟨?_, ?_, ?_, Engine.within_sameBut engine⟩ <;> rw [foot]

theorem unsensed_cancelFaces {fs : List FaceId} (once : fs.Nodup) : s.unsensed (s.cancelFaces fs) := by
  have foot := cancelFaces_footprint s fs
  have engine : (s.cancelFaces fs).engine = fs.foldl Engine.cancel s.engine := by rw [cancelFaces_eq once]
  generalize s.cancelFaces fs = t at *
  refine ⟨?_, ?_, ?_, ?_⟩
  · rw [foot]
  · rw [foot]
  · rw [foot]
  · rw [engine]
    exact Engine.within_cancels fs s.engine

theorem nodup_legFaces : (s.legFaces l).Nodup := by
  rw [legFaces_eq]
  exact nodup_allFaces.filter _

theorem nodup_groupFaces : (s.groupFaces l).Nodup := by
  rw [groupFaces_eq]
  exact nodup_allFaces.filter _

theorem unsensed_dropRecord : s.unsensed (s.dropRecord l) := by
  rw [dropRecord_eq]
  exact unsensed_of rfl rfl rfl rfl

theorem unsensed_oweResults : s.unsensed (s.oweResults l) := by
  rw [oweResults_eq]
  exact unsensed_of rfl rfl rfl rfl

theorem unsensed_sendAborts (reason : AbortReason) : s.unsensed (s.sendAborts l reason) := by
  refine unsensed_foldl (fun s f => ?_) _ s
  split
  · exact unsensed_of rfl rfl rfl rfl
  · exact unsensed_of rfl rfl rfl rfl

theorem unsensed_abandon (reason : AbortReason) : s.unsensed (s.abandon l reason) := by
  rw [abandon_eq]
  exact unsensed_of rfl rfl rfl rfl

theorem unsensed_stopGenerators (r : TestRecord) : s.unsensed (s.stopGenerators r) := by
  rw [stopGenerators_footprint]
  exact unsensed_of rfl rfl rfl rfl

theorem unsensed_discardTest : s.unsensed (s.discardTest l) := by
  unfold State.discardTest
  split
  · split
    · exact unsensed_trans (unsensed_stopGenerators s _) (unsensed_of rfl rfl rfl rfl)
    · exact unsensed_of rfl rfl rfl rfl
  · exact unsensed_of rfl rfl rfl rfl

theorem unsensed_endTest (c : TestEnd) : s.unsensed (s.endTest l c) := by
  unfold State.endTest
  split
  · split
    · exact unsensed_trans (unsensed_stopGenerators s _) (unsensed_of rfl rfl rfl rfl)
    · exact unsensed_of rfl rfl rfl rfl
  · exact unsensed_of rfl rfl rfl rfl

theorem unsensed_beginAttempt (w : Nat) (g : PosSet) : s.unsensed (s.beginAttempt l w g) := by
  have announced (u : State) (fs : List FaceId) : u.unsensed (u.announceFaces l fs) := by
    unfold State.announceFaces
    exact unsensed_trans (unsensed_foldl (fun s f => unsensed_setStatus s f _) fs u)
      (unsensed_foldl (fun s f => unsensed_sendAnnounce s l f) fs _)
  unfold State.beginAttempt
  refine unsensed_trans ?_ (announced _ _)
  refine unsensed_trans ?_ (unsensed_foldl (fun s f => unsensed_setStatus s f _) _ _)
  refine unsensed_trans ?_ (unsensed_foldl unsensed_settleFace _ _)
  refine unsensed_trans ?_ (unsensed_foldl (fun s p => unsensed_startMonitors s p _) _ _)
  refine unsensed_trans ?_ (unsensed_trans (unsensed_setPaths _ _ _) (unsensed_setPaths _ _ _))
  exact unsensed_trans (unsensed_modLeg s l _) (unsensed_setLegState _ _ _)

theorem unsensed_enterHeld (c : TrainCause) : s.unsensed (s.enterHeld l c) := by
  have worked : s.unsensed (if isTrained (s.leg l).state = true
      then ((s.discardTest l).abandon l .giveUp).cancelFaces (s.legFaces l) else s) := by
    split
    · exact unsensed_trans (unsensed_trans (unsensed_discardTest s l) (unsensed_abandon _ l _))
        (unsensed_cancelFaces _ (nodup_legFaces s l))
    · exact unsensed_refl s
  exact unsensed_trans worked (unsensed_trans (unsensed_setPaths _ _ _)
    (unsensed_trans (unsensed_modLeg _ l _) (unsensed_setLegState _ l _)))

theorem unsensed_shutDown (reason : AbortReason) : s.unsensed (s.shutDown l reason) := by
  have worked : s.unsensed (((s.abandon l reason).cancelFaces (s.legFaces l)).discardTest l) :=
    unsensed_trans (unsensed_trans (unsensed_abandon s l _) (unsensed_cancelFaces _ (nodup_legFaces s l)))
      (unsensed_discardTest _ l)
  exact unsensed_trans worked (unsensed_trans (unsensed_setPaths _ _ _)
    (unsensed_trans (unsensed_modLeg _ l _) (unsensed_clearCounts _ l)))

theorem unsensed_goDown (st : LegState) : s.unsensed (s.goDown l st) := by
  have cleared : s.unsensed ((s.clearHold l).clearCounts l) := unsensed_trans (unsensed_modLeg s l _) (unsensed_clearCounts _ l)
  have shut := unsensed_shutDown s l .giveUp
  unfold State.goDown
  refine unsensed_trans ?_ (unsensed_setLegState _ _ _)
  generalize s.shutDown l .giveUp = u at *
  generalize (s.clearHold l).clearCounts l = v at *
  cases (s.leg l).state with
  | off | absent => exact cleared
  | _ => exact shut

end

end Sys2Proof.Machine

/-! Which reaction slots a leg's taking fires (spec/06 R113, R114, spec/07 R126 to R128). -/

namespace Sys2Proof.Machine

/-! ### Slots that a state fires -/

/-- A slot that has fired once more (R114). -/
def Slot.fired (x : Slot) : Slot := { x with fires := min 255 (x.fires + 1) }

/-- The leg's tally has reached its threshold, and no event waits: no report of the leg reaches it again (R128). -/
def State.deaf (s : State) (l : LegId) : Prop := (s.tally l).threshold ≤ (s.tally l).value ∧ s.table.waiting = []

/-- A slot that no report of leg `l` fires: it is another leg's, or on another source than the threshold, or the tally is past
its threshold. -/
def State.steady (s : State) (l k : LegId) (j : SlotId) : Prop := k ≠ l ∨ (s.slot k j).source ≠ .tallyThreshold ∨ s.deaf l

/-- What waits is the leg's: its threshold, for slots on it, and its reports. -/
structure State.workOf (s : State) (l : LegId) : Prop where
  event : ∀ w ∈ s.table.waiting, w.event = thresholdEvent l
  slots : ∀ w ∈ s.table.waiting, ∀ js : List SlotId, w.slots = some js →
    js.Nodup ∧ ∀ j ∈ js, (s.slot l j).source = .tallyThreshold
  reports : ∀ r ∈ s.table.reports, r.leg = some l

/-- What a taking of leg `l` leaves: the slots of other legs and on other sources than the threshold as they were. -/
structure State.tookOn (s t : State) (l : LegId) : Prop where
  slots : ∀ (k : LegId) (j : SlotId), k ≠ l ∨ (s.slot k j).source ≠ .tallyThreshold → t.slot k j = s.slot k j
  sources : ∀ (k : LegId) (j : SlotId), (t.slot k j).source = (s.slot k j).source
  work : s.workOf l → t.workOf l
  jobs : s.engine.within t.engine

/-- Of the steady slots, those of leg `l` in the list have fired once and no other has. -/
structure State.fired (s t : State) (l : LegId) (js : List SlotId) : Prop where
  slots : ∀ (k : LegId) (j : SlotId), s.steady l k j → t.slot k j = if k = l ∧ j ∈ js then (s.slot k j).fired else s.slot k j
  sources : ∀ (k : LegId) (j : SlotId), (t.slot k j).source = (s.slot k j).source
  work : s.workOf l → t.workOf l
  deaf : s.deaf l → t.deaf l
  jobs : s.engine.within t.engine

section
variable {s t u : State} {l : LegId} {js js' : List SlotId}

theorem workOf_atRest (rest : s.tableAtRest) : s.workOf l := by
  unfold State.tableAtRest at rest
  constructor <;> rw [rest] <;> intro _ mem <;> cases mem

theorem tookOn_trans (h : s.tookOn t l) (h' : t.tookOn u l) : s.tookOn u l where
  slots k j off := (h'.slots k j (by rw [h.sources]; exact off)).trans (h.slots k j off)
  sources k j := (h'.sources k j).trans (h.sources k j)
  work w := h'.work (h.work w)
  jobs := Engine.within_trans h.jobs h'.jobs

/-- Slots that fire one after another, none of them twice. -/
theorem fired_trans (h : s.fired t l js) (h' : t.fired u l js') (apart : js.Disjoint js') : s.fired u l (js ++ js') where
  slots k j still := by
    have later : t.steady l k j := by
      unfold State.steady
      rw [h.sources]
      exact still.imp id (Or.imp id h.deaf)
    rw [h'.slots k j later, h.slots k j still]
    by_cases own : k = l
    · by_cases first : j ∈ js
      · have second : j ∉ js' := fun mem => apart first mem
        simp [own, first, second]
      · simp [own, first]
    · simp [own]
  sources k j := (h'.sources k j).trans (h.sources k j)
  work w := h'.work (h.work w)
  deaf d := h'.deaf (h.deaf d)
  jobs := Engine.within_trans h.jobs h'.jobs

theorem unfired_trans (h : s.fired t l []) (h' : t.fired u l []) : s.fired u l [] :=
  fired_trans h h' (List.disjoint_nil_left [])

theorem fired_unfired (h : s.fired t l js) (h' : t.fired u l []) : s.fired u l js := by
  have both := fired_trans h h' (List.disjoint_nil_right js)
  rwa [List.append_nil] at both

theorem unfired_fired (h : s.fired t l []) (h' : t.fired u l js) : s.fired u l js := fired_trans h h' (List.disjoint_nil_left js)

/-- What the slots, the table, the tally and the engine are decides. -/
theorem unfired_of (slots : t.slots = s.slots) (table : t.table = s.table) (tally : t.tally l = s.tally l)
    (jobs : s.engine.within t.engine) : s.fired t l [] := by
  have slot (k : LegId) (j : SlotId) : t.slot k j = s.slot k j := by
    unfold State.slot
    rw [slots]
  refine ⟨fun k j _ => ?_, fun k j => by rw [slot], fun w => ⟨?_, ?_, ?_⟩, fun d => ?_, jobs⟩
  · rw [slot]
    simp
  · rw [table]
    exact w.event
  · rw [table]
    intro x mem js own
    obtain ⟨once, on⟩ := w.slots x mem js own
    exact ⟨once, fun j hj => by rw [slot]; exact on j hj⟩
  · rw [table]
    exact w.reports
  · unfold State.deaf
    rw [tally, table]
    exact d

theorem unfired_of_unsensed (h : s.unsensed t) : s.fired t l [] :=
  unfired_of h.slots h.table (by unfold State.tally; rw [h.errors]) h.jobs

theorem unfired_refl (s : State) (l : LegId) : s.fired s l [] := unfired_of_unsensed (unsensed_refl s)

/-- Slots on the threshold have fired, and so no other. -/
theorem tookOn_of_fired (h : s.fired t l js) (on : ∀ j ∈ js, (s.slot l j).source = .tallyThreshold) : s.tookOn t l where
  slots k j off := by
    rw [h.slots k j (off.imp id .inl), if_neg]
    rintro ⟨rfl, mem⟩
    exact off.elim (fun h => h rfl) (fun h => h (on j mem))
  sources := h.sources
  work := h.work
  jobs := h.jobs

theorem tookOn_of_unfired (h : s.fired t l []) : s.tookOn t l := tookOn_of_fired h (fun _ mem => nomatch mem)

/-- Before the threshold is reached nothing is said of the slots on it. -/
theorem unfired_of_tookOn (h : s.tookOn t l) (hears : ¬s.deaf l) : s.fired t l [] where
  slots k j still := by
    rw [h.slots k j (still.imp id (Or.resolve_right · hears)), if_neg]
    exact fun mem => nomatch mem.2
  sources := h.sources
  work := h.work
  deaf d := absurd d hears
  jobs := h.jobs

end

/-! ### A slot that fires -/

section
variable {s : State} {ev : TableEvent} {j : SlotId}

theorem fireOwn_fields (s : State) (ev : TableEvent) (j : SlotId) : (s.fireOwn ev j).slots = (s.countFire ev.leg j).slots
    ∧ (s.fireOwn ev j).table = s.table ∧ (s.fireOwn ev j).errors = s.errors ∧ (s.fireOwn ev j).engine = s.engine := by
  unfold State.fireOwn
  split <;> exact ⟨rfl, rfl, rfl, rfl⟩

theorem slot_countFire (l k : LegId) (i : SlotId) :
    (s.countFire l j).slot k i = if k = l ∧ i = j then (s.slot k i).fired else s.slot k i := by
  unfold State.countFire State.modSlot State.slot
  by_cases leg : k = l
  · subst leg
    dsimp only
    rw [modAt_same]
    by_cases same : i = j
    · subst same
      rw [modAt_same, if_pos ⟨rfl, rfl⟩]
      rfl
    · rw [modAt_other _ _ _ _ same, if_neg (fun h => same h.2)]
  · dsimp only
    rw [modAt_other _ _ _ _ leg, if_neg (fun h => leg h.1)]

theorem fired_fireOwn (s : State) (ev : TableEvent) (j : SlotId) : s.fired (s.fireOwn ev j) ev.leg [j] := by
  obtain ⟨slots, table, errors, engine⟩ := fireOwn_fields s ev j
  have slot (k : LegId) (i : SlotId) : (s.fireOwn ev j).slot k i = if k = ev.leg ∧ i = j then (s.slot k i).fired else s.slot k i := by
    rw [← slot_countFire]
    unfold State.slot
    rw [slots]
  generalize s.fireOwn ev j = t at *
  have sources (k : LegId) (i : SlotId) : (t.slot k i).source = (s.slot k i).source := by
    rw [slot]
    split <;> rfl
  refine ⟨fun k i _ => by simp only [slot, List.mem_singleton], sources, fun w => ⟨?_, ?_, ?_⟩, fun d => ?_, ?_⟩
  · rw [table]
    exact w.event
  · rw [table]
    intro x mem js own
    obtain ⟨once, on⟩ := w.slots x mem js own
    exact ⟨once, fun i hi => (sources ev.leg i).trans (on i hi)⟩
  · rw [table]
    exact w.reports
  · unfold State.deaf State.tally
    rw [table, errors]
    exact d
  · rw [engine]
    exact Engine.within_refl _

/-- Slots fire one after another by any step that fires the one it is given. -/
theorem fired_foldl {l : LegId} {step : State → SlotId → State} (fires : ∀ (s : State) (j : SlotId), s.fired (step s j) l [j])
    {js : List SlotId} (once : js.Nodup) (s : State) : s.fired (js.foldl step s) l js := by
  induction js generalizing s with
  | nil => exact unfired_refl s l
  | cons j js ih =>
    obtain ⟨fresh, later⟩ := List.nodup_cons.mp once
    exact fired_trans (fires s j) (ih later (step s j)) (List.singleton_disjoint.mpr fresh)

theorem nodup_matchingSlots (s : State) (ev : TableEvent) : (s.matchingSlots ev).Nodup := by
  have once : allSlots.Nodup := by decide
  exact once.filter _

theorem mem_matchingSlots (s : State) (ev : TableEvent) (j : SlotId) :
    j ∈ s.matchingSlots ev ↔ (s.slot ev.leg j).matchesEvent ev = true := by
  have all : j ∈ allSlots := by
    revert j
    decide
  unfold State.matchingSlots
  rw [List.mem_filter]
  exact and_iff_right all

theorem source_matching (mem : j ∈ s.matchingSlots ev) : (s.slot ev.leg j).source = ev.source := by
  have fits := (mem_matchingSlots s ev j).mp mem
  unfold Slot.matchesEvent at fits
  rw [Bool.and_eq_true, Bool.and_eq_true] at fits
  exact beq_iff_eq.mp fits.1.2

end

/-! ### Reports -/

section
variable {s : State} {l : LegId} {r : Report}

theorem reached_counts (reached : (s.takeReport r).2 = some l) : (s.tally l).reaches = true := by
  cases on : (s.errors.settings[kindIndex r.kind]).enable with
  | false =>
    rw [takeReport_off on] at reached
    cases reached
  | true =>
    by_cases counted : ∃ k : LegId, s.counts r k
    · obtain ⟨k, counted⟩ := counted
      rw [takeReport_counted on counted] at reached
      dsimp only at reached
      split at reached
      · rename_i reaches
        obtain rfl := Option.some.inj reached
        exact reaches
      · cases reached
    · rw [takeReport_uncounted on fun k h => counted ⟨k, h⟩] at reached
      cases reached

/-- A leg past its threshold reaches it by no report. -/
theorem reached_past (past : (s.tally l).threshold ≤ (s.tally l).value) : (s.takeReport r).2 ≠ some l := by
  intro reached
  have reaches := reached_counts reached
  unfold Tally.reaches at reaches
  rw [Bool.and_eq_true, beq_iff_eq] at reaches
  omega

theorem increment_past {t : Tally} (past : t.threshold ≤ t.value) : t.increment.threshold ≤ t.increment.value := by
  unfold Tally.increment
  split
  · exact Nat.le_succ_of_le past
  · exact past

theorem past_takeReport (past : (s.tally l).threshold ≤ (s.tally l).value) :
    ((s.takeReport r).1.tally l).threshold ≤ ((s.takeReport r).1.tally l).value := by
  cases on : (s.errors.settings[kindIndex r.kind]).enable with
  | false =>
    rw [takeReport_off on]
    exact past
  | true =>
    rw [← tally_noted s r l] at past
    by_cases counted : ∃ k : LegId, s.counts r k
    · obtain ⟨k, counted⟩ := counted
      rw [takeReport_counted on counted]
      by_cases own : l = k
      · subst own
        rw [State.tally_modTally]
        exact increment_past past
      · rw [State.tally_modTally_other _ _ _ _ own]
        exact past
    · rw [takeReport_uncounted on fun k h => counted ⟨k, h⟩]
      exact past

theorem unfired_takeReport (s : State) (l : LegId) (r : Report) : s.fired (s.takeReport r).1 l [] := by
  have past := past_takeReport (s := s) (l := l) (r := r)
  have foot := takeReport_footprint s r
  generalize (s.takeReport r).1 = t at *
  have fields : t.slots = s.slots ∧ t.table = s.table ∧ t.engine = s.engine := by
    rw [foot]
    exact ⟨rfl, rfl, rfl⟩
  obtain ⟨slots, table, engine⟩ := fields
  have same : s.fired { t with errors := s.errors } l [] := unfired_of slots table rfl (by
    show s.engine.within t.engine
    rw [engine]
    exact Engine.within_refl _)
  exact ⟨same.slots, same.sources, fun w => ⟨(same.work w).event, (same.work w).slots, (same.work w).reports⟩,
    fun d => ⟨past d.1, (same.deaf d).2⟩, same.jobs⟩

end

end Sys2Proof.Machine

/-! The takings of a leg and the slots that its reports fire (spec/06 R114 to R118). -/

namespace Sys2Proof.Machine

/-! ### A threshold that is reached -/

section
variable {s : State} {l : LegId} {r : Report}

theorem fired_await (w : Waiting) (event : w.event = thresholdEvent l)
    (on : ∀ js : List SlotId, w.slots = some js → js.Nodup ∧ ∀ j ∈ js, (s.slot l j).source = .tallyThreshold) :
    s.tookOn (s.await w).holdReports l := by
  refine ⟨fun _ _ _ => rfl, fun _ _ => rfl, fun work => ⟨fun x mem => ?_, fun x mem => ?_, work.reports⟩, Engine.within_refl _⟩
  · rcases List.mem_append.mp mem with earlier | own
    · exact work.event x earlier
    · rw [List.mem_singleton.mp own]
      exact event
  · rcases List.mem_append.mp mem with earlier | own
    · exact work.slots x earlier
    · rw [List.mem_singleton.mp own]
      exact on

theorem tookOn_tableMid (s : State) (l : LegId) : s.tookOn (s.tableMid l) l := by
  have once := nodup_matchingSlots s (thresholdEvent l)
  have source (j : SlotId) (mem : j ∈ s.matchingSlots (thresholdEvent l)) : (s.slot l j).source = .tallyThreshold :=
    source_matching mem
  unfold State.tableMid
  split
  · exact fired_await ⟨thresholdEvent l, none⟩ rfl (fun _ none_ => nomatch none_)
  · dsimp only
    generalize s.matchingSlots (thresholdEvent l) = js at *
    have first := List.takeWhile_sublist (fun j => !(s.slot l j).actsOnLeg) (l := js)
    have second := List.dropWhile_sublist (fun j => !(s.slot l j).actsOnLeg) (l := js)
    generalize js.takeWhile (fun j => !(s.slot l j).actsOnLeg) = now at *
    generalize js.dropWhile (fun j => !(s.slot l j).actsOnLeg) = later at *
    have fires := fired_foldl (l := l) (step := fun s j => s.fireOwn (thresholdEvent l) j)
      (fun s j => fired_fireOwn s (thresholdEvent l) j) (first.nodup once) s
    have took := tookOn_of_fired fires fun j mem => source j (first.subset mem)
    generalize now.foldl (fun s j => s.fireOwn (thresholdEvent l) j) s = u at *
    split
    · exact took
    · refine tookOn_trans took (fired_await ⟨thresholdEvent l, some later⟩ rfl fun js own => ?_)
      obtain rfl := Option.some.inj own
      exact ⟨second.nodup once, fun j mem => (took.sources l j).trans (source j (second.subset mem))⟩

/-- A report of the leg, made in the middle of its taking. -/
theorem unfired_reportMid (leg : r.leg = some l) : s.fired (s.reportMid r) l [] := by
  have taken := unfired_takeReport s l r
  have reaches (k : LegId) (reached : (s.takeReport r).2 = some k) : k = l ∧ ¬s.deaf l := by
    obtain rfl : k = l := Option.some.inj ((takeReport_reached reached).symm.trans leg)
    exact ⟨rfl, fun d => reached_past d.1 reached⟩
  unfold State.reportMid
  split
  · exact unfired_of rfl rfl rfl (Engine.within_refl _)
  · split
    · refine ⟨fun _ _ _ => by simp; rfl, fun _ _ => rfl, fun work => ⟨work.event, work.slots, fun x mem => ?_⟩, id, Engine.within_refl _⟩
      rcases List.mem_append.mp mem with earlier | own
      · exact work.reports x earlier
      · rw [List.mem_singleton.mp own]
        exact leg
    · generalize s.takeReport r = answer at *
      obtain ⟨u, reached⟩ := answer
      cases reached with
      | none => exact taken
      | some k =>
        obtain ⟨rfl, hears⟩ := reaches k rfl
        exact unfired_of_tookOn (tookOn_trans (tookOn_of_unfired taken) (tookOn_tableMid u k)) hears

/-- A report of the leg, taken while no leg controller is in the middle of a taking. -/
theorem unfired_takeWhole (leg : r.leg = some l) : s.fired (s.takeWhole r) l [] := by
  have taken := unfired_takeReport s l r
  cases reached : (s.takeReport r).2 with
  | none =>
    rw [takeWhole_unreached reached]
    exact taken
  | some k =>
    obtain rfl : k = l := Option.some.inj ((takeReport_reached reached).symm.trans leg)
    rw [takeWhole_reached reached]
    refine unfired_of_tookOn (tookOn_trans (tookOn_of_unfired taken) ?_) (fun d => reached_past d.1 reached)
    exact fired_await ⟨thresholdEvent k, none⟩ rfl (fun _ none_ => nomatch none_)

end

/-! ### Takings of the leg controller -/

/-- Positions join the excluded set of a leg (R61). -/
def State.excluding (s : State) (l : LegId) (faulty : PosSet) : State :=
  s.modLeg l (fun x => { x with excluded := x.excluded ||| faulty })

/-- The attempt ends at the partners and on its paths: the ABORTs are sent, results are owed and the group is PARKED (R61). -/
def State.attemptParked (s : State) (l : LegId) : State :=
  ((s.sendAborts l .giveUp).oweResults l).setPaths (((s.sendAborts l .giveUp).oweResults l).groupPaths l) .parked

section
variable (s : State) (l : LegId)

theorem unfired_enterFailed (c : FailCause) : s.fired (s.enterFailed l c) l [] := by
  unfold State.enterFailed
  refine unfired_trans (unfired_of_unsensed ?_) (unfired_reportMid rfl)
  exact unsensed_trans (unsensed_setPaths s _ _) (unsensed_trans (unsensed_modLeg _ l _) (unsensed_setLegState _ l _))

theorem unfired_startAttempt : s.fired (s.startAttempt l) l [] := by
  unfold State.startAttempt
  dsimp only
  split
  · exact unfired_of_unsensed (unsensed_beginAttempt s l _ _)
  · exact unfired_enterFailed s l _

theorem unfired_startSeries (c : TrainCause) : s.fired (s.startSeries l c) l [] :=
  unfired_trans (unfired_of_unsensed (unsensed_modLeg s l _)) (unfired_startAttempt _ l)

theorem unfired_countFailure (c : AttemptEnd) : s.fired (s.countFailure l c) l [] := by
  have counted : s.fired (((s.modLeg l (fun x => { x with limitTimer := none })).cancelFaces (s.groupFaces l)).modLeg l
      (fun x => { x with attemptCount := x.attemptCount + 1 })) l [] :=
    unfired_of_unsensed (unsensed_trans (unsensed_modLeg s l _)
      (unsensed_trans (unsensed_cancelFaces _ (nodup_groupFaces s l)) (unsensed_modLeg _ l _)))
  unfold State.countFailure
  dsimp only
  generalize ((s.modLeg l (fun x => { x with limitTimer := none })).cancelFaces (s.groupFaces l)).modLeg l
      (fun x => { x with attemptCount := x.attemptCount + 1 }) = u at *
  cases c with
  | rate => exact unfired_trans counted (unfired_enterFailed u l _)
  | lane | partner | timeout =>
    dsimp only
    split
    · exact unfired_trans counted (unfired_enterFailed u l _)
    · exact unfired_trans counted (unfired_startAttempt u l)

/-- An attempt that fails without a report of its own: a monitor reports the loss itself (R61, R111). -/
theorem failAttempt_silent (c : AttemptEnd) (faulty : PosSet) :
    s.failAttempt l c faulty none = (((s.excluding l faulty).attemptParked l).dropRecord l).countFailure l c := rfl

theorem unsensed_attemptParked : s.unsensed (s.attemptParked l) :=
  unsensed_trans (unsensed_sendAborts s l _) (unsensed_trans (unsensed_oweResults _ l) (unsensed_setPaths _ _ _))

theorem unfired_failAttempt (c : AttemptEnd) (faulty : PosSet) : s.fired (s.failAttempt l c faulty none) l [] := by
  have ended : s.unsensed (((s.excluding l faulty).attemptParked l).dropRecord l) :=
    unsensed_trans (unsensed_modLeg s l _) (unsensed_trans (unsensed_attemptParked _ l) (unsensed_dropRecord _ l))
  rw [failAttempt_silent]
  generalize ((s.excluding l faulty).attemptParked l).dropRecord l = u at *
  exact unfired_trans (unfired_of_unsensed ended) (unfired_countFailure u l c)

theorem unfired_laneFault (f : FaceId) : s.fired (s.laneFault l f none) l [] := by
  unfold State.laneFault
  rw [Option.map_none]
  exact unfired_failAttempt s l .lane _

theorem unfired_holdLeg (c : TrainCause) : s.fired (s.holdLeg l c) l [] := by
  have asked : s.fired (s.modLeg l (fun x => { x with holdRequest := true })) l [] := unfired_of_unsensed (unsensed_modLeg s l _)
  unfold State.holdLeg
  dsimp only
  generalize s.modLeg l (fun x => { x with holdRequest := true }) = u at *
  cases (s.leg l).state with
  | off | absent => exact asked
  | held => exact unfired_trans asked (unfired_of_unsensed (unsensed_modLeg u l _))
  | _ => exact unfired_trans asked (unfired_of_unsensed (unsensed_enterHeld u l c))

theorem unfired_releaseLeg : s.fired (s.releaseLeg l) l [] := by
  have released : s.fired (s.modLeg l (fun x => { x with holdRequest := false })) l [] := unfired_of_unsensed (unsensed_modLeg s l _)
  unfold State.releaseLeg
  dsimp only
  split
  · exact unfired_trans released (unfired_startSeries _ l _)
  · exact released

theorem unfired_retrainAction : s.fired (s.retrainAction l) l [] := by
  unfold State.retrainAction
  split
  · exact unfired_startSeries s l _
  · exact unfired_refl s l

theorem unfired_loseLink : s.fired (s.loseLink l) l [] := by
  unfold State.loseLink
  split
  · exact unfired_startSeries s l _
  · exact unfired_refl s l

theorem unfired_takeSignalLoss (f : FaceId) : s.fired (s.takeSignalLoss l f) l [] := by
  unfold State.takeSignalLoss
  split
  · exact unfired_refl s l
  · cases s.path (facePath f) with
    | training => exact unfired_laneFault s l f
    | passing => exact unfired_loseLink s l
    | testing => exact unfired_trans (unfired_of_unsensed (unsensed_endTest s l _)) (unfired_startSeries _ l _)
    | unmapped | parked | benched => exact unfired_refl s l

theorem unfired_legTake (e : Cause) {take : State → State} (taken : s.fired (take s) l []) : s.fired (s.legTake l e take) l [] := by
  unfold State.legTake
  dsimp only
  split
  · exact taken
  · exact unfired_trans taken (unfired_of_unsensed (unsensed_of rfl rfl rfl rfl))

theorem unfired_legAction (a : Action) : s.fired (s.legAction l a) l [] := by
  cases a with
  | retrain => exact unfired_legTake s l _ (take := fun u => u.retrainAction l) (unfired_retrainAction s l)
  | hold => exact unfired_legTake s l _ (take := fun u => u.holdLeg l .reaction) (unfired_holdLeg s l .reaction)
  | release => exact unfired_legTake s l _ (take := fun u => u.releaseLeg l) (unfired_releaseLeg s l)
  | capture | notify => exact unfired_refl s l

end

/-! ### The reaction table -/

section
variable {l : LegId}

theorem fired_fireSlot (s : State) (ev : TableEvent) (j : SlotId) : s.fired (s.fireSlot ev j) ev.leg [j] := by
  have fires := fired_fireOwn s ev j
  unfold State.fireSlot
  dsimp only
  split
  · exact fired_unfired fires (unfired_legAction _ _ _)
  · exact fires

theorem fired_fireSlots {js : List SlotId} (once : js.Nodup) (s : State) (ev : TableEvent) :
    s.fired (s.fireSlots ev js) ev.leg js := by
  have table (u : State) (b : Bool) : u.fired (u.setFiring b) ev.leg [] :=
    ⟨fun _ _ _ => by simp; rfl, fun _ _ => rfl, fun w => ⟨w.event, w.slots, w.reports⟩, id, Engine.within_refl _⟩
  exact fired_unfired (unfired_fired (table s true) (fired_foldl (fun s j => fired_fireSlot s ev j) once _)) (table _ false)

/-- All that waits for the leg, round by round. -/
theorem unfired_drain (n : Nat) {s : State} (work : s.workOf l) : s.fired (s.drain n) l [] := by
  induction n generalizing s with
  | zero => exact unfired_refl s l
  | succ n ih =>
    unfold State.drain
    split
    · rename_i w ws waiting
      have mem : w ∈ s.table.waiting := by
        rw [waiting]
        exact List.mem_cons_self
      have left : s.tookOn { s with table := { s.table with waiting := ws } } l := by
        refine ⟨fun _ _ _ => rfl, fun _ _ => rfl, fun work => ⟨fun x mem => ?_, fun x mem => ?_, work.reports⟩,
          Engine.within_refl _⟩
        · exact work.event x (by rw [waiting]; exact List.mem_cons_of_mem _ mem)
        · exact work.slots x (by rw [waiting]; exact List.mem_cons_of_mem _ mem)
      have event := work.event w mem
      have hears : ¬s.deaf l := by
        intro d
        have none_ := d.2
        rw [waiting] at none_
        cases none_
      have on := work.slots w mem
      generalize { s with table := { s.table with waiting := ws } } = u at *
      have slots : (w.slots.getD (u.matchingSlots w.event)).Nodup
          ∧ ∀ j ∈ w.slots.getD (u.matchingSlots w.event), (u.slot l j).source = .tallyThreshold := by
        cases own : w.slots with
        | some js =>
          obtain ⟨once, source⟩ := on js own
          exact ⟨once, fun j mem => (left.sources l j).trans (source j mem)⟩
        | none =>
          rw [event]
          exact ⟨nodup_matchingSlots u _, fun j mem => source_matching mem⟩
      have fires := fired_fireSlots slots.1 u w.event
      rw [event] at fires slots
      have took := tookOn_trans left (tookOn_of_fired fires slots.2)
      unfold State.takeWaiting
      rw [event]
      exact unfired_of_tookOn (tookOn_trans took (tookOn_of_unfired (ih (took.work work)))) hears
    · rename_i r rs waiting reports
      have own : r.leg = some l := work.reports r (by rw [reports]; exact List.mem_cons_self)
      have left : s.fired { s with table := { s.table with reports := rs } } l [] := by
        refine ⟨fun _ _ _ => by simp; rfl, fun _ _ => rfl, fun work => ⟨work.event, work.slots, fun x mem => ?_⟩, id,
          Engine.within_refl _⟩
        exact work.reports x (by rw [reports]; exact List.mem_cons_of_mem _ mem)
      have taken := unfired_trans left (unfired_takeWhole own)
      exact unfired_trans taken (ih (taken.work work))
    · exact unfired_refl s l

theorem unfired_finish {s : State} (work : s.workOf l) : s.fired s.finish l [] := by
  have drained := unfired_drain 16 work
  unfold State.finish
  exact ⟨drained.slots, drained.sources, fun _ => workOf_atRest rfl, fun d => ⟨(drained.deaf d).1, rfl⟩, drained.jobs⟩

/-- An event for the table, while no leg controller is in the middle of a taking. -/
theorem fired_tableTake {s : State} {ev : TableEvent} (work : s.workOf ev.leg) :
    s.fired (s.tableTake ev) ev.leg (s.matchingSlots ev) := by
  have fires := fired_fireSlots (nodup_matchingSlots s ev) s ev
  exact fired_unfired fires (unfired_finish (fires.work work))

theorem unfired_legEvent {s : State} (work : s.workOf l) (e : Cause) {take : State → State} (taken : s.fired (take s) l []) :
    s.fired (s.legEvent l e take) l [] := by
  have took := unfired_legTake s l e taken
  exact unfired_trans took (unfired_finish (took.work work))

theorem unfired_report {s : State} {r : Report} (work : s.workOf l) (leg : r.leg = some l) : s.fired (s.report r) l [] := by
  have taken := unfired_takeWhole (s := s) leg
  exact unfired_trans taken (unfired_finish (taken.work work))

theorem unfired_monitorReport {s : State} {r : Report} {take : LegId → State → State} (rest : s.tableAtRest) (leg : r.leg = some l)
    (taken : ∀ u : State, u.fired (take l u) l []) : s.fired (s.monitorReport r take) l [] := by
  have holds : s.fired s.holdReports l [] :=
    ⟨fun _ _ _ => by simp; rfl, fun _ _ => rfl, fun w => ⟨w.event, w.slots, w.reports⟩, id, Engine.within_refl _⟩
  have took := unfired_trans holds (unfired_legTake s.holdReports l (.train .loss) (taken _))
  unfold State.monitorReport
  rw [leg]
  dsimp only
  generalize s.holdReports.legTake l (.train .loss) (take l) = u at *
  have waits : u.fired { u with table := { u.table with reports := r :: u.table.reports } } l [] := by
    refine ⟨fun _ _ _ => by simp; rfl, fun _ _ => rfl, fun work => ⟨work.event, work.slots, fun x mem => ?_⟩, id, Engine.within_refl _⟩
    rcases List.mem_cons.mp mem with own | later
    · rw [own]
      exact leg
    · exact work.reports x later
  have both := unfired_trans took waits
  exact unfired_trans both (unfired_finish (both.work (workOf_atRest rest)))

end

end Sys2Proof.Machine

/-! Sideband changes, losses, bursts and margins fire each slot that they match once (spec/06 R113, R114). -/

namespace Sys2Proof.Machine

/-! ### The engine's choice where no SWEEP is pending -/

section
variable {s : State}

theorem within_after (e : Engine) (j : Job) : e.within (e.dequeue j) := by
  have queue : (e.dequeue j).queue = modAt e.queue j.face (fun _ => none) ∧ (e.dequeue j).mask = e.mask := by
    unfold Engine.dequeue Engine.movePointer
    cases j.kind <;> exact ⟨rfl, rfl⟩
  refine ⟨queue.2, fun f k pending => ?_⟩
  rw [queue.1] at pending
  by_cases same : f = j.face
  · rw [same, modAt_same] at pending
    cases pending
  · rwa [modAt_other _ _ _ _ same] at pending

/-- The job that is next, where no SWEEP is pending unmasked, is none. -/
theorem nextJob_notSweep {e : Engine} {j : Job} (quiet : e.noneUrgent) (next : e.nextJob = some j) : j.kind ≠ .sweep := by
  have absent : e.offered .sweep = none := by
    have none_ := (urgentPending_iff e).mpr quiet
    unfold Engine.offered
    rw [List.find?_eq_none.mpr]
    · rfl
    · exact fun f _ pending => by
        have all := List.any_eq_false.mp none_ f (mem_allFaces f)
        exact all pending
  have kinded (k : JobKind) (offered : e.offered k = some j) : j.kind = k := by
    unfold Engine.offered at offered
    obtain ⟨f, found, queued⟩ := Option.bind_eq_some_iff.mp offered
    obtain ⟨j', queued', kind, -⟩ := (pendingKind_iff e k f).mp (List.find?_some found)
    obtain rfl : j = j' := Option.some.inj (queued.symm.trans queued')
    exact kind
  rw [nextJob_offered, absent, Option.none_or] at next
  rcases Option.or_eq_some_iff.mp next with trim | ⟨-, margin⟩
  · rw [kinded .trim trim]
    decide
  · rw [kinded .margin margin]
    decide

theorem unsensed_swapFace (s : State) (f : FaceId) : s.unsensed (s.swapFace f) :=
  ⟨rfl, rfl, rfl, Engine.within_sameBut (engine_restartSuspended (s.modFace f Face.swap) f)⟩

/-- A job of another kind than a SWEEP that completes PINNED answers no one. -/
theorem unsensed_completePinned {j : Job} (kind : j.kind ≠ .sweep) : s.unsensed (s.completePinned j) := by
  have plain : ¬j.isLegSweep = true := by
    unfold Job.isLegSweep
    rw [beq_false_of_ne kind]
    exact Bool.false_ne_true
  unfold State.completePinned
  dsimp only
  rw [if_neg plain]
  split
  · exact unsensed_swapFace s _
  · exact unsensed_refl s

theorem unsensed_chooseWithin (n : Nat) {s : State} (quiet : s.engine.noneUrgent) : s.unsensed (s.chooseWithin n) := by
  induction n generalizing s with
  | zero => exact unsensed_refl s
  | succ n ih =>
    unfold State.chooseWithin
    split
    · exact unsensed_refl s
    · exact ⟨rfl, rfl, rfl, ⟨rfl, fun _ _ => id⟩⟩
    · exact unsensed_refl s
    · rename_i j _ _ next
      have kind := nextJob_notSweep quiet next
      have taken : s.unsensed (s.modEngine (fun e => e.dequeue j)) := ⟨rfl, rfl, rfl, within_after s.engine j⟩
      dsimp only
      split
      · have done := unsensed_trans taken (unsensed_completePinned kind)
        exact unsensed_trans done (ih (Engine.noneUrgent_within done.jobs quiet))
      · exact unsensed_trans taken ⟨rfl, rfl, rfl, ⟨rfl, fun _ _ => id⟩⟩

theorem unsensed_leaveSlot {s : State} (quiet : s.engine.noneUrgent) : s.unsensed s.leaveSlot := by
  have cancelled (u : State) (j : Job) : u.unsensed (u.handCancelled j) := by
    rw [handCancelled_footprint]
    exact unsensed_of rfl rfl rfl rfl
  have emptied : s.unsensed (s.modEngine (fun e => { e with running := none })) := ⟨rfl, rfl, rfl, ⟨rfl, fun _ _ => id⟩⟩
  have handed (u : State) : u.unsensed u.handHeld := by
    have first : u.unsensed (u.modEngine (fun e => { e with held := [] })) := ⟨rfl, rfl, rfl, ⟨rfl, fun _ _ => id⟩⟩
    exact unsensed_trans first (unsensed_foldl cancelled _ _)
  have left := unsensed_trans emptied (handed _)
  exact unsensed_trans left (unsensed_chooseWithin 17 (Engine.noneUrgent_within left.jobs quiet))

end

/-! ### An event that the table takes -/

section
variable {s t u : State} {l : LegId} {src : Source} {e : Option Edge}

/-- Without an edge a source alone matches (R113). -/
theorem matchesEvent_plain {x : Slot} (own : x.source = src) (some_ : src ≠ .none) : x.matchesEvent ⟨l, src, none⟩ = true := by
  subst own
  unfold Slot.matchesEvent
  dsimp only
  rw [bne_iff_ne.mpr some_, beq_self_eq_true]
  rfl

theorem matchesEvent_edge {x : Slot} (own : x.source = src) (some_ : src ≠ .none) (e : Edge) :
    x.matchesEvent ⟨l, src, some e⟩ = x.edge.any (fun m => edgeMatches m e) := by
  subst own
  unfold Slot.matchesEvent
  dsimp only
  rw [bne_iff_ne.mpr some_, beq_self_eq_true, Bool.true_and, Bool.true_and]

/-- The slots that the table has fired are those the event matches, each once. -/
theorem firedOnce_of_fired (fires : s.fired t l (s.matchingSlots ⟨l, src, e⟩)) (some_ : src ≠ .none)
    (still : ∀ j : SlotId, (s.slot l j).source = src → s.steady l l j) : s.firedOnce t l src e := by
  refine ⟨fun j own => ?_, fun j other off => ?_, fun k j away => ?_⟩
  · rw [fires.slots l j (still j own)]
    cases e with
    | none =>
      rw [if_pos ⟨rfl, (mem_matchingSlots s _ j).mpr (matchesEvent_plain own some_)⟩]
      rfl
    | some e =>
      have fits := mem_matchingSlots s ⟨l, src, some e⟩ j
      rw [matchesEvent_edge own some_] at fits
      by_cases edge : (s.slot l j).edge.any (fun m => edgeMatches m e) = true
      · rw [if_pos ⟨rfl, fits.mpr edge⟩]
        dsimp only
        rw [if_pos edge]
        rfl
      · rw [if_neg (fun mem => edge (fits.mp mem.2))]
        dsimp only
        rw [if_neg edge]
  · rw [fires.slots l j (.inr (.inl off)), if_neg]
    exact fun mem => other (source_matching mem.2)
  · rw [fires.slots k j (.inl away), if_neg]
    exact fun mem => away mem.1

/-- An event on another source than the threshold, after a taking that fires no slot on its source. -/
theorem firedOnce_tableTake (before : s.fired u l []) (rest : s.tableAtRest) (some_ : src ≠ .none) (off : src ≠ .tallyThreshold) :
    s.firedOnce (u.tableTake ⟨l, src, e⟩) l src e := by
  have steady (j : SlotId) (own : (s.slot l j).source = src) : s.steady l l j := .inr (.inl (by rw [own]; exact off))
  have same : u.matchingSlots ⟨l, src, e⟩ = s.matchingSlots ⟨l, src, e⟩ := by
    refine List.filter_congr fun j _ => ?_
    dsimp only
    by_cases own : (s.slot l j).source = src
    · rw [before.slots l j (steady j own), if_neg]
      exact fun mem => nomatch mem.2
    · have other : ¬(u.slot l j).source = src := by rwa [before.sources]
      have no (x : Slot) (hx : ¬x.source = src) : x.matchesEvent ⟨l, src, e⟩ = false := by
        unfold Slot.matchesEvent
        dsimp only
        rw [beq_false_of_ne hx, Bool.and_false, Bool.false_and]
      rw [no _ own, no _ other]
  have fires := fired_tableTake (s := u) (ev := ⟨l, src, e⟩) (before.work (workOf_atRest rest))
  rw [same] at fires
  exact firedOnce_of_fired (unfired_fired before fires) some_ steady

end

/-! ### Sideband changes -/

section
variable {s : State} {l : LegId}

theorem unsensed_settleFilter (s : State) (l : LegId) (i : WireId) (level : Bool) : s.unsensed (s.settleFilter l i level) :=
  unsensed_of rfl rfl rfl rfl

theorem firedOnce_presenceChange (rest : s.tableAtRest) (level : Bool) :
    s.firedOnce (s.presenceChange l level) l .present (some (edgeOf level)) := by
  have settled := unsensed_settleFilter s l .present level
  have work : (s.settleFilter l .present level).workOf l := workOf_atRest rest
  unfold State.presenceChange
  refine firedOnce_tableTake (unfired_trans (unfired_of_unsensed settled) ?_) rest (by decide) (by decide)
  generalize s.settleFilter l .present level = u at *
  refine unfired_trans (unfired_legEvent work .presence ?_) (unfired_of_unsensed (unsensed_judge _))
  split
  · exact unfired_of_unsensed (unsensed_enterHeld u l _)
  · exact unfired_of_unsensed (unsensed_goDown u l _)
  · exact unfired_of_unsensed (unsensed_goDown u l _)
  · exact unfired_of_unsensed (unsensed_goDown u l _)
  · exact unfired_of_unsensed (unsensed_goDown u l _)
  · exact unfired_of_unsensed (unsensed_goDown u l _)
  · exact unfired_of_unsensed (unsensed_goDown u l _)
  · exact unfired_refl u l

theorem unsensed_latchAlert (s : State) (l : LegId) : s.unsensed (s.latchAlert l) := by
  unfold State.latchAlert
  cases (s.leg l).state with
  | off | absent => exact unsensed_refl s
  | _ => exact unsensed_setLatch s l true

theorem presenceRise_fires (rest : s.tableAtRest) (low : (s.wiresOf l).present.asserted = false) :
    ∃ t, exec (.presenceRise l) s = .next t ∧ s.firedOnce t l .present (some .rise) :=
  ⟨_, congrArg Host.Outcome.next (if_neg (by rw [low]; decide)), firedOnce_presenceChange rest true⟩

theorem presenceFall_fires (rest : s.tableAtRest) (high : (s.wiresOf l).present.asserted = true) :
    ∃ t, exec (.presenceFall l) s = .next t ∧ s.firedOnce t l .present (some .fall) :=
  ⟨_, congrArg Host.Outcome.next (if_pos high), firedOnce_presenceChange rest false⟩

theorem alertRise_fires (rest : s.tableAtRest) (low : (s.wiresOf l).alert.asserted = false) :
    ∃ t, exec (.alertRise l) s = .next t ∧ s.firedOnce t l .alert (some .rise) := by
  refine ⟨_, congrArg Host.Outcome.next (if_neg (by rw [low]; decide)), firedOnce_tableTake ?_ rest (by decide) (by decide)⟩
  exact unfired_of_unsensed (unsensed_trans (unsensed_settleFilter s l .alert true)
    (unsensed_trans (unsensed_latchAlert _ l) (unsensed_judge _)))

theorem alertFall_fires (rest : s.tableAtRest) (high : (s.wiresOf l).alert.asserted = true) :
    ∃ t, exec (.alertFall l) s = .next t ∧ s.firedOnce t l .alert (some .fall) := by
  refine ⟨_, congrArg Host.Outcome.next (if_pos high), firedOnce_tableTake ?_ rest (by decide) (by decide)⟩
  exact unfired_of_unsensed (unsensed_trans (unsensed_settleFilter s l .alert false) (unsensed_judge _))

theorem wakeEdge (s : State) (l : LegId) : edgeOf (!(s.wiresOf l).wake.asserted) =
    if (s.wiresOf l).wake.asserted = true then .fall else .rise := by
  unfold edgeOf
  cases (s.wiresOf l).wake.asserted <;> rfl

theorem wakeChange_fires (rest : s.tableAtRest) : ∃ t, exec (.wakeChange l) s = .next t
    ∧ s.firedOnce t l .wake (some (if (s.wiresOf l).wake.asserted = true then .fall else .rise)) := by
  refine ⟨_, rfl, ?_⟩
  rw [← wakeEdge]
  refine firedOnce_tableTake ?_ rest (by decide) (by decide)
  exact unfired_of_unsensed (unsensed_trans (unsensed_settleFilter s l .wake _) (unsensed_judge _))

end

/-! ### Monitors and margins -/

section
variable {s : State} {l : LegId} {f : FaceId}

theorem signalLost_fires (rest : s.tableAtRest) (leg : s.faceLeg f = some l) (empty : s.inFlight = [])
    (present : (s.monitor f).signal = .present) :
    ∃ t, exec (.signalLost ⟨f, .now⟩) s = .next t ∧ s.firedOnce t l .signalLost none := by
  refine ⟨_, signalLost_now present empty, ?_⟩
  have own : (s.faceReport .signalLost f none).leg = some l := leg
  generalize s.faceReport .signalLost f none = r at *
  have taken := unfired_monitorReport (s := s.loseSignal f) (r := r) (take := fun l s => s.takeSignalLoss l f) rest own
    (fun u => unfired_takeSignalLoss u l f)
  have lost : s.unsensed (s.loseSignal f) := unsensed_of rfl rfl rfl rfl
  unfold State.handSignalLost State.legSource
  rw [own]
  exact firedOnce_tableTake (unfired_trans (unfired_of_unsensed lost) taken) rest (by decide) (by decide)

theorem slip_now {m : Monitor} (own : s.monitor f = m) (empty : s.inFlight = []) (locked : m.lock = .locked)
    (limit : m.slips = m.windowLimit) (first : m.burstRaised = false) : exec (.slip ⟨f, .now⟩) s =
      .next ((s.modMonitor f (fun m => { m.countSlip with burstRaised := true })).handSlipBurst (s.burstReport f)) := by
  subst own
  rw [slip_eq (by decide), if_neg (not_not.mpr locked), if_pos ⟨limit, first⟩, if_pos rfl]
  exact congrArg Host.Outcome.next (handNow_empty (s := s.modMonitor f _) empty)

theorem slipBurst_fires (rest : s.tableAtRest) (leg : s.faceLeg f = some l) (empty : s.inFlight = [])
    (locked : (s.monitor f).lock = .locked) (limit : (s.monitor f).slips = (s.monitor f).windowLimit)
    (first : (s.monitor f).burstRaised = false) :
    ∃ t, exec (.slip ⟨f, .now⟩) s = .next t ∧ s.firedOnce t l .slipBurst none := by
  refine ⟨_, slip_now rfl empty locked limit first, ?_⟩
  have own : (s.burstReport f).leg = some l := leg
  have counted : s.unsensed (s.modMonitor f (fun m => { m.countSlip with burstRaised := true })) := unsensed_of rfl rfl rfl rfl
  have work : (s.modMonitor f (fun m => { m.countSlip with burstRaised := true })).workOf l := workOf_atRest rest
  generalize s.burstReport f = r at *
  generalize s.modMonitor f (fun m => { m.countSlip with burstRaised := true }) = u at *
  unfold State.handSlipBurst State.legSource
  rw [own]
  exact firedOnce_tableTake (unfired_trans (unfired_of_unsensed counted) (unfired_report work own)) rest (by decide) (by decide)

/-- A report that takes the leg's tally to its threshold fires each slot on it once (R128). -/
theorem report_fires {u : State} {r : Report} (rest : u.tableAtRest) (reached : (u.takeReport r).2 = some l)
    (past : ((u.takeReport r).1.tally l).threshold ≤ ((u.takeReport r).1.tally l).value) :
    u.firedOnce (u.report r) l .tallyThreshold none := by
  have whole := takeWhole_reached reached
  have foot := takeReport_footprint u r
  have report : u.report r = State.finish (u.takeWhole r) := rfl
  rw [report, whole]
  generalize (u.takeReport r).1 = v at *
  have fields : v.slots = u.slots ∧ v.table = ⟨false, [], false, []⟩ := by
    rw [foot]
    exact ⟨rfl, rest⟩
  obtain ⟨slots, table⟩ := fields
  have drained : (v.await ⟨thresholdEvent l, none⟩).holdReports.finish =
      { ((v.waitingReports true []).fireSlots (thresholdEvent l)
          ((v.waitingReports true []).matchingSlots (thresholdEvent l))).drain 15 with table := noWork } := by
    have waits : (v.await ⟨thresholdEvent l, none⟩).holdReports =
        { v with table := ⟨false, [⟨thresholdEvent l, none⟩], true, []⟩ } := by
      unfold State.await State.holdReports
      rw [table]
      rfl
    rw [waits]
    rfl
  rw [drained]
  have deaf : (v.waitingReports true []).deaf l := ⟨past, rfl⟩
  have work : (v.waitingReports true []).workOf l := by constructor <;> exact fun _ mem => nomatch mem
  have fires := fired_fireSlots (nodup_matchingSlots (v.waitingReports true []) (thresholdEvent l)) (v.waitingReports true [])
    (thresholdEvent l)
  have both := fired_unfired fires (unfired_drain 15 (fires.work work))
  generalize ((v.waitingReports true []).fireSlots (thresholdEvent l)
          ((v.waitingReports true []).matchingSlots (thresholdEvent l))).drain 15 = t at *
  have once := firedOnce_of_fired (src := .tallyThreshold) (e := none) both (by decide) (fun j _ => .inr (.inr deaf))
  have same (k : LegId) (j : SlotId) : (v.waitingReports true []).slot k j = u.slot k j := by
    show v.slot k j = u.slot k j
    unfold State.slot
    rw [slots]
  unfold State.firedOnce at once ⊢
  simp only [same] at once
  exact once

/-- A report that takes the tally to its threshold (R127, R128). -/
theorem takeReport_reaches {u : State} {r : Report} (on : (u.errors.settings[kindIndex r.kind]).enable = true)
    (counted : u.counts r l) (room : (u.tally l).value < 255) (next : (u.tally l).value + 1 = (u.tally l).threshold) :
    (u.takeReport r).2 = some l ∧ ((u.takeReport r).1.tally l).threshold ≤ ((u.takeReport r).1.tally l).value := by
  have reaches : (u.tally l).reaches = true := by
    unfold Tally.reaches
    rw [decide_eq_true room, next]
    exact beq_self_eq_true _
  have taken := takeReport_counted on counted
  rw [if_pos reaches] at taken
  refine ⟨congrArg Prod.snd taken, ?_⟩
  rw [taken, State.tally_modTally, tally_noted]
  unfold Tally.increment
  rw [if_pos room]
  exact Nat.le_of_eq next.symm

theorem slip_threshold (rest : s.tableAtRest) (leg : s.faceLeg f = some l) (empty : s.inFlight = [])
    (locked : (s.monitor f).lock = .locked) (limit : (s.monitor f).slips = (s.monitor f).windowLimit)
    (first : (s.monitor f).burstRaised = false) (quiet : s.noSlotOn l .slipBurst)
    (on : (s.errors.settings[(2 : Fin 14)]).enable = true) (counts : setHas (s.tally l).kinds 2 = true)
    (room : (s.tally l).value < 255) (next : (s.tally l).value + 1 = (s.tally l).threshold) :
    ∃ t, exec (.slip ⟨f, .now⟩) s = .next t ∧ s.firedOnce t l .tallyThreshold none := by
  refine ⟨_, slip_now rfl empty locked limit first, ?_⟩
  have own : (s.burstReport f).leg = some l := leg
  have same : ∀ (k : LegId) (j : SlotId),
      (s.modMonitor f (fun m => { m.countSlip with burstRaised := true })).slot k j = s.slot k j := fun _ _ => rfl
  have atRest : (s.modMonitor f (fun m => { m.countSlip with burstRaised := true })).tableAtRest := rest
  obtain ⟨reached, past⟩ := takeReport_reaches (l := l)
    (u := s.modMonitor f (fun m => { m.countSlip with burstRaised := true })) (r := s.burstReport f) on ⟨leg, counts⟩ room next
  generalize s.burstReport f = r at *
  generalize s.modMonitor f (fun m => { m.countSlip with burstRaised := true }) = u at *
  have once := report_fires atRest reached past
  have hands : u.handSlipBurst r = u.report r := by
    have quiet' : (u.report r).noSlotOn l .slipBurst := by
      intro j
      by_cases thr : (u.slot l j).source = .tallyThreshold
      · rw [once.1 j thr]
        show (u.slot l j).source ≠ _
        rw [thr]
        decide
      · by_cases any : (s.slot l j).source = .slipBurst
        · exact absurd any (quiet j)
        · rw [once.2.1 j thr thr, same]
          exact any
    unfold State.handSlipBurst State.legSource
    rw [own]
    exact tableTake_eq (ev := ⟨l, .slipBurst, none⟩) (finish_atRest _) quiet'
  rw [hands]
  unfold State.firedOnce at once ⊢
  simp only [same] at once
  exact once

/-- A margin below the floor (R100). -/
theorem marginLow_fires {r : RunningJob} {found : Finding} (rest : s.tableAtRest) (leg : s.faceLeg f = some l)
    (running : s.engine.running = some r) (kind : r.job.kind = .margin) (own : r.job.face = f) (going : r.cancelling = false)
    (empty : s.inFlight = []) (last : s.lastJob) (valid : found.valid = true) (low : found.margin.val < (s.leg l).marginFloor) :
    ∃ t, exec (.jobCompletion found) s = .next t ∧ s.firedOnce t l .marginLow none := by
  have urgent := urgentPending_last (e := s.engine) last
  have done := completion_done (found := found) running going valid (suspensionAhead_quiet urgent)
  rw [completeJob_margin kind] at done
  refine ⟨_, done, ?_⟩
  have measured : s.unsensed (s.measured f found.margin) := unsensed_of rfl rfl rfl rfl
  have work : (s.measured f found.margin).workOf l := workOf_atRest rest
  have report := faceReport_eq (v := s.measured f found.margin) leg rfl rfl rfl .marginLow (some found.margin.val)
  have step : s.completeMargin r.job found.margin =
      (((s.measured f found.margin).report (s.errorAtFace l .marginLow f (some found.margin.val))).tableTake
        ⟨l, .marginLow, none⟩).jobNotice r.job .completed (some found.margin) := by
    have flight : (s.measured f found.margin).handFlight = s.measured f found.margin := handFlight_nil empty
    unfold State.completeMargin State.checkMargin
    rw [own]
    have leg' : (s.writeMargin f found.margin).faceLeg f = some l := leg
    rw [leg']
    dsimp only
    have low' : found.margin.val < ((s.writeMargin f found.margin).leg l).marginFloor := low
    rw [if_pos low']
    show (((s.measured f found.margin).handFlight.report
      ((s.measured f found.margin).faceReport .marginLow f (some found.margin.val))).tableTake
        ⟨l, .marginLow, none⟩).jobNotice r.job .completed (some found.margin) = _
    rw [flight, report]
  rw [step]
  generalize s.measured f found.margin = u at *
  have reported := unfired_trans (unfired_of_unsensed measured)
    (unfired_report work (r := s.errorAtFace l .marginLow f (some found.margin.val)) rfl)
  generalize u.report (s.errorAtFace l .marginLow f (some found.margin.val)) = v at *
  have once := firedOnce_tableTake (src := .marginLow) (e := none) reported rest (by decide) (by decide)
  have taken := unfired_fired reported (fired_tableTake (ev := ⟨l, .marginLow, none⟩) (reported.work (workOf_atRest rest)))
  generalize v.tableTake ⟨l, .marginLow, none⟩ = w at *
  have noticed : w.unsensed (w.jobNotice r.job .completed (some found.margin)) := by
    unfold State.jobNotice
    split
    · exact unsensed_of rfl rfl rfl rfl
    · exact unsensed_refl w
  have quiet := Engine.noneUrgent_within (Engine.within_trans taken.jobs noticed.jobs) ((urgentPending_iff s.engine).mp urgent)
  have left := unsensed_trans noticed (unsensed_leaveSlot quiet)
  have same (k : LegId) (j : SlotId) : State.slot (State.leaveSlot (w.jobNotice r.job .completed (some found.margin))) k j = w.slot k j := by
    unfold State.slot
    rw [left.slots]
  unfold State.firedOnce
  simp only [same]
  exact once

end

end Sys2Proof.Machine

/-! The action of the one slot that a wake change fires (spec/06 R114 to R118). -/

namespace Sys2Proof.Machine

/-! ### Reports where no slot is on the leg's threshold -/

/-- The error unit, the notices and the table's work have changed, and what is in flight, and nothing else. -/
def State.reportWork (s t : State) : Prop :=
  t = { s with errors := t.errors, notices := t.notices, table := t.table, inFlight := t.inFlight }

section
variable {s t u : State} {l : LegId} {r : Report}

theorem reportWork_trans (h : s.reportWork t) (h' : t.reportWork u) : s.reportWork u := by
  unfold State.reportWork at *
  rw [h', h]

theorem reportWork_table (s : State) (w : TableWork) : s.reportWork { s with table := w } := rfl

theorem reportWork_takeReport (s : State) (r : Report) : s.reportWork (s.takeReport r).1 := by
  unfold State.reportWork
  rw [takeReport_footprint]

theorem reportWork_takeWhole (s : State) (r : Report) : s.reportWork (s.takeWhole r) := by
  cases reached : (s.takeReport r).2 with
  | none =>
    rw [takeWhole_unreached reached]
    exact reportWork_takeReport s r
  | some l =>
    rw [takeWhole_reached reached]
    exact reportWork_trans (reportWork_takeReport s r) rfl

theorem reportWork_tableMid (quiet : s.noSlotOn l .tallyThreshold) : s.reportWork (s.tableMid l) := by
  have absent : s.matchingSlots (thresholdEvent l) = [] := matchingSlots_eq_nil quiet
  unfold State.tableMid
  split
  · rfl
  · dsimp only
    rw [absent]
    rfl

theorem reportWork_reportMid (quiet : s.noSlotOn l .tallyThreshold) (leg : r.leg = some l) : s.reportWork (s.reportMid r) := by
  have taken := reportWork_takeReport s r
  have reaches (k : LegId) (reached : (s.takeReport r).2 = some k) : k = l :=
    Option.some.inj ((takeReport_reached reached).symm.trans leg)
  unfold State.reportMid
  split
  · rfl
  · split
    · rfl
    · generalize s.takeReport r = answer at *
      obtain ⟨v, reached⟩ := answer
      cases reached with
      | none => exact taken
      | some k =>
        obtain rfl := reaches k rfl
        dsimp only at taken ⊢
        have slots : v.slots = s.slots := by rw [taken]
        exact reportWork_trans taken (reportWork_tableMid (noSlotOn_of_slots slots quiet))

theorem reportWork_drain (n : Nat) {s : State} (work : s.workOf l) (quiet : s.noSlotOn l .tallyThreshold) :
    s.reportWork (s.drain n) := by
  induction n generalizing s with
  | zero => rfl
  | succ n ih =>
    unfold State.drain
    split
    · rename_i w ws waiting
      have mem : w ∈ s.table.waiting := by
        rw [waiting]
        exact List.mem_cons_self
      have event := work.event w mem
      have none_ : w.slots.getD (State.matchingSlots { s with table := { s.table with waiting := ws } } w.event) = [] := by
        cases own : w.slots with
        | none =>
          rw [event]
          exact matchingSlots_eq_nil quiet
        | some js =>
          refine List.eq_nil_iff_forall_not_mem.mpr fun j mem' => ?_
          exact quiet j ((work.slots w mem js own).2 j mem')
      have taken : State.takeWaiting { s with table := { s.table with waiting := ws } } w =
          { s with table := { s.table with waiting := ws, firing := false } } := by
        unfold State.takeWaiting
        rw [none_]
        rfl
      rw [taken]
      have left : State.workOf { s with table := { s.table with waiting := ws, firing := false } } l :=
        ⟨fun x later => work.event x (by rw [waiting]; exact List.mem_cons_of_mem _ later),
          fun x later => work.slots x (by rw [waiting]; exact List.mem_cons_of_mem _ later), work.reports⟩
      exact reportWork_trans (reportWork_table s _) (ih left quiet)
    · rename_i r rs waiting reports
      have own : r.leg = some l := work.reports r (by rw [reports]; exact List.mem_cons_self)
      have left : State.workOf { s with table := { s.table with reports := rs } } l :=
        ⟨work.event, work.slots, fun x later => work.reports x (by rw [reports]; exact List.mem_cons_of_mem _ later)⟩
      have taken := reportWork_takeWhole { s with table := { s.table with reports := rs } } r
      have first : s.reportWork (State.takeWhole { s with table := { s.table with reports := rs } } r) :=
        reportWork_trans (reportWork_table s _) taken
      have kept := (unfired_takeWhole (s := { s with table := { s.table with reports := rs } }) own).work left
      generalize State.takeWhole { s with table := { s.table with reports := rs } } r = v at *
      have slots : v.slots = s.slots := by rw [first]
      exact reportWork_trans first (ih kept (noSlotOn_of_slots slots quiet))
    · rfl

theorem reportWork_finish (work : s.workOf l) (quiet : s.noSlotOn l .tallyThreshold) : s.reportWork s.finish := by
  unfold State.finish
  exact reportWork_trans (reportWork_drain 16 work quiet) rfl

end

/-! ### What a leg's taking leaves to the others -/

/-- The other legs and the wires are as they were, and no slot of the leg has come to be on its threshold. -/
structure State.othersStay (u v : State) (l : LegId) : Prop where
  legs : ∀ k : LegId, k ≠ l → v.leg k = u.leg k
  wires : v.wires = u.wires

section
variable {u v t : State} {l : LegId}

theorem othersStay_refl (u : State) (l : LegId) : u.othersStay u l := ⟨fun _ _ => rfl, rfl⟩

theorem othersStay_trans (h : u.othersStay v l) (h' : v.othersStay t l) : u.othersStay t l :=
  ⟨fun k away => (h'.legs k away).trans (h.legs k away), h'.wires.trans h.wires⟩

theorem othersStay_modLeg (u : State) (l : LegId) (g : Leg → Leg) : u.othersStay (u.modLeg l g) l :=
  ⟨fun k away => State.leg_modLeg_other u l k g away, rfl⟩

theorem othersStay_of_reportWork (h : u.reportWork v) : u.othersStay v l := by
  unfold State.reportWork at h
  rw [h]
  exact ⟨fun _ _ => rfl, rfl⟩

theorem leg_of_reportWork (h : u.reportWork v) : v.leg l = u.leg l := by
  unfold State.reportWork at h
  rw [h]
  rfl

theorem othersStay_parkedAs (g : Leg → Leg) (st : LegState) : u.othersStay (u.parkedAs l g st) l := by
  have work := legWork_parkedAs (u := u) (l := l) g st
  refine ⟨fun k away => ?_, by rw [work]⟩
  rw [leg_parkedAs_other _ _ away, State.parkLeg, State.leg_setPaths]

theorem othersStay_enterFailed (c : FailCause) (quiet : u.noSlotOn l .tallyThreshold) : u.othersStay (u.enterFailed l c) l
    ∧ (u.enterFailed l c).leg l = { (u.leg l).failing c with state := .failed } := by
  have stays : u.othersStay (u.failedAs l c) l := othersStay_parkedAs _ _
  have leg := leg_failedAs (u := u) (l := l) c
  have parked : u.legWork (u.failedAs l c) := legWork_parkedAs _ _
  have slots : (u.failedAs l c).slots = u.slots := by rw [parked]
  have reports : u.enterFailed l c =
      (u.failedAs l c).reportMid ((u.failedAs l c).legReport .legFailed l (some (failCauseCode c))) := rfl
  rw [reports]
  generalize u.failedAs l c = v at *
  have work := reportWork_reportMid (r := v.legReport .legFailed l (some (failCauseCode c))) (noSlotOn_of_slots slots quiet) rfl
  exact ⟨othersStay_trans stays (othersStay_of_reportWork work), (leg_of_reportWork work).trans leg⟩

/-- A series leaves the other legs, and a hold request of its own leg, as they were. -/
theorem othersStay_startSeries (c : TrainCause) (quiet : u.noSlotOn l .tallyThreshold) : u.othersStay (u.startSeries l c) l
    ∧ ((u.startSeries l c).leg l).holdRequest = (u.leg l).holdRequest := by
  cases chosen : selectWidth (u.leg l).configuredWidth (u.leg l).minimumWidth (u.leg l).excluded with
  | none =>
    rw [startSeries_none c chosen]
    obtain ⟨stays, leg⟩ := othersStay_enterFailed (u := u.modLeg l (fun x => x.series c)) (l := l) .width quiet
    rw [leg, State.leg_modLeg]
    exact ⟨othersStay_trans (othersStay_modLeg u l _) stays, rfl⟩
  | some wg =>
    obtain ⟨w, g⟩ := wg
    have work := legWork_startSeries (s := u) (l := l) (c := c) chosen
    obtain ⟨legs, -⟩ := othersKept_startSeries (s := u) (l := l) c chosen
    refine ⟨⟨fun k away => (legs k away).1, by rw [work]⟩, ?_⟩
    rw [leg_startSeries c chosen]
    rfl

theorem othersStay_enterHeld (c : TrainCause) : u.othersStay (u.enterHeld l c) l := by
  cases trained : isTrained (u.leg l).state with
  | true =>
    obtain ⟨legs, -⟩ := othersKept_workEnded u l .giveUp
    rw [enterHeld_trained trained]
    exact othersStay_trans ⟨fun k away => (legs k away).1, rfl⟩ (othersStay_parkedAs _ _)
  | false =>
    rw [enterHeld_untrained c trained]
    exact othersStay_parkedAs _ _

theorem leg_enterHeld (c : TrainCause) : (u.enterHeld l c).leg l = (u.leg l).heldWith c := by
  cases trained : isTrained (u.leg l).state with
  | true => exact leg_enterHeld_trained trained
  | false => exact leg_enterHeld_untrained c trained

end

end Sys2Proof.Machine

/-! What a sideband change fires, and what the one slot on wake then does (spec/06 R113 to R118). -/

namespace Sys2Proof.Machine

/-- The one slot that a wake change fires is being fired: `u` is `s` with the level, the frame judged and the slot counted. -/
structure State.slotFired (s u : State) (l : LegId) : Prop where
  rest : u = { s with wires := u.wires, frame := u.frame, slots := u.slots, table := ⟨true, [], false, []⟩ }
  quiet : u.noSlotOn l .tallyThreshold

section
variable {s u t : State} {l : LegId} {c : TrainCause}

theorem State.slotFired.work (fired : s.slotFired u l) : u.workOf l := by
  have table : u.table = ⟨true, [], false, []⟩ := by rw [fired.rest]
  constructor <;> rw [table] <;> exact fun _ mem => nomatch mem

/-- A slot's action that the leg controller takes, and what the table does after it. -/
theorem reportWork_action (fired : s.slotFired u l) (e : Cause) {take : State → State} (unfired : u.fired (take u) l []) :
    (take u).reportWork (((u.legTake l e take).setFiring false).finish) := by
  have took := unfired_legTake u l e unfired
  have noted : (take u).reportWork (u.legTake l e take) := by
    unfold State.legTake
    dsimp only
    split
    · rfl
    · rfl
  have quiet : (u.legTake l e take).noSlotOn l .tallyThreshold := fun i => by
    rw [took.sources]
    exact fired.quiet i
  have work := took.work fired.work
  generalize u.legTake l e take = v at *
  have left : (v.setFiring false).workOf l := ⟨work.event, work.slots, work.reports⟩
  exact reportWork_trans noted (reportWork_trans (reportWork_table v _) (reportWork_finish left quiet))

theorem seriesBegun_of_reportWork {c : TrainCause} {w : Nat} {g : PosSet} (begun : s.seriesBegun u l c w g) (h : u.reportWork t) :
    s.seriesBegun t l c w g := by
  unfold State.reportWork at h
  rw [h]
  exact begun

theorem State.slotFired.attemptLike (fired : s.slotFired u l) {x : Leg} (slip : x.slipLimit = (s.leg l).slipLimit)
    (training : x.trainingLimit = (s.leg l).trainingLimit) (target : x.targetRate = (s.leg l).targetRate) :
    s.attemptLike (u.modLeg l (fun _ => x)) l := by
  have own : (u.modLeg l (fun _ => x)).leg l = x := State.leg_modLeg u l _
  have rest := fired.rest
  refine attemptLike_of_eq ?_ ?_ ?_ ?_ ?_ (by rw [own, slip]) (by rw [own, training]) (by rw [own, target])
  · rw [rest]
    rfl
  · rw [rest]
    rfl
  · rw [rest]
    rfl
  · rw [rest]
    rfl
  · rw [rest]
    rfl

theorem State.slotFired.leg (fired : s.slotFired u l) (k : LegId) : u.leg k = s.leg k := by
  rw [fired.rest]
  rfl

/-- A series that a slot's action starts. -/
theorem State.slotFired.begins (fired : s.slotFired u l) {x : Leg} (slip : x.slipLimit = (s.leg l).slipLimit)
    (training : x.trainingLimit = (s.leg l).trainingLimit) (target : x.targetRate = (s.leg l).targetRate)
    (h : ((u.modLeg l (fun _ => x)).startSeries l c).reportWork t) {w : Nat} {g : PosSet}
    (chosen : selectWidth x.configuredWidth x.minimumWidth x.excluded = some (w, g)) : s.seriesBegun t l c w g := by
  have own : (u.modLeg l (fun _ => x)).leg l = x := State.leg_modLeg u l _
  have sent : (u.modLeg l (fun _ => x)).sent = s.sent := by
    rw [fired.rest]
    rfl
  refine seriesBegun_of_reportWork ?_ h
  exact seriesBegun_startSeries (fired.attemptLike slip training target) sent c (by rw [own]; exact chosen)

theorem othersStay_action {v : State} (fired : s.slotFired u l) (stays : u.othersStay v l) (h : v.reportWork t) :
    (∀ k : LegId, k ≠ l → t.leg k = s.leg k) ∧ t.wires = u.wires := by
  obtain ⟨legs, wires⟩ := othersStay_trans stays (othersStay_of_reportWork h)
  exact ⟨fun k away => (legs k away).trans (fired.leg k), wires⟩

/-- RETRAIN (R116). -/
theorem retrain_acts (fired : s.slotFired u l) (h : (u.retrainAction l).reportWork t) :
    (∀ k : LegId, k ≠ l → t.leg k = s.leg k) ∧ t.wires = u.wires
    ∧ if isLinked (s.leg l).state = true then
        ∀ (w : Nat) (g : PosSet), selectWidth (s.leg l).configuredWidth (s.leg l).minimumWidth (s.leg l).excluded = some (w, g) →
          s.seriesBegun t l .reaction w g
      else t.leg l = s.leg l := by
  have own := fired.leg l
  unfold State.retrainAction at h
  rw [own] at h
  by_cases linked : isLinked (s.leg l).state = true
  · rw [if_pos linked] at h ⊢
    obtain ⟨legs, wires⟩ := othersStay_action fired (othersStay_startSeries .reaction fired.quiet).1 h
    refine ⟨legs, wires, fun w g chosen => ?_⟩
    have same : u.modLeg l (fun _ => s.leg l) = u := by
      rw [← own]
      exact modLeg_self u l
    rw [← same] at h
    exact fired.begins rfl rfl rfl h chosen
  · rw [if_neg linked] at h ⊢
    obtain ⟨legs, wires⟩ := othersStay_action fired (othersStay_refl u l) h
    exact ⟨legs, wires, (leg_of_reportWork h).trans own⟩

/-- The leg context that a HOLD leaves (R28, R116). -/
def Leg.heldBy (x : Leg) : Leg :=
  { (match x.state with
     | .off | .absent => x
     | .held => { x with holdTimer := some x.holdMinimum }
     | .training | .active | .degraded | .test | .failed => x.heldWith .reaction) with holdRequest := true }

theorem heldBy_down {x : Leg} (down : x.state = .off ∨ x.state = .absent) : x.heldBy = { x with holdRequest := true } := by
  cases x
  rcases down with state | state <;> cases state <;> rfl

theorem heldBy_held {x : Leg} (held : x.state = .held) :
    x.heldBy = { x with holdRequest := true, holdTimer := some x.holdMinimum } := by
  cases x
  cases held
  rfl

theorem heldBy_up {x : Leg} (up : x.state ≠ .off) (present : x.state ≠ .absent) (free : x.state ≠ .held) :
    x.heldBy = Leg.heldWith { x with holdRequest := true } .reaction := by
  obtain ⟨enabled, state⟩ := x
  cases state with
  | off => exact absurd rfl up
  | absent => exact absurd rfl present
  | held => exact absurd rfl free
  | training | active | degraded | test | failed => rfl

theorem leg_holdLeg (u : State) (l : LegId) : u.othersStay (u.holdLeg l .reaction) l
    ∧ (u.holdLeg l .reaction).leg l = (u.leg l).heldBy := by
  by_cases down : (u.leg l).state = .off ∨ (u.leg l).state = .absent
  · rw [holdLeg_down down, State.leg_modLeg, heldBy_down down]
    exact ⟨othersStay_modLeg u l _, rfl⟩
  · obtain ⟨up, present⟩ := not_or.mp down
    by_cases held : (u.leg l).state = .held
    · rw [holdLeg_held held, State.leg_modLeg, heldBy_held held]
      exact ⟨othersStay_modLeg u l _, rfl⟩
    · rw [holdLeg_enters up present held, leg_enterHeld, State.leg_modLeg, heldBy_up up present held]
      exact ⟨othersStay_trans (othersStay_modLeg u l _) (othersStay_enterHeld _), rfl⟩

theorem hold_acts (fired : s.slotFired u l) (h : (u.holdLeg l .reaction).reportWork t) :
    (∀ k : LegId, k ≠ l → t.leg k = s.leg k) ∧ t.wires = u.wires ∧ t.leg l = (s.leg l).heldBy := by
  obtain ⟨stays, leg⟩ := leg_holdLeg u l
  obtain ⟨legs, wires⟩ := othersStay_action fired stays h
  refine ⟨legs, wires, (leg_of_reportWork h).trans ?_⟩
  rw [leg, fired.leg]

/-- A leg context without a hold request (R29). -/
def Leg.released (x : Leg) : Leg := { x with holdRequest := false }

theorem releaseLeg_series (held : (u.leg l).state = .held) (timer : (u.leg l).holdTimer = none) :
    u.releaseLeg l = (u.modLeg l (fun _ => (u.leg l).released)).startSeries l (u.leg l).trainingCause := releaseLeg_leaves held timer

theorem releaseLeg_rests (h : ¬((u.leg l).state = .held ∧ (u.leg l).holdTimer = none)) :
    u.releaseLeg l = u.modLeg l (fun _ => (u.leg l).released) := releaseLeg_stays h

/-- RELEASE (R29, R116). -/
theorem release_acts (fired : s.slotFired u l) (h : (u.releaseLeg l).reportWork t) :
    (∀ k : LegId, k ≠ l → t.leg k = s.leg k) ∧ t.wires = u.wires
    ∧ if (s.leg l).state = .held ∧ (s.leg l).holdTimer = none then
        (∀ (w : Nat) (g : PosSet), selectWidth (s.leg l).configuredWidth (s.leg l).minimumWidth (s.leg l).excluded = some (w, g) →
          s.seriesBegun t l (s.leg l).trainingCause w g) ∧ (t.leg l).holdRequest = false
      else t.leg l = (s.leg l).released := by
  have own := fired.leg l
  have quiet : (u.modLeg l (fun _ => (s.leg l).released)).noSlotOn l .tallyThreshold := fired.quiet
  have stays := othersStay_modLeg u l (fun _ => (s.leg l).released)
  have leg : (u.modLeg l (fun _ => (s.leg l).released)).leg l = (s.leg l).released := State.leg_modLeg u l _
  by_cases leaves : (s.leg l).state = .held ∧ (s.leg l).holdTimer = none
  · rw [if_pos leaves]
    obtain ⟨held, timer⟩ := leaves
    rw [releaseLeg_series (by rw [own]; exact held) (by rw [own]; exact timer), own] at h
    have begins (w : Nat) (g : PosSet) := fired.begins (x := (s.leg l).released) (w := w) (g := g) rfl rfl rfl h
    obtain ⟨others, request⟩ := othersStay_startSeries (s.leg l).trainingCause quiet
    obtain ⟨legs, wires⟩ := othersStay_action fired (othersStay_trans stays others) h
    refine ⟨legs, wires, begins, ?_⟩
    rw [leg_of_reportWork h, request, leg]
    rfl
  · rw [if_neg leaves]
    rw [releaseLeg_rests (by rw [own]; exact leaves), own] at h
    obtain ⟨legs, wires⟩ := othersStay_action fired stays h
    exact ⟨legs, wires, (leg_of_reportWork h).trans leg⟩

end

/-! ### The wake change -/

section
variable {s : State} {l : LegId} {j : SlotId} {m : EdgeMode} {a : Action}

/-- The level of wake has changed and the frame is judged (R136, R139). -/
def State.woken (s : State) (l : LegId) : State := (s.settleFilter l .wake (!(s.wiresOf l).wake.asserted)).judge

/-- The edge of a wake change. -/
def State.wakeEdge (s : State) (l : LegId) : Edge := if (s.wiresOf l).wake.asserted = true then .fall else .rise

theorem wakeChange_eq : exec (.wakeChange l) s = .next ((s.woken l).tableTake ⟨l, .wake, some (s.wakeEdge l)⟩) := by
  unfold State.wakeEdge
  rw [← wakeEdge]
  rfl

theorem woken_footprint (s : State) (l : LegId) : s.woken l = { s with wires := (s.woken l).wires, frame := (s.woken l).frame } := by
  unfold State.woken
  rw [judge_footprint]
  rfl

theorem wires_woken (s : State) (l : LegId) : ((s.woken l).wiresOf l).wake.asserted = !(s.wiresOf l).wake.asserted := by
  unfold State.woken
  rw [judge_footprint]
  show ((modAt s.wires l _)[l]).wake.asserted = _
  rw [modAt_same]
  rfl

theorem matchingSlots_only {u : State} {ev : TableEvent}
    (only : ∀ i : SlotId, (u.slot ev.leg i).matchesEvent ev = true ↔ i = j) : u.matchingSlots ev = [j] := by
  have same : u.matchingSlots ev = allSlots.filter (fun i => i == j) := by
    refine List.filter_congr fun i _ => ?_
    rw [Bool.eq_iff_iff, only, beq_iff_eq]
  have single : ∀ i : SlotId, allSlots.filter (fun k => k == i) = [i] := by decide
  rw [same, single]

/-- The one slot on wake, where it matches the edge, is all that a wake change fires. -/
theorem wakeChange_only (others : ∀ i : SlotId, i ≠ j → (s.slot l i).source ≠ .wake) (own : (s.slot l j).source = .wake)
    (edge : (s.slot l j).edge = some m) (fits : edgeMatches m (s.wakeEdge l) = true) :
    (s.woken l).tableTake ⟨l, .wake, some (s.wakeEdge l)⟩ =
      ((((s.woken l).setFiring true).fireSlot ⟨l, .wake, some (s.wakeEdge l)⟩ j).setFiring false).finish := by
  have slot (i : SlotId) : (s.woken l).slot l i = s.slot l i := by
    rw [woken_footprint]
    rfl
  have only : (s.woken l).matchingSlots ⟨l, .wake, some (s.wakeEdge l)⟩ = [j] := by
    refine matchingSlots_only fun i => ?_
    dsimp only
    rw [slot]
    by_cases same : i = j
    · subst same
      rw [matchesEvent_edge own (by decide), edge]
      exact iff_of_true fits rfl
    · refine iff_of_false (fun matches_ => others i same ?_) same
      have fits := (mem_matchingSlots s ⟨l, .wake, some (s.wakeEdge l)⟩ i).mpr matches_
      exact source_matching fits
  unfold State.tableTake
  rw [only]
  rfl

/-- The slot is counted, and then its action goes to the leg controller. -/
theorem slotFired_countFire (rest : s.tableAtRest) (quiet : s.noSlotOn l .tallyThreshold) :
    s.slotFired (((s.woken l).setFiring true).countFire l j) l where
  rest := by
    unfold State.countFire State.setFiring
    rw [woken_footprint, rest]
    rfl
  quiet i := by
    rw [slot_countFire]
    have slot : ((s.woken l).setFiring true).slot l i = s.slot l i := by
      rw [woken_footprint]
      rfl
    rw [slot]
    split
    · exact quiet i
    · exact quiet i

end

end Sys2Proof.Machine

/-! Sideband changes and the slots that they fire, together (spec/06 R113 to R118). -/

namespace Sys2Proof.Machine

section
variable {s : State} {l : LegId} {j : SlotId} {a : Action}

/-- The state in which the one slot on wake has been counted and its action is to come. -/
def State.wakeCounted (s : State) (l : LegId) (j : SlotId) : State := ((s.woken l).setFiring true).countFire l j

theorem fireSlot_woken (action : (s.slot l j).action = some a) : ((s.woken l).setFiring true).fireSlot ⟨l, .wake, some (s.wakeEdge l)⟩ j =
    (((s.woken l).setFiring true).fireOwn ⟨l, .wake, some (s.wakeEdge l)⟩ j).legAction l a := by
  have same : (((s.woken l).setFiring true).slot l j).action = some a := by
    rw [woken_footprint]
    exact action
  unfold State.fireSlot
  dsimp only
  rw [same]

/-- A slot whose action the leg controller takes is counted, and that is all of its own (R114). -/
theorem fireOwn_acting (action : (s.slot l j).action = some a) (away : a ≠ .capture ∧ a ≠ .notify) :
    ((s.woken l).setFiring true).fireOwn ⟨l, .wake, some (s.wakeEdge l)⟩ j = s.wakeCounted l j := by
  have same : (((s.woken l).setFiring true).slot l j).action = some a := by
    rw [woken_footprint]
    exact action
  unfold State.fireOwn
  dsimp only
  rw [same]
  cases a with
  | capture => exact absurd rfl away.1
  | notify => exact absurd rfl away.2
  | _ => rfl

theorem wakeCounted_footprint (rest : s.tableAtRest) : s.wakeCounted l j = { s with
    wires := (s.woken l).wires, frame := (s.woken l).frame, slots := (s.wakeCounted l j).slots
    table := ⟨true, [], false, []⟩ } := by
  have frame : (s.wakeCounted l j).frame = (s.woken l).frame ∧ (s.wakeCounted l j).wires = (s.woken l).wires := ⟨rfl, rfl⟩
  unfold State.wakeCounted State.countFire State.setFiring
  rw [woken_footprint, rest]
  rfl

/-- A slot whose action stays in the table (R117, R118): with the table at rest again. -/
theorem finish_fired {u : State} (table : u.table = ⟨true, [], false, []⟩) :
    (u.setFiring false).finish = { u with table := noWork } := by
  have rest : (u.setFiring false).table = noWork := by
    unfold State.setFiring
    rw [table]
    rfl
  have same : u.setFiring false = { u with table := noWork } := by
    rw [← rest]
    rfl
  rw [finish_eq rest, same]

/-- The record that CAPTURE makes at a wake change (R117). -/
def State.wakeCapture (s : State) (l : LegId) (j : SlotId) : Capture :=
  ⟨s.clock.stamp, j, .wake, some (s.wakeEdge l), (s.leg l).state, (s.tally l).value, (s.tally l).overflow,
    (allFaces.filter (s.onLeg l)).map (fun f =>
      ⟨f, (s.face f).lastMargin, (s.monitor f).signal, (s.monitor f).lock, (s.monitor f).slips⟩)⟩

theorem capture_wake (rest : s.tableAtRest) : (s.wakeCounted l j).captureLeg ⟨l, .wake, some (s.wakeEdge l)⟩ j =
    (s.wakeCounted l j).modLeg l (fun x => { x with capture := some (s.wakeCapture l j) }) := by
  have faces : (s.wakeCounted l j).legFaces l = allFaces.filter (s.onLeg l) := by
    rw [wakeCounted_footprint rest]
    exact legFaces_eq s l
  have leg : (s.wakeCounted l j).leg l = s.leg l := by
    rw [wakeCounted_footprint rest]
    rfl
  have same : (s.wakeCounted l j).captureLeg ⟨l, .wake, some (s.wakeEdge l)⟩ j =
      (s.wakeCounted l j).modLeg l (fun x => { x with capture := some ⟨(s.wakeCounted l j).stamp, j, .wake,
        some (s.wakeEdge l), x.state, ((s.wakeCounted l j).tally l).value, ((s.wakeCounted l j).tally l).overflow,
        ((s.wakeCounted l j).legFaces l).map (fun f => ⟨f, ((s.wakeCounted l j).face f).lastMargin,
          ((s.wakeCounted l j).monitor f).signal, ((s.wakeCounted l j).monitor f).lock,
          ((s.wakeCounted l j).monitor f).slips⟩)⟩ }) := rfl
  rw [same, modLeg_const, modLeg_const _ _ (fun x => { x with capture := some (s.wakeCapture l j) }), faces, leg,
    wakeCounted_footprint rest]
  rfl

end

/-- Settles O34, by the slots that each event's taking fires, and by the action of the one slot on wake. -/
theorem sidebandChangesFireMatchingSlots : Obligations.SidebandChangesFireMatchingSlots := by
  refine ⟨fun s l rest => ⟨presenceRise_fires rest, presenceFall_fires rest, alertRise_fires rest, alertFall_fires rest,
    wakeChange_fires rest, fun f leg => ⟨signalLost_fires rest leg, fun empty locked limit first => ?bursts,
      fun r found running kind own going empty last valid low => ?margin⟩⟩, fun s l j m a rest quiet others own edge action => ?wakes⟩
  case bursts =>
    exact ⟨slipBurst_fires rest leg empty locked limit first,
      fun quiet on counts room next => slip_threshold rest leg empty locked limit first quiet on counts room next⟩
  case margin => exact marginLow_fires rest leg running kind own going empty last valid low
  case wakes =>
    intro shown fits x begun
    have only := wakeChange_only others own edge fits
    rw [fireSlot_woken action] at only
    have step := wakeChange_eq (s := s) (l := l)
    rw [only] at step
    have fired : s.slotFired (s.wakeCounted l j) l := slotFired_countFire rest quiet
    have wake (t : State) (same : t.wires = (s.wakeCounted l j).wires) :
        (t.wiresOf l).wake.asserted = !(s.wiresOf l).wake.asserted := by
      rw [← wires_woken]
      unfold State.wiresOf
      rw [same]
      rfl
    have table : (s.wakeCounted l j).table = ⟨true, [], false, []⟩ := by rw [wakeCounted_footprint rest]
    have notices : (s.wakeCounted l j).notices = s.notices := by rw [wakeCounted_footprint rest]
    have legs (k : LegId) : (s.wakeCounted l j).leg k = s.leg k := fired.leg k
    cases a with
    | retrain =>
      rw [fireOwn_acting action (by decide)] at step
      have work := reportWork_action fired (.train .reaction) (take := fun u => u.retrainAction l) (unfired_retrainAction _ l)
      obtain ⟨stay, wires, acts⟩ := retrain_acts fired work
      exact ⟨_, step, stay, wake _ wires, acts⟩
    | hold =>
      rw [fireOwn_acting action (by decide)] at step
      have work := reportWork_action fired (.train .reaction) (take := fun u => u.holdLeg l .reaction) (unfired_holdLeg _ l _)
      obtain ⟨stay, wires, leg⟩ := hold_acts fired work
      exact ⟨_, step, stay, wake _ wires, leg⟩
    | release =>
      rw [fireOwn_acting action (by decide)] at step
      have work := reportWork_action fired (.train .reaction) (take := fun u => u.releaseLeg l) (unfired_releaseLeg _ l)
      obtain ⟨stay, wires, acts⟩ := release_acts fired work
      exact ⟨_, step, stay, wake _ wires, acts⟩
    | capture =>
      have own : ((s.woken l).setFiring true).fireOwn ⟨l, .wake, some (s.wakeEdge l)⟩ j =
          (s.wakeCounted l j).modLeg l (fun x => { x with capture := some (s.wakeCapture l j) }) := by
        rw [← capture_wake rest]
        have same : (((s.woken l).setFiring true).slot l j).action = some .capture := by
          rw [woken_footprint]
          exact action
        unfold State.fireOwn
        dsimp only
        rw [same]
        rfl
      rw [own] at step
      have done : ((((s.wakeCounted l j).modLeg l (fun x => { x with capture := some (s.wakeCapture l j) })).legAction l
          .capture).setFiring false).finish = { (s.wakeCounted l j).modLeg l (fun x =>
            { x with capture := some (s.wakeCapture l j) }) with table := noWork } := finish_fired table
      rw [done] at step
      refine ⟨_, step, fun k away => ?_, wake _ rfl, ?_, notices⟩
      · exact (State.leg_modLeg_other _ _ _ _ away).trans (legs k)
      · refine (State.leg_modLeg (s.wakeCounted l j) l (fun x => { x with capture := some (s.wakeCapture l j) })).trans ?_
        rw [legs]
        rfl
    | notify =>
      have own : ((s.woken l).setFiring true).fireOwn ⟨l, .wake, some (s.wakeEdge l)⟩ j =
          (s.wakeCounted l j).notifySlot ⟨l, .wake, some (s.wakeEdge l)⟩ j := by
        have same : (((s.woken l).setFiring true).slot l j).action = some .notify := by
          rw [woken_footprint]
          exact action
        unfold State.fireOwn
        dsimp only
        rw [same]
        rfl
      rw [own] at step
      have done : ((((s.wakeCounted l j).notifySlot ⟨l, .wake, some (s.wakeEdge l)⟩ j).legAction l .notify).setFiring
          false).finish = { (s.wakeCounted l j).notifySlot ⟨l, .wake, some (s.wakeEdge l)⟩ j with table := noWork } :=
        finish_fired table
      rw [done] at step
      refine ⟨_, step, fun k _ => legs k, wake _ rfl, legs l, ?_⟩
      have stamp : (s.wakeCounted l j).stamp = s.clock.stamp := by
        rw [wakeCounted_footprint rest]
        rfl
      show (s.wakeCounted l j).notices.take (.reaction (s.wakeCounted l j).stamp l j .wake (some (s.wakeEdge l))
        ((s.wakeCounted l j).leg l).state) = _
      rw [notices, stamp, legs]
      rfl

end Sys2Proof.Machine

/-! The end of an attempt that fails, before the leg controller goes on (spec/03 R61, spec/02 R33). -/

namespace Sys2Proof.Machine

/-! ### The error unit and its errors -/

section
variable {s u : State}

/-- What the error unit makes of a report depends on its errors and on the time alone. -/
theorem errors_takeReport (errors : u.errors = s.errors) (clock : u.clock = s.clock) (r : Report) :
    (u.takeReport r).1.errors = (s.takeReport r).1.errors := by
  have noted : (u.noted r).errors = (s.noted r).errors := by simp only [errors_noted, errors, clock]
  have counts (l : LegId) : u.counts r l ↔ s.counts r l := by simp only [State.counts, State.tally, errors]
  have setting : u.errors.settings[kindIndex r.kind] = s.errors.settings[kindIndex r.kind] := by rw [errors]
  cases on : (s.errors.settings[kindIndex r.kind]).enable with
  | false =>
    rw [takeReport_off on, takeReport_off ((congrArg KindSetting.enable setting).trans on)]
    exact errors
  | true =>
    have on' := (congrArg KindSetting.enable setting).trans on
    by_cases counted : ∃ l : LegId, s.counts r l
    · obtain ⟨l, counted⟩ := counted
      rw [takeReport_counted on counted, takeReport_counted on' ((counts l).mpr counted)]
      show { (u.noted r).errors with tallies := modAt (u.noted r).errors.tallies l Tally.increment } = _
      rw [noted]
      rfl
    · have uncounted (l : LegId) : ¬s.counts r l := fun h => counted ⟨l, h⟩
      rw [takeReport_uncounted on uncounted, takeReport_uncounted on' fun l h => uncounted l ((counts l).mp h)]
      exact noted

theorem errors_afterReports (rs : List Report) (errors : u.errors = s.errors) (clock : u.clock = s.clock) :
    (u.afterReports rs).errors = (s.afterReports rs).errors := by
  induction rs generalizing s u with
  | nil => exact errors
  | cons r rs ih =>
    have clocks : (u.takeReport r).1.clock = (s.takeReport r).1.clock := by
      rw [takeReport_footprint u, takeReport_footprint s]
      exact clock
    exact ih (errors_takeReport errors clock r) clocks

theorem reportsOf_told (rs : List Report) (errors : u.errors = s.errors) (clock : u.clock = s.clock)
    (inFlight : u.inFlight = s.inFlight) : (u.told rs).reportsOf (s.told rs) := by
  have flight (x : State) : (x.afterReports rs).inFlight = x.inFlight := by rw [afterReports_footprint]
  unfold State.told State.reportsOf
  rw [inFlight]
  split
  · exact ⟨errors_afterReports rs errors clock, by rw [flight, flight]; exact inFlight⟩
  · exact ⟨errors, rfl⟩

end

/-! ### The attempt that ends -/

/-- What a failing attempt of leg `l` starts from: `s`, but for the leg's record and agreed rate, the words sent, the
monitors of paths in TRAINING, the tests, and what is on its way to the error unit. -/
structure State.failsFrom (s u : State) (l : LegId) : Prop where
  rest : u = { s with
    legs := u.legs, monitors := u.monitors, tests := u.tests, sent := u.sent, inFlight := u.inFlight, table := u.table }
  leg : u.leg l = { s.leg l with record := (u.leg l).record, agreedRate := (u.leg l).agreedRate }
  legs : ∀ k : LegId, k ≠ l → u.leg k = s.leg k
  began : (s.leg l).record.isSome = true
  record : (u.leg l).record.isSome = true
  monitor : ∀ f : FaceId, s.path (facePath f) ≠ .training → u.monitor f = s.monitor f

/-- The leg context once its attempt has failed and the failure is counted (R33). -/
def Leg.lost (x : Leg) : Leg := { x with record := none, limitTimer := none, attemptCount := x.attemptCount + 1 }

/-- The attempt is over and the failure is counted, in all but what was reported: `ex` are the positions excluded and `sent` the
words sent (R33, R61). -/
structure State.attemptLost (s w : State) (l : LegId) (ex : PosSet) (sent : List SentWord) : Prop where
  like : s.attemptLike w l
  park : s.parkLike w l
  leg : w.leg l = Leg.lost { s.leg l with agreedRate := (w.leg l).agreedRate, excluded := ex }
  legs : ∀ k : LegId, k ≠ l → w.leg k = s.leg k
  sent : w.sent = sent
  idle : ∀ f : FaceId, s.onGroup l f = true → (w.face f).status = .idle
  engine : ((allFaces.filter (s.onGroup l)).foldl Engine.cancel s.engine).sameBut w.engine
  slots : w.slots = s.slots
  clock : w.clock = s.clock

/-- The record is discarded, the group's jobs are cancelled and the failure is counted (R33, R61). -/
def State.attemptOver (u : State) (l : LegId) : State :=
  (((u.dropRecord l).modLeg l (fun x => { x with limitTimer := none })).cancelFaces ((u.dropRecord l).groupFaces l)).modLeg l
    (fun x => { x with attemptCount := x.attemptCount + 1 })

/-- What the leg controller does after a failure it has counted (R33). -/
def State.afterFailure (w : State) (l : LegId) (c : AttemptEnd) : State :=
  match c with
  | .rate => w.enterFailed l .rate
  | .lane | .partner | .timeout =>
    if (w.leg l).attemptCount = (w.leg l).retryBudget then w.enterFailed l .budget else w.startAttempt l

section
variable {s u v : State} {l : LegId}

theorem countFailure_eq (c : AttemptEnd) : (u.dropRecord l).countFailure l c = (u.attemptOver l).afterFailure l c := by
  unfold State.countFailure State.afterFailure State.attemptOver
  generalize ((u.dropRecord l).modLeg l (fun x => { x with limitTimer := none })).cancelFaces ((u.dropRecord l).groupFaces l) = v
  cases c <;> rfl

theorem failAttempt_face (c : AttemptEnd) (faulty : PosSet) (k : ErrorKind) (f : FaceId) (d : Option Nat) :
    u.failAttempt l c faulty (some (k, some f, d)) =
      ((((u.excluding l faulty).attemptParked l).reportMid (((u.excluding l faulty).attemptParked l).faceReport k f d)).attemptOver
        l).afterFailure l c := by
  rw [← countFailure_eq]
  rfl

theorem failAttempt_leg (c : AttemptEnd) (faulty : PosSet) (k : ErrorKind) (d : Option Nat) :
    u.failAttempt l c faulty (some (k, none, d)) =
      ((((u.excluding l faulty).attemptParked l).reportMid (((u.excluding l faulty).attemptParked l).legReport k l d)).attemptOver
        l).afterFailure l c := by
  rw [← countFailure_eq]
  rfl

theorem failAttempt_none (c : AttemptEnd) (faulty : PosSet) :
    u.failAttempt l c faulty none = (((u.excluding l faulty).attemptParked l).attemptOver l).afterFailure l c := by
  rw [← countFailure_eq]
  rfl

theorem attemptOver_eq (u : State) (l : LegId) : u.attemptOver l = { u with
    legs := modAt u.legs l Leg.lost, faces := u.idleFaces l
    engine := (allFaces.filter (u.onGroup l)).foldl Engine.cancel u.engine
    notices := (u.cancelNotices (u.onGroup l)).foldl NoticeQueue.take u.notices
    resultOwed := owedAfter u.resultOwed (u.cancelHanded (u.onGroup l)) } := by
  have dropped : (u.dropRecord l).modLeg l (fun x => { x with limitTimer := none }) = { u with
      legs := modAt u.legs l (fun x => { x with record := none, limitTimer := none }), faces := u.idleFaces l } := by
    rw [dropRecord_eq]
    exact congrArg (fun legs => ({ u with legs := legs, faces := u.idleFaces l } : State))
      (modAt_modAt u.legs l (fun x => { x with record := none }) (fun x => { x with limitTimer := none }))
  have group (f : FaceId) : (u.dropRecord l).onGroup l f = u.onGroup l f := by
    have own : (u.dropRecord l).leg l = { u.leg l with record := none } := by
      rw [dropRecord_eq]
      exact modAt_same _ _ _
    have place : (u.dropRecord l).place (facePath f) = u.place (facePath f) := by
      rw [dropRecord_eq]
      rfl
    unfold State.onGroup State.onPositions
    rw [own, place]
  have faces : (u.dropRecord l).groupFaces l = allFaces.filter (u.onGroup l) := by
    rw [groupFaces_eq, funext group]
  unfold State.attemptOver
  rw [dropped, faces, cancelFaces_filter]
  exact congrArg (fun legs => ({ u with
    legs := legs, faces := u.idleFaces l
    engine := (allFaces.filter (u.onGroup l)).foldl Engine.cancel u.engine
    notices := (u.cancelNotices (u.onGroup l)).foldl NoticeQueue.take u.notices
    resultOwed := owedAfter u.resultOwed (u.cancelHanded (u.onGroup l)) } : State))
    (modAt_modAt u.legs l (fun x => { x with record := none, limitTimer := none })
      (fun x => { x with attemptCount := x.attemptCount + 1 }))

end

end Sys2Proof.Machine

/-! The paths, faces, monitors and jobs of an attempt that has failed (spec/03 R61). -/

namespace Sys2Proof.Machine

/-! ### Engines that differ by a suspended job's steps -/

section
variable {x y : Engine} (same : x.sameBut y)
include same

theorem handed_sameBut (f : FaceId) : y.handed f = x.handed f := by
  have job := same.job
  unfold Engine.handed
  rw [job, same.rest]

theorem cancel_sameBut (f : FaceId) : (x.cancel f).sameBut (y.cancel f) := by
  have job := same.job
  have rest := same.rest
  refine ⟨?_, ?_⟩
  · unfold Engine.cancel
    rw [rest]
  · unfold Engine.cancel
    dsimp only
    cases first : x.suspended with
    | none =>
      rw [first, Option.map_none, Option.map_eq_none_iff] at job
      rw [job]
    | some a =>
      rw [first, Option.map_some] at job
      obtain ⟨b, second, own⟩ := Option.map_eq_some_iff.mp job
      rw [second, Option.filter_some, Option.filter_some, own]
      split
      · simp only [Option.map_some, own]
      · rfl

theorem cancels_sameBut (fs : List FaceId) : (fs.foldl Engine.cancel x).sameBut (fs.foldl Engine.cancel y) := by
  induction fs generalizing x y with
  | nil => exact same
  | cons f fs ih => exact ih (cancel_sameBut same f)

end

/-! ### The group that parks -/

section
variable {s u v : State} {l : LegId} {faulty : PosSet}

theorem leg_excluding : (u.excluding l faulty).leg l = { u.leg l with excluded := (u.leg l).excluded ||| faulty } :=
  State.leg_modLeg u l _

/-- The words and the results owed of an attempt that ends. -/
def State.attemptEnded (u : State) (l : LegId) : State :=
  { u with sent := u.sent ++ u.aborts l .giveUp, resultOwed := u.owes l }

theorem attemptParked_eq (record : (u.leg l).record.isSome = true) :
    u.attemptParked l = (u.attemptEnded l).setPaths (u.groupPaths l) .parked := by
  unfold State.attemptParked
  rw [sendAborts_eq u l .giveUp record, oweResults_eq]
  rfl

/-- What the paths, faces and monitors of a state are once the group of leg `l` in `s` is PARKED. -/
structure State.groupParked (s u v : State) (l : LegId) : Prop where
  place : ∀ p : PathId, v.place p = s.place p
  path : ∀ p : PathId, v.path p = if p ∈ s.groupPaths l then .parked else s.path p
  face : ∀ f : FaceId, v.face f =
    if facePath f ∈ s.groupPaths l ∧ s.path (facePath f) ≠ .parked then (s.face f).settled else s.face f
  monitor : ∀ f : FaceId, v.monitor f =
    if facePath f ∈ s.groupPaths l ∧ s.path (facePath f) ≠ .parked then (u.monitor f).stop else u.monitor f
  engine : s.engine.sameBut v.engine

/-- The group is as it was in `s`. -/
theorem State.failsFrom.group (h : s.failsFrom u l) : (u.excluding l faulty).groupPaths l = s.groupPaths l := by
  have place : ∀ p : PathId, (u.excluding l faulty).place p = s.place p := by
    intro p
    rw [h.rest]
    rfl
  have leg : ((u.excluding l faulty).leg l).group = (s.leg l).group := by
    rw [leg_excluding, h.leg]
  unfold State.groupPaths
  rw [leg, pathsAt_eq, pathsAt_eq]
  refine List.filter_congr fun p _ => ?_
  unfold State.pathOn
  rw [place]

theorem State.failsFrom.onGroup (h : s.failsFrom u l) (f : FaceId) : (u.excluding l faulty).onGroup l f = s.onGroup l f := by
  have group := h.group (faulty := faulty)
  rw [Bool.eq_iff_iff]
  unfold State.onGroup
  rw [← mem_pathsAt_facePath, ← mem_pathsAt_facePath]
  exact Iff.of_eq (congrArg (facePath f ∈ ·) group)

theorem State.failsFrom.aborts (h : s.failsFrom u l) : (u.excluding l faulty).aborts l .giveUp = s.aborts l .giveUp := by
  have record : ((u.excluding l faulty).leg l).record.isSome = true := by
    rw [leg_excluding]
    exact h.record
  have face (f : FaceId) : (u.excluding l faulty).face f = s.face f := by
    rw [h.rest]
    rfl
  unfold State.aborts
  rw [if_pos record, if_pos h.began]
  refine congrArg (List.map _) (List.filter_congr fun f _ => ?_)
  rw [h.onGroup, face]

theorem State.failsFrom.owes (h : s.failsFrom u l) (f : FaceId) :
    setHas ((u.excluding l faulty).owes l) f.val = (setHas s.resultOwed f.val || u.outstanding l f) := by
  have group : u.onGroup l f = s.onGroup l f := by
    have plain := h.onGroup (faulty := 0#4) f
    have same : (u.excluding l 0#4).onGroup l f = u.onGroup l f := by
      unfold State.onGroup
      rw [leg_excluding]
      rfl
    rw [← same, plain]
  have owed : (u.excluding l faulty).resultOwed = s.resultOwed := by
    rw [h.rest]
    rfl
  rw [setHas_owes, owed]
  unfold State.outstanding
  rw [h.onGroup, group, leg_excluding]

/-- The group is PARKED, and the reports that follow change nothing of it. -/
theorem groupParked_of (h : s.failsFrom u l) (work : ((u.excluding l faulty).attemptParked l).reportWork v) : s.groupParked u v l := by
  have record : ((u.excluding l faulty).leg l).record.isSome = true := by
    rw [leg_excluding]
    exact h.record
  rw [attemptParked_eq record, h.group] at work
  have place (p : PathId) : ((u.excluding l faulty).attemptEnded l).place p = s.place p := by
    rw [h.rest]
    rfl
  have path (p : PathId) : ((u.excluding l faulty).attemptEnded l).path p = s.path p := by
    rw [h.rest]
    rfl
  have face (f : FaceId) : ((u.excluding l faulty).attemptEnded l).face f = s.face f := by
    rw [h.rest]
    rfl
  have monitor (f : FaceId) : ((u.excluding l faulty).attemptEnded l).monitor f = u.monitor f := rfl
  have engine : ((u.excluding l faulty).attemptEnded l).engine = s.engine := by
    rw [h.rest]
    rfl
  generalize (u.excluding l faulty).attemptEnded l = x at *
  have paths (p : PathId) := path_setPaths x (s.groupPaths l) .parked p
  have faces (f : FaceId) := face_setPaths .parked f (s.groupPaths l) x
  have monitors (f : FaceId) := monitor_setPaths .parked f (s.groupPaths l) x
  have engines := engine_setPaths .parked (s.groupPaths l) x
  have foot := setPaths_footprint x (s.groupPaths l) .parked
  generalize x.setPaths (s.groupPaths l) .parked = y at *
  unfold State.reportWork at work
  rw [engine] at engines
  have watched : watchedState .parked = false := rfl
  have rests : isQuietState .parked = true := rfl
  simp only [path, face, monitor, watched, rests, and_true] at paths faces monitors
  rw [work]
  refine ⟨fun p => ?_, paths, faces, monitors, engines⟩
  rw [← place]
  show y.place p = _
  rw [foot]
  rfl

/-- What the rest of the state is then. -/
theorem parked_fields (h : s.failsFrom u l) (work : ((u.excluding l faulty).attemptParked l).reportWork v) :
    v.leg l = { u.leg l with excluded := (u.leg l).excluded ||| faulty } ∧ (∀ k : LegId, k ≠ l → v.leg k = s.leg k)
    ∧ v.sent = u.sent ++ s.aborts l .giveUp ∧ v.resultOwed = (u.excluding l faulty).owes l ∧ v.slots = s.slots
    ∧ v.clock = s.clock := by
  have record : ((u.excluding l faulty).leg l).record.isSome = true := by
    rw [leg_excluding]
    exact h.record
  rw [attemptParked_eq record, setPaths_footprint] at work
  unfold State.reportWork at work
  have rest := h.rest
  refine ⟨?_, fun k away => ?_, ?_, ?_, ?_, ?_⟩
  · rw [work]
    exact leg_excluding
  · rw [work]
    exact (State.leg_modLeg_other u l k _ away).trans (h.legs k away)
  · rw [work, ← h.aborts (faulty := faulty)]
    rfl
  · rw [work]
    rfl
  · rw [work]
    show u.slots = _
    rw [rest]
  · rw [work]
    show u.clock = _
    rw [rest]

end

end Sys2Proof.Machine

/-! A failed attempt, and the leg controller's next step from it (spec/02 R30, R33, R34). -/

namespace Sys2Proof.Machine

section
variable {s u v : State} {l : LegId} {faulty : PosSet}

theorem mem_groupPaths_face (s : State) (l : LegId) (f : FaceId) : facePath f ∈ s.groupPaths l ↔ s.onGroup l f = true :=
  mem_pathsAt_facePath s l _ f

/-- The faces once the attempt is over: those of the group are IDLE. -/
theorem face_attemptOver (f : FaceId) : (v.attemptOver l).face f =
    if v.onGroup l f = true then { v.face f with status := .idle } else v.face f := by
  rw [attemptOver_eq]
  exact face_idleFaces v l f

/-- The paths, faces and monitors, and what bears on them, once the attempt is over. -/
structure State.groupOver (s u w : State) (l : LegId) : Prop where
  place : ∀ p : PathId, w.place p = s.place p
  path : ∀ p : PathId, w.path p = if p ∈ s.groupPaths l then .parked else s.path p
  face : ∀ f : FaceId, (if s.onGroup l f = true ∧ s.path (facePath f) ≠ .parked then (s.face f).settled else s.face f).sameSet (w.face f)
  monitor : ∀ f : FaceId, w.monitor f =
    if s.onGroup l f = true ∧ s.path (facePath f) ≠ .parked then (u.monitor f).stop else u.monitor f
  idle : ∀ f : FaceId, s.onGroup l f = true → (w.face f).status = .idle
  quiet : ∀ f : FaceId, s.path (facePath f) ≠ .training → u.monitor f = s.monitor f

theorem groupOver_of (h : s.failsFrom u l) (parked : s.groupParked u v l) (group : ∀ f : FaceId, v.onGroup l f = s.onGroup l f) :
    s.groupOver u (v.attemptOver l) l := by
  have face (f : FaceId) := face_attemptOver (v := v) (l := l) f
  have fields : (∀ p : PathId, (v.attemptOver l).place p = v.place p) ∧ (∀ p : PathId, (v.attemptOver l).path p = v.path p)
      ∧ ∀ f : FaceId, (v.attemptOver l).monitor f = v.monitor f := by
    rw [attemptOver_eq]
    exact ⟨fun _ => rfl, fun _ => rfl, fun _ => rfl⟩
  obtain ⟨place, path, monitor⟩ := fields
  simp only [group] at face
  generalize v.attemptOver l = w at *
  refine ⟨fun p => (place p).trans (parked.place p), fun p => (path p).trans (parked.path p), fun f => ?_, fun f => ?_, fun f on => ?_,
    h.monitor⟩
  · have own := parked.face f
    simp only [mem_groupPaths_face] at own
    rw [← own, face]
    split
    · exact Face.sameSet_status _ _
    · exact Face.sameSet_refl _
  · have own := parked.monitor f
    simp only [mem_groupPaths_face] at own
    exact (monitor f).trans own
  · rw [face, if_pos on]

/-- A settle point makes the same of a face before and after. -/
theorem State.groupOver.settled {w : State} (over_ : s.groupOver u w l) (f : FaceId) : (s.face f).settled.sameSet (w.face f).settled := by
  have same := Face.sameSet_settled (over_.face f)
  split at same
  · rw [Face.settled_settled] at same
    exact same
  · exact same

theorem State.groupOver.like {w : State} (over_ : s.groupOver u w l) (slip : (w.leg l).slipLimit = (s.leg l).slipLimit)
    (training : (w.leg l).trainingLimit = (s.leg l).trainingLimit) (target : (w.leg l).targetRate = (s.leg l).targetRate) :
    s.attemptLike w l where
  place := over_.place
  slip := slip
  training := training
  target := target
  settled f _ := over_.settled f
  enters p _ away there := by
    rw [over_.path] at there
    split at there
    · cases there
    · exact absurd there away
  stays p q place own benched free := by
    have out : p ∉ s.groupPaths l := by
      rw [mem_groupPaths_iff]
      rintro ⟨x, ⟨place', inside⟩, -⟩
      obtain rfl : q = x := Option.some.inj (place.symm.trans place')
      rw [own, free] at inside
      exact Bool.noConfusion inside
    refine ⟨by rw [over_.path, if_neg out]; exact benched, fun g mine => ?_⟩
    have off : ¬(s.onGroup l g = true ∧ s.path (facePath g) ≠ .parked) := fun h => out (mine ▸ (mem_groupPaths_face s l g).mpr h.1)
    have face := over_.face g
    rw [if_neg off] at face
    refine ⟨?_, face⟩
    rw [over_.monitor, if_neg off]
    exact over_.quiet g (by rw [mine, benched]; decide)

theorem State.groupOver.park {w : State} (over_ : s.groupOver u w l) : s.parkLike w l where
  place := over_.place
  settled f _ := over_.settled f
  enters p _ away there := by
    intro g own
    have inside : p ∈ s.groupPaths l := by
      by_contra out
      rw [over_.path, if_neg out] at there
      exact away there
    have on : s.onGroup l g = true ∧ s.path (facePath g) ≠ .parked := by
      rw [← own] at inside away
      exact ⟨(mem_groupPaths_face s l g).mp inside, away⟩
    have face := over_.face g
    rw [if_pos on] at face
    rw [over_.monitor, if_pos on]
    exact ⟨rfl, rfl, rfl, face⟩
  stays p _ there := by
    have path : (if p ∈ s.groupPaths l then PathState.parked else s.path p) = .parked := by
      split
      · rfl
      · exact there
    refine ⟨(over_.path p).trans path, fun g own => ?_⟩
    have off : ¬(s.onGroup l g = true ∧ s.path (facePath g) ≠ .parked) := fun h => h.2 (by rw [own]; exact there)
    have face := over_.face g
    rw [if_neg off] at face
    refine ⟨?_, face⟩
    rw [over_.monitor, if_neg off]
    exact over_.quiet g (by rw [own, there]; decide)

/-- An attempt that fails from `u` is lost, whatever of its reports has been taken or waits. -/
theorem attemptLost_of (h : s.failsFrom u l) (work : ((u.excluding l faulty).attemptParked l).reportWork v) :
    s.attemptLost (v.attemptOver l) l ((s.leg l).excluded ||| faulty) (u.sent ++ s.aborts l .giveUp) := by
  have parked := groupParked_of h work
  obtain ⟨leg, legs, sent, -, slots, clock⟩ := parked_fields h work
  have group (f : FaceId) : v.onGroup l f = s.onGroup l f := by
    have own : (v.leg l).group = (s.leg l).group := by rw [leg, h.leg]
    unfold State.onGroup State.onPositions
    rw [parked.place, own]
  have over_ := groupOver_of h parked group
  have engine : (v.attemptOver l).engine = (allFaces.filter (s.onGroup l)).foldl Engine.cancel v.engine := by
    rw [attemptOver_eq, funext group]
  have fields : (v.attemptOver l).leg l = (v.leg l).lost ∧ (∀ k : LegId, k ≠ l → (v.attemptOver l).leg k = v.leg k)
      ∧ (v.attemptOver l).sent = v.sent ∧ (v.attemptOver l).slots = v.slots ∧ (v.attemptOver l).clock = v.clock := by
    rw [attemptOver_eq]
    exact ⟨modAt_same _ _ _, fun k away => modAt_other _ _ _ _ away, rfl, rfl, rfl⟩
  obtain ⟨own, others, sent', slots', clock'⟩ := fields
  generalize v.attemptOver l = w at *
  have context : w.leg l = Leg.lost { s.leg l with agreedRate := (w.leg l).agreedRate, excluded := (s.leg l).excluded ||| faulty } := by
    rw [own, leg, h.leg]
    rfl
  refine {
    like := over_.like ?_ ?_ ?_
    park := over_.park
    leg := context
    legs := fun k away => (others k away).trans (legs k away)
    sent := sent'.trans sent
    idle := over_.idle
    engine := ?_
    slots := slots'.trans slots
    clock := clock'.trans clock }
  · rw [context]
    rfl
  · rw [context]
    rfl
  · rw [context]
    rfl
  · rw [engine]
    exact cancels_sameBut parked.engine _

/-- The result-owed flags once the attempt is over. -/
theorem owed_attemptOver (h : s.failsFrom u l) (work : ((u.excluding l faulty).attemptParked l).reportWork v) (f : FaceId) :
    setHas (v.attemptOver l).resultOwed f.val = ((setHas s.resultOwed f.val || u.outstanding l f)
      && !(s.cancelHanded (s.onGroup l)).any (fun j => j.kind == .sweep && j.requester == .leg && j.face == f)) := by
  have parked := groupParked_of h work
  obtain ⟨leg, -, -, owed, -, -⟩ := parked_fields h work
  have group (g : FaceId) : v.onGroup l g = s.onGroup l g := by
    have own : (v.leg l).group = (s.leg l).group := by rw [leg, h.leg]
    unfold State.onGroup State.onPositions
    rw [parked.place, own]
  have handed : v.cancelHanded (v.onGroup l) = s.cancelHanded (s.onGroup l) := by
    rw [funext group, cancelHanded_eq, cancelHanded_eq]
    exact List.flatMap_congr fun g _ => handed_sameBut parked.engine g
  rw [attemptOver_eq]
  dsimp only
  rw [setHas_owedAfter, owed, h.owes, handed]

end

end Sys2Proof.Machine

/-! What follows a failed attempt, as the statements speak of it (spec/02 R33, R34). -/

namespace Sys2Proof.Machine

/-! ### What a step still does after the leg controller has gone on -/

/-- What leg `l` has come to is the same in `t` as in `x`, whatever else has happened. -/
structure State.legStays (x t : State) (l : LegId) : Prop where
  legs : t.legs = x.legs
  sent : t.sent = x.sent
  paths : t.paths = x.paths
  monitors : t.monitors = x.monitors
  face : ∀ f : FaceId, x.faceLeg f = some l → t.face f = x.face f

section
variable {s x t w : State} {l : LegId} {ex : PosSet} {sent : List SentWord}

theorem legStays_of_reportWork (h : x.reportWork t) : x.legStays t l := by
  unfold State.reportWork at h
  rw [h]
  exact ⟨rfl, rfl, rfl, rfl, fun _ _ => rfl⟩

theorem legStays_of_notices {ns : NoticeQueue} (h : ({ x with notices := ns } : State).legStays t l) : x.legStays t l :=
  ⟨h.legs, h.sent, h.paths, h.monitors, h.face⟩

theorem legStays_of_told {y : State} {rs : List Report} (told : y = x.told rs) (h : y.legStays t l) : x.legStays t l := by
  rw [told, told_footprint] at h
  exact ⟨h.legs, h.sent, h.paths, h.monitors, h.face⟩

theorem attemptBegun_of_legStays {wd : Nat} {g : PosSet} {before : List SentWord} (begun : s.attemptBegun x l wd g before)
    (stays : x.legStays t l) (place : ∀ p : PathId, x.place p = s.place p) : s.attemptBegun t l wd g before := by
  have leg : t.leg l = x.leg l := by unfold State.leg; rw [stays.legs]
  have path (p : PathId) : t.path p = x.path p := by unfold State.path; rw [stays.paths]
  have monitor (f : FaceId) : t.monitor f = x.monitor f := by unfold State.monitor; rw [stays.monitors]
  obtain ⟨state, width, group, rate, hold, trim, limit, record, words, paths⟩ := begun
  unfold State.attemptBegun
  rw [leg, stays.sent]
  refine ⟨state, width, group, rate, hold, trim, limit, record, words, fun p q own mine => ?_⟩
  have face (f : FaceId) (hf : facePath f = p) : t.face f = x.face f := by
    refine stays.face f ?_
    unfold State.faceLeg State.pathLeg
    rw [hf, place, own, ← mine]
    rfl
  have here := paths p q own mine
  rw [path, monitor, monitor, face _ (facePath_cFace p), face _ (facePath_sFace p)]
  split at here
  · rename_i inside
    rw [if_pos inside]
    obtain ⟨there, c, sf, ms, mc, faces⟩ := here
    exact ⟨there, c, sf, ms, mc, fun f hf => by rw [face f hf]; exact faces f hf⟩
  · rename_i outside
    rw [if_neg outside]
    obtain ⟨there, rests, kept⟩ := here
    refine ⟨there, fun away f hf => ?_, fun benched free f hf => ?_⟩
    · rw [monitor, face f hf]
      exact rests away f hf
    · rw [monitor, face f hf]
      exact kept benched free f hf

theorem legParked_of_legStays (parked : s.legParked x l) (stays : x.legStays t l) (place : ∀ p : PathId, x.place p = s.place p) :
    s.legParked t l := by
  have path (p : PathId) : t.path p = x.path p := by unfold State.path; rw [stays.paths]
  have monitor (f : FaceId) : t.monitor f = x.monitor f := by unfold State.monitor; rw [stays.monitors]
  intro p own
  have face (f : FaceId) (hf : facePath f = p) : t.face f = x.face f := by
    refine stays.face f ?_
    unfold State.faceLeg State.pathLeg
    rw [hf, place]
    exact own
  obtain ⟨there, rest⟩ := parked p own
  rw [path]
  refine ⟨there, ?_⟩
  split at rest
  · rename_i before
    rw [if_pos before]
    intro f hf
    rw [monitor, face f hf]
    exact rest f hf
  · rename_i before
    rw [if_neg before]
    intro f hf
    rw [monitor, face f hf]
    exact rest f hf

/-! ### The next attempt -/

theorem onPositions_of_place (place : ∀ p : PathId, w.place p = s.place p) (g : PosSet) (f : FaceId) :
    w.onPositions l g f = s.onPositions l g f := by
  unfold State.onPositions
  rw [place]

theorem place_beginAttempt (u : State) (wd : Nat) (g : PosSet) (p : PathId) : (u.beginAttempt l wd g).place p = u.place p := by
  have work := legWork_beginAttempt u l wd g
  rw [work]
  rfl

theorem engine_beginAttempt (u : State) (wd : Nat) (g : PosSet) : u.engine.sameBut (u.beginAttempt l wd g).engine := by
  have fold {α : Type} {step : State → α → State} (each : ∀ (s : State) (a : α), s.engine.sameBut (step s a).engine) (as : List α)
      (s : State) : s.engine.sameBut (as.foldl step s).engine :=
    foldl_rel (R := fun a b => a.engine.sameBut b.engine) (fun _ => Engine.sameBut_refl _)
      (fun _ _ _ h1 h2 => Engine.sameBut_trans h1 h2) each as s
  have plain {s t : State} (same : t.engine = s.engine) : s.engine.sameBut t.engine := by
    rw [same]
    exact Engine.sameBut_refl _
  have leg : (u.attemptLeg l wd g).engine = u.engine := by rw [attemptLeg_footprint]
  have moved : u.engine.sameBut (u.attemptMoved l wd g).engine := by
    unfold State.attemptMoved
    exact Engine.sameBut_trans (plain leg) (Engine.sameBut_trans (engine_setPaths _ _ _) (engine_setPaths _ _ _))
  have settled : (u.attemptMoved l wd g).engine.sameBut (u.attemptSettled l wd g).engine := by
    unfold State.attemptSettled
    exact Engine.sameBut_trans (Engine.sameBut_trans
      (fold (step := fun t p => t.startMonitors p (u.leg l).slipLimit) (fun _ _ => Engine.sameBut_refl _) _ _)
      (fold (step := fun s f => s.settleFace f) engine_settleFace _ _))
      (fold (step := fun s f => s.setStatus f .idle) (fun _ _ => Engine.sameBut_refl _) _ _)
  rw [beginAttempt_eq]
  refine Engine.sameBut_trans moved (Engine.sameBut_trans settled ?_)
  unfold State.announceFaces
  exact Engine.sameBut_trans (fold (step := fun s f => s.setStatus f .announced) (fun _ _ => Engine.sameBut_refl _) _ _)
    (fold (step := fun s f => s.sendAnnounce l f) (fun _ _ => Engine.sameBut_refl _) _ _)

/-- The next attempt of the series, from an attempt that is lost. -/
theorem retried_of_lost (lost : s.attemptLost w l ex sent) (words : sent = s.sent ++ s.aborts l .giveUp) {wd : Nat} {g : PosSet}
    (stays : (w.beginAttempt l wd g).legStays t l) : s.retried t l ex wd g ∧ ∀ k : LegId, k ≠ l → t.leg k = s.leg k := by
  have leg (k : LegId) := leg_beginAttempt w l wd g k
  have face (f : FaceId) := face_beginAttempt w l wd g f
  have place (p : PathId) : (w.beginAttempt l wd g).place p = s.place p := (place_beginAttempt w wd g p).trans (lost.like.place p)
  have begun := attemptBegun_of_legStays (attemptBegun_beginAttempt lost.like wd g) stays place
  rw [lost.sent, words] at begun
  have legs (k : LegId) : t.leg k = (w.beginAttempt l wd g).leg k := by unfold State.leg; rw [stays.legs]
  have own : t.leg l = (w.leg l).attempting wd g := by rw [legs, leg, if_pos rfl]
  rw [lost.leg] at own
  refine ⟨⟨begun, by rw [own]; rfl, by rw [own]; rfl, by rw [own]; rfl, fun f on off => ?_⟩, fun k away => ?_⟩
  · have mine : (w.beginAttempt l wd g).faceLeg f = some l := by
      have here := faceLeg_of_onGroup on
      unfold State.faceLeg State.pathLeg at here ⊢
      rw [place]
      exact here
    have positions := mem_pathsAt_facePath w l g f
    rw [onPositions_of_place lost.like.place] at positions
    rw [stays.face f mine, face]
    split
    · rename_i inside
      rw [positions.mp inside, Bool.true_and] at off
      rw [off]
      rfl
    · split
      · rw [status_settled]
        exact lost.idle f on
      · exact lost.idle f on
  · rw [legs, leg, if_neg away]
    exact lost.legs k away

/-! ### FAILED -/

theorem errorAtLeg_lost (lost : s.attemptLost w l ex sent) (c : FailCause) :
    w.errorAtLeg l .legFailed .failed (w.leg l).attemptCount (some (failCauseCode c)) =
      s.errorAtLeg l .legFailed .failed ((s.leg l).attemptCount + 1) (some (failCauseCode c)) := by
  unfold State.errorAtLeg
  rw [lost.leg, lost.clock]
  rfl

/-- FAILED, from an attempt that is lost. -/
theorem gaveUp_of_lost {before : List SentWord} {base : State} {c : FailCause} (lost : s.attemptLost w l ex sent)
    (words : sent = before ++ s.aborts l .giveUp) (stays : (w.failedAs l c).legStays t l)
    (reports : t.reportsOf (base.told [s.errorAtLeg l .legFailed .failed ((s.leg l).attemptCount + 1) (some (failCauseCode c))])) :
    s.gaveUp t l ex c base before := by
  have own := leg_failedAs (u := w) (l := l) c
  have others (k : LegId) (away : k ≠ l) := leg_failedAs_other (u := w) (l := l) c away
  have legs (k : LegId) : t.leg k = (w.failedAs l c).leg k := by unfold State.leg; rw [stays.legs]
  have work : w.legWork (w.failedAs l c) := legWork_parkedAs _ _
  have sentAs : (w.failedAs l c).sent = w.sent := sent_parkedAs _ _
  have place (p : PathId) : (w.failedAs l c).place p = s.place p := by
    rw [← lost.like.place, work]
    rfl
  have after : (w.parkLeg l).restLike (w.failedAs l c) := restLike_trans (restLike_modLeg _ l _) (restLike_setLegState .failed)
  have parked := legParked_of_legStays (legParked_of_parkLike lost.park after) stays place
  rw [lost.leg] at own
  have leg := (legs l).trans own
  refine ⟨?_, ?_, ?_, ?_, ?_, ?_, ?_, ?_, ?_, parked, ?_, fun f on => ?_, ?_, fun k away => ?_⟩
  · rw [leg]
  · rw [leg]
    rfl
  · rw [leg]
    rfl
  · rw [leg]
    rfl
  · rw [leg]
    rfl
  · rw [leg]
    rfl
  · rw [leg]
    rfl
  · rw [leg]
    rfl
  · rw [leg]
    rfl
  · rw [stays.sent, sentAs, lost.sent, words]
  · have mine : (w.failedAs l c).faceLeg f = some l := by
      have here := faceLeg_of_onGroup on
      unfold State.faceLeg State.pathLeg at here ⊢
      rw [place]
      exact here
    have same : (w.failedAs l c).face f = (w.parkLeg l).face f := by
      have foot := parkedAs_footprint (u := w) (l := l) (fun x => x.failing c) .failed
      unfold State.failedAs State.face
      rw [foot]
    rw [stays.face f mine, same, face_parkLeg]
    split
    · rw [status_settled]
      exact lost.idle f on
    · exact lost.idle f on
  · cases c <;> exact reports
  · rw [legs, others k away]
    exact lost.legs k away

end

end Sys2Proof.Machine

/-! Failures of an attempt whose error the leg controller reports itself (spec/03 R51 to R53, R61, R64). -/

namespace Sys2Proof.Machine

section
variable {s u w : State} {l : LegId} {ex : PosSet} {sent : List SentWord} {c : AttemptEnd} {base : State} {i : Instr}
  {more : State → Prop}

/-! ### The leg controller's next step -/

theorem afterFailure_retries (kind : c ≠ .rate) (room : (w.leg l).attemptCount ≠ (w.leg l).retryBudget) :
    w.afterFailure l c = w.startAttempt l := by
  cases c with
  | rate => exact absurd rfl kind
  | lane | partner | timeout => exact if_neg room

theorem afterFailure_spent (kind : c ≠ .rate) (spent : (w.leg l).attemptCount = (w.leg l).retryBudget) :
    w.afterFailure l c = w.enterFailed l .budget := by
  cases c with
  | rate => exact absurd rfl kind
  | lane | partner | timeout => exact if_pos spent

theorem startAttempt_some {wd : Nat} {g : PosSet}
    (chosen : selectWidth (w.leg l).configuredWidth (w.leg l).minimumWidth (w.leg l).excluded = some (wd, g)) :
    w.startAttempt l = w.beginAttempt l wd g := by
  unfold State.startAttempt
  dsimp only
  rw [chosen]

theorem startAttempt_unfit
    (unfit : selectWidth (w.leg l).configuredWidth (w.leg l).minimumWidth (w.leg l).excluded = none) :
    w.startAttempt l = w.enterFailed l .width := by
  unfold State.startAttempt
  dsimp only
  rw [unfit]

/-- A step that fails an attempt: what comes of it, from what the rest of the step makes of the leg controller's next one. -/
theorem failsAttempt_of {K : State → State} (lost : s.attemptLost w l ex (s.sent ++ s.aborts l .giveUp)) (kind : c ≠ .rate)
    (step : exec i s = .next (K (w.afterFailure l c)))
    (begins : ∀ (wd : Nat) (g : PosSet), (w.beginAttempt l wd g).legStays (K (w.beginAttempt l wd g)) l
      ∧ (K (w.beginAttempt l wd g)).reportsOf base ∧ more (K (w.beginAttempt l wd g)))
    (fails : ∀ c : FailCause, (w.failedAs l c).legStays (K (w.enterFailed l c)) l
      ∧ (K (w.enterFailed l c)).reportsOf
          (base.told [s.errorAtLeg l .legFailed .failed ((s.leg l).attemptCount + 1) (some (failCauseCode c))])
      ∧ more (K (w.enterFailed l c))) : s.failsAttempt i l ex base more := by
  have fields : (w.leg l).attemptCount = (s.leg l).attemptCount + 1 ∧ (w.leg l).retryBudget = (s.leg l).retryBudget
      ∧ (w.leg l).configuredWidth = (s.leg l).configuredWidth ∧ (w.leg l).minimumWidth = (s.leg l).minimumWidth
      ∧ (w.leg l).excluded = ex := by
    rw [lost.leg]
    exact ⟨rfl, rfl, rfl, rfl, rfl⟩
  obtain ⟨count, budget, configured, minimum, excluded⟩ := fields
  refine ⟨fun room => ⟨fun wd g chosen => ?_, fun unfit => ?_⟩, fun spent => ?_⟩
  · rw [afterFailure_retries kind (by rw [count, budget]; exact room),
      startAttempt_some (by rw [configured, minimum, excluded]; exact chosen)] at step
    obtain ⟨stays, reports, rest⟩ := begins wd g
    obtain ⟨retried, legs⟩ := retried_of_lost lost rfl stays
    exact ⟨_, step, retried, reports, rest, legs⟩
  · rw [afterFailure_retries kind (by rw [count, budget]; exact room),
      startAttempt_unfit (by rw [configured, minimum, excluded]; exact unfit)] at step
    obtain ⟨stays, reports, rest⟩ := fails .width
    exact ⟨_, step, gaveUp_of_lost lost rfl stays reports, rest⟩
  · rw [afterFailure_spent kind (by rw [count, budget]; exact spent)] at step
    obtain ⟨stays, reports, rest⟩ := fails .budget
    exact ⟨_, step, gaveUp_of_lost lost rfl stays reports, rest⟩

/-! ### A taking that leaves the table at rest -/

/-- What a leg controller's taking leaves, but for a notice of the leg's state, where the table stays at rest (R19). -/
theorem legEvent_atRest {e : Cause} {f : State → State} (rest : (f s).tableAtRest) :
    ∃ ns : NoticeQueue, s.legEvent l e f = { f s with notices := ns } := by
  by_cases same : ((f s).leg l).state = (s.leg l).state
  · have taken := legEvent_same (l := l) (e := e) rest same
    exact ⟨(f s).notices, taken⟩
  · have taken := legEvent_moved (l := l) (e := e) rest same
    exact ⟨_, taken⟩

/-- What the leg controller's next step leaves to the error unit, where the table is at rest. -/
theorem beginAttempt_fields (w : State) (l : LegId) (wd : Nat) (g : PosSet) :
    (w.beginAttempt l wd g).errors = w.errors ∧ (w.beginAttempt l wd g).inFlight = w.inFlight
    ∧ (w.beginAttempt l wd g).table = w.table ∧ (w.beginAttempt l wd g).resultOwed = w.resultOwed
    ∧ (w.beginAttempt l wd g).slots = w.slots := by
  have work := legWork_beginAttempt w l wd g
  rw [work]
  exact ⟨rfl, rfl, rfl, rfl, rfl⟩

theorem failedAs_fields (w : State) (l : LegId) (c : FailCause) :
    (w.failedAs l c).errors = w.errors ∧ (w.failedAs l c).inFlight = w.inFlight ∧ (w.failedAs l c).table = w.table
    ∧ (w.failedAs l c).resultOwed = w.resultOwed ∧ (w.failedAs l c).slots = w.slots ∧ (w.failedAs l c).clock = w.clock
    ∧ w.engine.sameBut (w.failedAs l c).engine := by
  have work : w.legWork (w.failedAs l c) := legWork_parkedAs _ _
  have engine : w.engine.sameBut (w.failedAs l c).engine := engine_parkedAs _ _
  refine ⟨?_, ?_, ?_, ?_, ?_, ?_, engine⟩ <;> rw [work]

/-- FAILED, where the table is at rest: the error unit takes LEG FAILED, or it waits. -/
theorem enterFailed_lost (lost : s.attemptLost w l ex sent) (rest : w.tableAtRest) (quiet : s.noSlotOn l .tallyThreshold)
    (c : FailCause) : w.enterFailed l c =
      (w.failedAs l c).told [s.errorAtLeg l .legFailed .failed ((s.leg l).attemptCount + 1) (some (failCauseCode c))] := by
  have told := enterFailed_told (u := w) (l := l) c rest (noSlotOn_of_slots lost.slots quiet)
  rwa [errorAtLeg_lost lost] at told

/-- What a taking makes of the leg controller's next step from `w`: the next attempt or FAILED, and a notice of the leg's state. -/
inductive State.nextOf (w : State) (l : LegId) : State → Prop where
  | begins (wd : Nat) (g : PosSet) (ns : NoticeQueue) : w.nextOf l { w.beginAttempt l wd g with notices := ns }
  | fails (c : FailCause) (ns : NoticeQueue) : w.nextOf l { w.enterFailed l c with notices := ns }

/-- A failure that is taken by the leg controller, and what the step does then. `more` is what is said of the jobs and the
results owed. -/
theorem failsAttempt_legEvent_then {e : Cause} {f post : State → State} (lost : s.attemptLost w l ex (s.sent ++ s.aborts l .giveUp))
    (kind : c ≠ .rate) (rest : w.tableAtRest) (quiet : s.noSlotOn l .tallyThreshold) (reports : w.reportsOf base)
    (clock : base.clock = s.clock) (step : exec i s = .next (post (s.legEvent l e f))) (taken : f s = w.afterFailure l c)
    (posts : ∀ y : State, w.nextOf l y → y.legStays (post y) l ∧ (post y).errors = y.errors ∧ (post y).inFlight = y.inFlight
      ∧ more (post y)) : s.failsAttempt i l ex base more := by
  have atRest : (f s).tableAtRest := by
    have begun (wd : Nat) (g : PosSet) : (w.beginAttempt l wd g).tableAtRest := by
      obtain ⟨-, -, table, -⟩ := beginAttempt_fields w l wd g
      exact table.trans rest
    have failed (c : FailCause) : (w.enterFailed l c).tableAtRest := by
      obtain ⟨-, -, table, -⟩ := failedAs_fields w l c
      rw [enterFailed_lost lost rest quiet, told_footprint]
      exact table.trans rest
    rw [taken]
    unfold State.afterFailure State.startAttempt
    cases c with
    | rate => exact failed _
    | lane | partner | timeout =>
      dsimp only
      split
      · exact failed _
      · split
        · exact begun _ _
        · exact failed _
  obtain ⟨ns, result⟩ := legEvent_atRest (l := l) (e := e) atRest
  rw [result, taken] at step
  refine failsAttempt_of (K := fun x => post { x with notices := ns }) lost kind step (fun wd g => ?_) fun c => ?_
  · obtain ⟨stays, errors', flight', rests⟩ := posts _ (.begins wd g ns)
    obtain ⟨errors, inFlight, -⟩ := beginAttempt_fields w l wd g
    exact ⟨legStays_of_notices stays, ⟨(errors'.trans errors).trans reports.1, (flight'.trans inFlight).trans reports.2⟩, rests⟩
  · obtain ⟨stays, errors', flight', rests⟩ := posts _ (.fails c ns)
    obtain ⟨errors, inFlight, -, -, -, clocks, -⟩ := failedAs_fields w l c
    have told := reportsOf_told (s := base) (u := w.failedAs l c)
      [s.errorAtLeg l .legFailed .failed ((s.leg l).attemptCount + 1) (some (failCauseCode c))] (errors.trans reports.1)
      ((clocks.trans lost.clock).trans clock.symm) (inFlight.trans reports.2)
    have fails := enterFailed_lost lost rest quiet c
    rw [← fails] at told
    exact ⟨legStays_of_told fails (legStays_of_notices stays), ⟨errors'.trans told.1, flight'.trans told.2⟩, rests⟩

/-- What the next step leaves of the engine and the results owed. -/
theorem nextOf_fields {y : State} (lost : s.attemptLost w l ex sent) (rest : w.tableAtRest) (quiet : s.noSlotOn l .tallyThreshold)
    (next : w.nextOf l y) : w.engine.sameBut y.engine ∧ y.resultOwed = w.resultOwed := by
  cases next with
  | begins wd g ns =>
    obtain ⟨-, -, -, owed, -⟩ := beginAttempt_fields w l wd g
    exact ⟨engine_beginAttempt w wd g, owed⟩
  | fails c ns =>
    obtain ⟨-, -, -, owed, -, -, engine⟩ := failedAs_fields w l c
    rw [enterFailed_lost lost rest quiet, told_footprint]
    exact ⟨engine, owed⟩

/-- A failure that is taken by the leg controller alone. -/
theorem failsAttempt_legEvent {e : Cause} {f : State → State} (lost : s.attemptLost w l ex (s.sent ++ s.aborts l .giveUp))
    (kind : c ≠ .rate) (rest : w.tableAtRest) (quiet : s.noSlotOn l .tallyThreshold) (reports : w.reportsOf base)
    (clock : base.clock = s.clock) (step : exec i s = .next (s.legEvent l e f)) (taken : f s = w.afterFailure l c)
    (rests : ∀ t : State, w.engine.sameBut t.engine → t.resultOwed = w.resultOwed → more t) : s.failsAttempt i l ex base more := by
  refine failsAttempt_legEvent_then (post := id) lost kind rest quiet reports clock step taken fun y next => ?_
  obtain ⟨engine, owed⟩ := nextOf_fields lost rest quiet next
  exact ⟨⟨rfl, rfl, rfl, rfl, fun _ _ => rfl⟩, rfl, rfl, rests y engine owed⟩

/-- A rate failure: the leg goes to FAILED whatever its budget (R53). -/
theorem gaveUp_rate {e : Cause} {f : State → State} {before : List SentWord} (lost : s.attemptLost w l ex (before ++ s.aborts l .giveUp))
    (rest : w.tableAtRest) (quiet : s.noSlotOn l .tallyThreshold) (reports : w.reportsOf base) (clock : base.clock = s.clock)
    (step : exec i s = .next (s.legEvent l e f)) (taken : f s = w.afterFailure l .rate)
    (rests : ∀ t : State, w.engine.sameBut t.engine → t.resultOwed = w.resultOwed → more t) :
    ∃ t, exec i s = .next t ∧ s.gaveUp t l ex .rate base before ∧ more t := by
  obtain ⟨errors, inFlight, table, owed, -, clocks, engine⟩ := failedAs_fields w l .rate
  have told := reportsOf_told (s := base) (u := w.failedAs l .rate)
    [s.errorAtLeg l .legFailed .failed ((s.leg l).attemptCount + 1) (some (failCauseCode .rate))] (errors.trans reports.1)
    ((clocks.trans lost.clock).trans clock.symm) (inFlight.trans reports.2)
  have fails := enterFailed_lost lost rest quiet .rate
  have failed : f s = (w.failedAs l .rate).told
      [s.errorAtLeg l .legFailed .failed ((s.leg l).attemptCount + 1) (some (failCauseCode .rate))] := taken.trans fails
  have atRest : (f s).tableAtRest := by
    rw [failed, told_footprint]
    exact table.trans rest
  obtain ⟨ns, result⟩ := legEvent_atRest (l := l) (e := e) atRest
  rw [result, failed] at step
  refine ⟨_, step, gaveUp_of_lost lost rfl ?_ told, rests _ ?_ ?_⟩
  · rw [told_footprint]
    exact ⟨rfl, rfl, rfl, rfl, fun _ _ => rfl⟩
  · rw [told_footprint]
    exact engine
  · rw [told_footprint]
    exact owed

/-! ### The error, and then the rest -/

/-- What the error unit has, and the table, while the group parks. -/
theorem attemptParked_fields (record : (u.leg l).record.isSome = true) : (u.attemptParked l).errors = u.errors
    ∧ (u.attemptParked l).inFlight = u.inFlight ∧ (u.attemptParked l).table = u.table ∧ (u.attemptParked l).slots = u.slots
    ∧ (u.attemptParked l).clock = u.clock ∧ (u.attemptParked l).legs = u.legs
    ∧ ∀ f : FaceId, (u.attemptParked l).faceLeg f = u.faceLeg f := by
  rw [attemptParked_eq record, setPaths_footprint]
  exact ⟨rfl, rfl, rfl, rfl, rfl, rfl, fun _ => rfl⟩

theorem attemptOver_fields (v : State) (l : LegId) : (v.attemptOver l).errors = v.errors ∧ (v.attemptOver l).inFlight = v.inFlight
    ∧ (v.attemptOver l).table = v.table := by
  rw [attemptOver_eq]
  exact ⟨rfl, rfl, rfl⟩

theorem reportWork_told (p : State) (rs : List Report) : p.reportWork (p.told rs) := by
  unfold State.reportWork
  rw [told_footprint]

theorem overTold_rest {p : State} (rest : p.tableAtRest) (rs : List Report) : ((p.told rs).attemptOver l).tableAtRest := by
  obtain ⟨-, -, same⟩ := attemptOver_fields (p.told rs) l
  unfold State.tableAtRest
  rw [same, told_footprint]
  exact rest

theorem overTold_reports {p : State} (rs : List Report) (errors : p.errors = s.errors) (clock : p.clock = s.clock)
    (inFlight : p.inFlight = s.inFlight) : ((p.told rs).attemptOver l).reportsOf (s.told rs) := by
  obtain ⟨errors', flight', -⟩ := attemptOver_fields (p.told rs) l
  obtain ⟨told, waits⟩ := reportsOf_told rs errors clock inFlight
  exact ⟨errors'.trans told, flight'.trans waits⟩

/-- The state from which a failing attempt goes on, once its report is made. -/
def State.attemptReported (u : State) (l : LegId) (faulty : PosSet) (r : Report) : State :=
  (((u.excluding l faulty).attemptParked l).reportMid r).attemptOver l

section
variable {faulty : PosSet} {r : Report} (h : s.failsFrom u l)
include h

theorem State.failsFrom.recorded : ((u.excluding l faulty).leg l).record.isSome = true := by
  rw [leg_excluding]
  exact h.record

theorem State.failsFrom.fields : u.errors = s.errors ∧ u.slots = s.slots ∧ u.clock = s.clock
    ∧ ∀ f : FaceId, u.faceLeg f = s.faceLeg f := by
  rw [h.rest]
  exact ⟨rfl, rfl, rfl, fun _ => rfl⟩

/-- The report of a failure, made once the group is PARKED: the error unit takes it, or it waits. -/
theorem reportMid_parked (rest : u.tableAtRest) (quiet : s.noSlotOn l .tallyThreshold) (leg : r.leg = some l) :
    ((u.excluding l faulty).attemptParked l).reportMid r = ((u.excluding l faulty).attemptParked l).told [r] := by
  obtain ⟨-, -, table, slots, -⟩ := attemptParked_fields (u := u.excluding l faulty) (h.recorded (faulty := faulty))
  have atRest : ((u.excluding l faulty).attemptParked l).table = noWork := table.trans rest
  obtain ⟨-, own, -⟩ := h.fields
  refine reportMid_told (by rw [atRest]; rfl) (by rw [atRest]; rfl) fun k hk => ?_
  obtain rfl : l = k := Option.some.inj (leg.symm.trans hk)
  exact noSlotOn_of_slots (slots.trans own) quiet

theorem reportWork_parked (rest : u.tableAtRest) (quiet : s.noSlotOn l .tallyThreshold) (leg : r.leg = some l) :
    ((u.excluding l faulty).attemptParked l).reportWork (((u.excluding l faulty).attemptParked l).reportMid r) := by
  rw [reportMid_parked h rest quiet leg]
  exact reportWork_told _ [r]

theorem attemptReported_eq (rest : u.tableAtRest) (quiet : s.noSlotOn l .tallyThreshold) (leg : r.leg = some l) :
    u.attemptReported l faulty r = (((u.excluding l faulty).attemptParked l).told [r]).attemptOver l := by
  unfold State.attemptReported
  rw [reportMid_parked h rest quiet leg]

theorem attemptReported_rest (rest : u.tableAtRest) (quiet : s.noSlotOn l .tallyThreshold) (leg : r.leg = some l) :
    (u.attemptReported l faulty r).tableAtRest := by
  obtain ⟨-, -, table, -⟩ := attemptParked_fields (u := u.excluding l faulty) (h.recorded (faulty := faulty))
  rw [attemptReported_eq h rest quiet leg]
  exact overTold_rest (table.trans rest) [r]

theorem attemptReported_reports (rest : u.tableAtRest) (quiet : s.noSlotOn l .tallyThreshold) (leg : r.leg = some l)
    (inFlight : u.inFlight = s.inFlight) : (u.attemptReported l faulty r).reportsOf (s.told [r]) := by
  obtain ⟨errors, flight, -, -, clock, -⟩ := attemptParked_fields (u := u.excluding l faulty) (h.recorded (faulty := faulty))
  obtain ⟨errorsU, -, clockU, -⟩ := h.fields
  rw [attemptReported_eq h rest quiet leg]
  exact overTold_reports [r] (errors.trans errorsU) (clock.trans clockU) (flight.trans inFlight)

theorem attemptReported_lost (rest : u.tableAtRest) (quiet : s.noSlotOn l .tallyThreshold) (leg : r.leg = some l) :
    s.attemptLost (u.attemptReported l faulty r) l ((s.leg l).excluded ||| faulty) (u.sent ++ s.aborts l .giveUp) :=
  attemptLost_of h (reportWork_parked h rest quiet leg)

end

/-- What is said of the jobs and the results owed, once the attempt is over (R47, R96). -/
theorem ended_of_lost {w t : State} {ex : PosSet} {sent : List SentWord} (lost : s.attemptLost w l ex sent)
    (owed : ∀ g : FaceId, setHas w.resultOwed g.val = ((setHas s.resultOwed g.val || u.outstanding l g)
      && !(s.cancelHanded (s.onGroup l)).any (fun j => j.kind == .sweep && j.requester == .leg && j.face == g)))
    (outstanding : ∀ g : FaceId, u.outstanding l g = s.outstanding l g) (engine : w.engine.sameBut t.engine)
    (same : t.resultOwed = w.resultOwed) :
    s.cancelled t (s.onGroup l) ∧ ∀ g : FaceId, setHas t.resultOwed g.val = s.owesAfter l (s.onGroup l) g := by
  refine ⟨cancelled_of_engine s (s.onGroup l) (Engine.sameBut_trans lost.engine engine), fun g => ?_⟩
  rw [same, owed, outstanding]
  rfl

theorem clock_told (s : State) (rs : List Report) : (s.told rs).clock = s.clock := by rw [told_footprint]

end

end Sys2Proof.Machine

/-! Attempts that time out, are aborted by the partner, or end by an ANNOUNCE (spec/03 R51 to R53, R64, R66). -/

namespace Sys2Proof.Machine

/-! ### The positions that are late (R64) -/

section
variable {s : State} {l : LegId}

theorem phaseFaces_eq (s : State) (l : LegId) (p : Phase) : s.phaseFaces l p = allFaces.filter (s.onPhase l (decide (p = .c))) := by
  cases p with
  | c => exact groupCFaces_eq s l
  | s => exact groupSFaces_eq s l

theorem setHas_positions (s : State) (fs : List FaceId) (g : PosSet) (p : Pos) :
    setHas (fs.foldl (fun g f => match s.pathPos (facePath f) with
      | some q => setAdd g q.val
      | none => g) g) p.val = true ↔ setHas g p.val = true ∨ ∃ f ∈ fs, s.pathPos (facePath f) = some p := by
  induction fs generalizing g with
  | nil => simp
  | cons f fs ih =>
    rw [List.foldl_cons, ih, List.exists_mem_cons_iff, ← or_assoc]
    refine or_congr ?_ Iff.rfl
    cases here : s.pathPos (facePath f) with
    | none => simp
    | some q =>
      rw [setHas_setAdd g q.isLt, Bool.or_eq_true, decide_eq_true_eq, Option.some.injEq]
      refine or_congr Iff.rfl ?_
      rw [eq_comm, Fin.ext_iff]

theorem setHas_lateSet (s : State) (l : LegId) (ph : Phase) (p : Pos) : setHas (s.lateSet l ph) p.val = true ↔
    (∃ f : FaceId, s.onPhase l (decide (ph = .c)) f = true ∧ s.pathPos (facePath f) = some p ∧ (s.face f).status ≠ .ready)
    ∧ ∃ f : FaceId, s.onPhase l (decide (ph = .c)) f = true ∧ (s.face f).status = .ready := by
  have positions (fs : List FaceId) := setHas_positions s fs 0#4 p
  unfold State.lateSet
  rw [phaseFaces_eq]
  generalize decide (ph = .c) = c
  dsimp only
  by_cases all : ((allFaces.filter (s.onPhase l c)).filter (fun f => (s.face f).status != .ready)).length =
      (allFaces.filter (s.onPhase l c)).length
  · rw [if_pos all]
    have late := List.length_filter_eq_length_iff.mp all
    refine iff_of_false (by simp [setHas]) ?_
    rintro ⟨-, f, on, ready⟩
    have away := late f ((mem_filter_allFaces _ f).mpr on)
    rw [ready] at away
    exact Bool.noConfusion away
  · rw [if_neg all]
    refine (positions _).trans ?_
    have someReady : ∃ f : FaceId, s.onPhase l c f = true ∧ (s.face f).status = .ready := by
      by_contra none_
      refine all (List.length_filter_eq_length_iff.mpr fun f mem => bne_iff_ne.mpr fun ready => none_ ⟨f, ?_, ready⟩)
      exact (mem_filter_allFaces _ f).mp mem
    have empty : ¬setHas (0#4) p.val = true := by simp [setHas]
    rw [and_iff_left someReady, or_iff_right empty]
    refine exists_congr fun f => ?_
    rw [List.mem_filter, mem_filter_allFaces, bne_iff_ne]
    exact ⟨fun ⟨⟨on, away⟩, here⟩ => ⟨on, here, away⟩, fun ⟨on, here, away⟩ => ⟨⟨on, away⟩, here⟩⟩

theorem posSet_ext {x y : PosSet} (same : ∀ p : Pos, setHas x p.val = true ↔ setHas y p.val = true) : x = y := by
  refine BitVec.eq_of_getLsbD_eq fun i hi => ?_
  exact Bool.eq_iff_iff.mpr (same ⟨i, hi⟩)

end

/-! ### What the failures start from -/

section
variable {s : State} {l : LegId} {r : TrainRecord} {more : State → Prop}

theorem failsFrom_self (record : (s.leg l).record = some r) : s.failsFrom s l where
  rest := rfl
  leg := rfl
  legs _ _ := rfl
  began := by rw [record]; rfl
  record := by rw [record]; rfl
  monitor _ _ := rfl

/-- The reports that the failures make. -/
theorem faceReport_parked {u : State} {f : FaceId} {faulty : PosSet} (h : s.failsFrom u l) (own : s.faceLeg f = some l)
    (k : ErrorKind) (d : Option Nat) :
    ((u.excluding l faulty).attemptParked l).faceReport k f d = s.errorAtFace l k f d := by
  obtain ⟨-, -, -, -, clock, legs, faceLeg⟩ := attemptParked_fields (u := u.excluding l faulty) (h.recorded (faulty := faulty))
  obtain ⟨-, -, clockU, faceLegU⟩ := h.fields
  have leg : ((u.excluding l faulty).attemptParked l).leg l = { u.leg l with excluded := (u.leg l).excluded ||| faulty } := by
    rw [← leg_excluding]
    unfold State.leg
    rw [legs]
  have home := ((faceLeg f).trans (faceLegU f)).trans own
  have time := clock.trans clockU
  rw [h.leg] at leg
  generalize (u.excluding l faulty).attemptParked l = p at *
  unfold State.faceReport State.errorAtFace State.stamp
  rw [home, time]
  simp only [Option.map_some, leg]

theorem legReport_parked {u : State} {faulty : PosSet} (h : s.failsFrom u l) (training : (s.leg l).state = .training)
    (k : ErrorKind) (d : Option Nat) : ((u.excluding l faulty).attemptParked l).legReport k l d =
      s.errorAtLeg l k .training (s.leg l).attemptCount d := by
  obtain ⟨-, -, -, -, clock, legs, -⟩ := attemptParked_fields (u := u.excluding l faulty) (h.recorded (faulty := faulty))
  obtain ⟨-, -, clockU, -⟩ := h.fields
  have leg : ((u.excluding l faulty).attemptParked l).leg l = { u.leg l with excluded := (u.leg l).excluded ||| faulty } := by
    rw [← leg_excluding]
    unfold State.leg
    rw [legs]
  have time := clock.trans clockU
  rw [h.leg] at leg
  generalize (u.excluding l faulty).attemptParked l = p at *
  unfold State.legReport State.errorAtLeg State.stamp
  rw [leg, time]
  dsimp only
  rw [training]

end

section
variable {s u : State} {l : LegId} {c : AttemptEnd} {faulty : PosSet} {i : Instr} {e : Cause} {take : State → State} {rep : Report}

/-- What is said of the jobs and the results owed once an attempt has ended (R47, R96). -/
def State.attemptCleared (s : State) (l : LegId) (t : State) : Prop :=
  s.cancelled t (s.onGroup l) ∧ ∀ g : FaceId, setHas t.resultOwed g.val = s.owesAfter l (s.onGroup l) g

/-- A failure whose report is made in the middle of the leg controller's taking. -/
theorem failsAttempt_reported (h : s.failsFrom u l) (kind : c ≠ .rate) (rest : s.tableAtRest) (table : u.table = s.table)
    (quiet : s.noSlotOn l .tallyThreshold) (sent : u.sent = s.sent) (inFlight : u.inFlight = s.inFlight)
    (outstanding : ∀ g : FaceId, u.outstanding l g = s.outstanding l g) (leg : rep.leg = some l)
    (step : exec i s = .next (s.legEvent l e take)) (taken : take s = (u.attemptReported l faulty rep).afterFailure l c) :
    s.failsAttempt i l ((s.leg l).excluded ||| faulty) (s.told [rep]) (s.attemptCleared l) := by
  have rest' : u.tableAtRest := table.trans rest
  have lost := attemptReported_lost (faulty := faulty) h rest' quiet leg
  rw [sent] at lost
  exact failsAttempt_legEvent lost kind (attemptReported_rest h rest' quiet leg) quiet
    (attemptReported_reports h rest' quiet leg inFlight) (clock_told s _) step taken
    fun t engine same => ended_of_lost lost (owed_attemptOver h (reportWork_parked h rest' quiet leg)) outstanding engine same

/-- A rate failure whose report is made in the middle of the leg controller's taking. -/
theorem gaveUp_reported {before : List SentWord} (h : s.failsFrom u l) (rest : s.tableAtRest) (table : u.table = s.table)
    (quiet : s.noSlotOn l .tallyThreshold) (sent : u.sent = before) (inFlight : u.inFlight = s.inFlight)
    (outstanding : ∀ g : FaceId, u.outstanding l g = s.outstanding l g) (leg : rep.leg = some l)
    (step : exec i s = .next (s.legEvent l e take)) (taken : take s = (u.attemptReported l faulty rep).afterFailure l .rate) :
    ∃ t, exec i s = .next t ∧ s.gaveUp t l ((s.leg l).excluded ||| faulty) .rate (s.told [rep]) before ∧ s.attemptCleared l t := by
  have rest' : u.tableAtRest := table.trans rest
  have lost := attemptReported_lost (faulty := faulty) h rest' quiet leg
  rw [sent] at lost
  exact gaveUp_rate lost (attemptReported_rest h rest' quiet leg) quiet
    (attemptReported_reports h rest' quiet leg inFlight) (clock_told s _) step taken
    fun t engine same => ended_of_lost lost (owed_attemptOver h (reportWork_parked h rest' quiet leg)) outstanding engine same

end

/-! ### The failures -/

section
variable {s : State} {l : LegId} {f : FaceId} {q : Place} {r : TrainRecord}

theorem timeOut_fails (rest : s.tableAtRest) (quiet : s.noSlotOn l .tallyThreshold) (training : (s.leg l).state = .training)
    (record : (s.leg l).record = some r) (running : (s.leg l).limitTimer.isSome = true) :
    s.failsAttempt (.trainingLimitExpiry l) l ((s.leg l).excluded ||| s.lateSet l r.phase)
      (s.told [s.errorAtLeg l .trainTimeout .training (s.leg l).attemptCount none]) (s.attemptCleared l) := by
  have h := failsFrom_self record
  obtain ⟨n, timer⟩ := Option.isSome_iff_exists.mp running
  have step : exec (.trainingLimitExpiry l) s = .next (s.legEvent l (.train .first) (fun s => s.timeOut l r.phase)) := by
    show execTrainingLimitExpiry l s = _
    unfold execTrainingLimitExpiry
    rw [training, timer, record]
  have taken : s.timeOut l r.phase = (s.attemptReported l (s.lateSet l r.phase)
      (s.errorAtLeg l .trainTimeout .training (s.leg l).attemptCount none)).afterFailure l .timeout := by
    rw [← legReport_parked (faulty := s.lateSet l r.phase) h training]
    exact failAttempt_leg .timeout (s.lateSet l r.phase) .trainTimeout none
  exact failsAttempt_reported h (by decide) rest rfl quiet rfl rfl (fun _ => rfl) rfl step taken

/-- A failure at a face, taken as it stands. -/
theorem failAttempt_atFace {u : State} {c : AttemptEnd} {faulty : PosSet} (h : s.failsFrom u l) (own : s.faceLeg f = some l)
    (k : ErrorKind) (d : Option Nat) : u.failAttempt l c faulty (some (k, some f, d)) =
      (u.attemptReported l faulty (s.errorAtFace l k f d)).afterFailure l c := by
  rw [← faceReport_parked (faulty := faulty) h own]
  exact failAttempt_face c faulty k f d

theorem abortOf_word (again : Bool) : ∃ reason : AbortReason,
    abortOf ⟨boolByte again, 0#8, crc8 [5#8, boolByte again, 0#8]⟩ = some reason ∧ abortCode reason = again.toNat := by
  have checks (b : Byte) : wordChecks ⟨b, 0#8, crc8 [5#8, b, 0#8]⟩ 5#8 = true := beq_self_eq_true _
  unfold abortOf
  rw [checks]
  cases again with
  | false => exact ⟨.reset, rfl, rfl⟩
  | true => exact ⟨.giveUp, rfl, rfl⟩

theorem abort_fails (rest : s.tableAtRest) (quiet : s.noSlotOn q.leg .tallyThreshold) (inside : s.inExchange f q r) (again : Bool) :
    s.failsAttempt (.partnerAbort f ⟨boolByte again, 0#8, crc8 [5#8, boolByte again, 0#8]⟩) q.leg (s.leg q.leg).excluded
      (s.told [s.errorAtFace q.leg .partnerAbort f (some again.toNat)]) (s.attemptCleared q.leg) := by
  have exchange := exchange_of_inExchange inside
  obtain ⟨-, place, -, record, -⟩ := inside
  have h := failsFrom_self record
  obtain ⟨reason, word, code⟩ := abortOf_word again
  have step : exec (.partnerAbort f ⟨boolByte again, 0#8, crc8 [5#8, boolByte again, 0#8]⟩) s =
      .next (s.legEvent q.leg wordCause (fun s =>
        s.failAttempt q.leg .partner 0#4 (some (.partnerAbort, some f, some (abortCode reason))))) := by
    show execPartnerAbort f _ s = _
    unfold execPartnerAbort
    rw [word, exchange]
  have taken := failAttempt_atFace (c := .partner) (faulty := 0#4) h (faceLeg_of_place place) .partnerAbort (some (abortCode reason))
  rw [code] at taken step
  have plain : (s.leg q.leg).excluded ||| 0#4 = (s.leg q.leg).excluded := BitVec.or_zero
  have fails := failsAttempt_reported (take := fun s =>
    s.failAttempt q.leg .partner 0#4 (some (.partnerAbort, some f, some again.toNat))) h (by decide) rest rfl quiet rfl rfl
    (fun _ => rfl) rfl step taken
  rwa [plain] at fails

/-- The faults of a lane exclude its position (R62). -/
theorem laneFault_eq {u : State} (place : u.place (facePath f) = some q) (k : Option ErrorKind) :
    u.laneFault l f k = u.failAttempt l .lane (setAdd 0#4 q.pos.val) (k.map (fun k => (k, some f, none))) := by
  unfold State.laneFault State.pathPos
  rw [place]
  rfl

section
variable {pos : Pos} {width : Fin 3} {rates : RateSet} {attempt : Fin 8}

theorem mismatch_fails (rest : s.tableAtRest) (quiet : s.noSlotOn q.leg .tallyThreshold) (inside : s.inExchange f q r)
    (live : (s.face f).status ≠ .idle) (fresh : setHas r.partnerAnnounced f.val = false) (current : r.isCurrent attempt.val)
    (other : pos ≠ q.pos) : s.failsAttempt (.partnerAnnounce f (announceWordOf pos width rates attempt)) q.leg
      ((s.leg q.leg).excluded ||| setAdd 0#4 q.pos.val) (s.told [s.errorAtFace q.leg .positionMismatch f none])
      (s.attemptCleared q.leg) := by
  have step := partnerAnnounce_taken (pos := pos) (width := width) (rates := rates) (attempt := attempt) inside live
  obtain ⟨-, place, -, record, -⟩ := inside
  have h := failsFrom_self record
  have away : s.pathPos (facePath f) ≠ some pos := by
    unfold State.pathPos
    rw [place]
    exact fun same => other (Option.some.inj same).symm
  have judged := judgeAnnounce_mismatch (s := s) (l := q.leg) (a := ⟨pos, 2 ^ width.val, rates, attempt.val⟩) current fresh away
  unfold State.takeAnnounce at step
  rw [judged] at step
  have taken : s.laneFault q.leg f (some .positionMismatch) = (s.attemptReported q.leg (setAdd 0#4 q.pos.val)
      (s.errorAtFace q.leg .positionMismatch f none)).afterFailure q.leg .lane := by
    rw [laneFault_eq place]
    exact failAttempt_atFace h (faceLeg_of_place place) .positionMismatch none
  exact failsAttempt_reported (take := fun s => s.laneFault q.leg f (some .positionMismatch)) h (by decide) rest rfl quiet rfl rfl
    (fun _ => rfl) rfl step taken

/-- No rate in common (R53). -/
theorem noRate_fails (rest : s.tableAtRest) (quiet : s.noSlotOn q.leg .tallyThreshold) (inside : s.inExchange f q r)
    (live : (s.face f).status ≠ .idle)
    (judged : s.judgeAnnounce q.leg r f ⟨pos, 2 ^ width.val, rates, attempt.val⟩ = .noRate) :
    ∃ t, exec (.partnerAnnounce f (announceWordOf pos width rates attempt)) s = .next t
      ∧ s.gaveUp t q.leg (s.leg q.leg).excluded .rate
          (s.told [s.errorAtLeg q.leg .rateMismatch .training (s.leg q.leg).attemptCount none])
          (s.sent ++ [s.ownAnnounce q r f]) ∧ s.attemptCleared q.leg t := by
  have step := partnerAnnounce_taken (pos := pos) (width := width) (rates := rates) (attempt := attempt) inside live
  have accepted := acceptAnnounce_eq inside rates
  obtain ⟨-, place, training, record, -⟩ := inside
  unfold State.takeAnnounce at step
  rw [judged] at step
  dsimp only at step
  have leg : (s.acceptAnnounce q.leg f rates).leg q.leg = { s.leg q.leg with record := some (r.hearsAnnounce f rates) } := by
    rw [accepted]
    exact leg_recording s q.leg _
  have fields : (s.acceptAnnounce q.leg f rates).sent = s.sent ++ [s.ownAnnounce q r f]
      ∧ (s.acceptAnnounce q.leg f rates).inFlight = s.inFlight ∧ (s.acceptAnnounce q.leg f rates).table = s.table
      ∧ ∀ p : PathId, (s.acceptAnnounce q.leg f rates).place p = s.place p := by
    rw [accepted]
    exact ⟨rfl, rfl, rfl, fun _ => rfl⟩
  obtain ⟨sent, inFlight, table, places⟩ := fields
  have h : s.failsFrom (s.acceptAnnounce q.leg f rates) q.leg := by
    refine ⟨?_, ?_, fun k away => ?_, by rw [record]; rfl, by rw [leg]; rfl, fun g _ => ?_⟩
    · rw [accepted]
      rfl
    · rw [leg]
    · rw [accepted]
      exact State.leg_modLeg_other s q.leg k _ away
    · rw [accepted]
      rfl
  have outstanding (g : FaceId) : (s.acceptAnnounce q.leg f rates).outstanding q.leg g = s.outstanding q.leg g := by
    have group : (s.acceptAnnounce q.leg f rates).onGroup q.leg g = s.onGroup q.leg g := by
      unfold State.onGroup
      rw [leg]
      exact onPositions_of_place places _ g
    unfold State.outstanding
    rw [group, leg, record]
    rfl
  have taken : (s.acceptAnnounce q.leg f rates).failRate q.leg = ((s.acceptAnnounce q.leg f rates).attemptReported q.leg 0#4
      (s.errorAtLeg q.leg .rateMismatch .training (s.leg q.leg).attemptCount none)).afterFailure q.leg .rate := by
    rw [← legReport_parked (faulty := 0#4) h training]
    exact failAttempt_leg .rate 0#4 .rateMismatch none
  have plain : (s.leg q.leg).excluded ||| 0#4 = (s.leg q.leg).excluded := BitVec.or_zero
  have fails := gaveUp_reported (take := fun s => (s.acceptAnnounce q.leg f rates).failRate q.leg) h rest table quiet sent inFlight
    outstanding rfl step taken
  rwa [plain] at fails

end

end

end Sys2Proof.Machine

/-! Losses on a path in TRAINING (spec/06 R110, R111): the attempt ends, and the loss is reported ahead of what follows. -/

namespace Sys2Proof.Machine

/-! ### The error unit in the middle of a loss -/

section
variable {s b u w x : State} {l : LegId} {r : Report} {ex : PosSet} {i : Instr}

/-- What the leg controller makes of a monitor's report decides what comes of it. -/
theorem monitorReport_taken {take : LegId → State → State} (leg : r.leg = some l) (taken : take l b.holdReports = x) :
    b.monitorReport r take = b.monitorReport r (fun _ _ => x) := by
  unfold State.monitorReport
  rw [leg]
  unfold State.legTake
  dsimp only
  rw [taken]

/-- Reports that wait behind the loss are taken after it, in whatever state the leg is (R110, R126). -/
theorem monitorReport_reports {rs : List Report} (leg : r.leg = some l) (table : x.table = ⟨false, [], true, rs⟩)
    (quiet : x.unheard (r :: rs)) (few : rs.length ≤ 7) : x.legStays (b.monitorReport r (fun _ _ => x)) l
      ∧ (b.monitorReport r (fun _ _ => x)).errors = (x.afterReports (r :: rs)).errors
      ∧ (b.monitorReport r (fun _ _ => x)).inFlight = x.inFlight ∧ (b.monitorReport r (fun _ _ => x)).engine = x.engine
      ∧ (b.monitorReport r (fun _ _ => x)).resultOwed = x.resultOwed := by
  by_cases same : (x.leg l).state = (b.leg l).state
  · rw [monitorReport_same (v := x) leg rfl table quiet few same, afterReports_footprint]
    exact ⟨⟨rfl, rfl, rfl, rfl, fun _ _ => rfl⟩, rfl, rfl, rfl, rfl⟩
  · have moved := monitorReport_moved (s := b) (take := fun _ _ => x) (v := x) leg rfl table quiet few same
    have errors := errors_afterReports (s := x) (u := x.raiseNotice (b.moveNotice x l (.train .loss))) (r :: rs) rfl rfl
    rw [moved]
    rw [afterReports_footprint] at errors ⊢
    exact ⟨⟨rfl, rfl, rfl, rfl, fun _ _ => rfl⟩, errors, rfl, rfl, rfl⟩

/-- A failure whose report a monitor has made. -/
theorem failsAttempt_monitor {take : LegId → State → State} {base : State}
    (lost : s.attemptLost w l ex (s.sent ++ s.aborts l .giveUp)) (table : w.table = ⟨false, [], true, []⟩)
    (quiet : s.noSlotOn l .tallyThreshold) (leg : r.leg = some l) (errors : base.errors = (w.takeReport r).1.errors)
    (inFlight : base.inFlight = w.inFlight) (clock : base.clock = s.clock) (step : exec i s = .next (b.monitorReport r take))
    (taken : take l b.holdReports = w.afterFailure l .lane)
    (rests : ∀ t : State, w.engine.sameBut t.engine → t.resultOwed = w.resultOwed → s.attemptCleared l t) :
    s.failsAttempt i l ex base (s.attemptCleared l) := by
  have unheard (y : State) (slots : y.slots = w.slots) (rs : List Report) (legs : ∀ r ∈ rs, r.leg = some l) : y.unheard rs := by
    intro z mem k own
    obtain rfl : l = k := Option.some.inj ((legs z mem).symm.trans own)
    exact noSlotOn_of_slots (slots.trans lost.slots) quiet
  rw [monitorReport_taken leg taken] at step
  refine failsAttempt_of (c := .lane) (K := fun x => b.monitorReport r (fun _ _ => x)) lost (by decide) step (fun wd g => ?_)
    fun c => ?_
  · obtain ⟨errors', flight, table', owed, slots⟩ := beginAttempt_fields w l wd g
    have engine := engine_beginAttempt (l := l) w wd g
    have clocks : (w.beginAttempt l wd g).clock = w.clock := by
      have work := legWork_beginAttempt w l wd g
      rw [work]
    generalize w.beginAttempt l wd g = y at *
    obtain ⟨stays, told, flight', engine', owed'⟩ := monitorReport_reports (b := b) leg (table'.trans table)
      (unheard y slots [r] fun z mem => by rw [List.mem_singleton.mp mem]; exact leg) (Nat.zero_le _)
    refine ⟨stays, ⟨?_, ?_⟩, rests _ (by rw [engine']; exact engine) (owed'.trans owed)⟩
    · rw [told, errors]
      exact errors_takeReport errors' clocks r
    · rw [flight', flight, inFlight]
  · obtain ⟨errors', flight, table', owed, slots, clocks, engine⟩ := failedAs_fields w l c
    have fails := enterFailed_mid (u := w) (l := l) c
    rw [errorAtLeg_lost lost] at fails
    have own : (s.errorAtLeg l .legFailed .failed ((s.leg l).attemptCount + 1) (some (failCauseCode c))).leg = some l := rfl
    rw [fails]
    generalize s.errorAtLeg l .legFailed .failed ((s.leg l).attemptCount + 1) (some (failCauseCode c)) = rep at *
    generalize w.failedAs l c = y at *
    by_cases empty : y.inFlight = []
    · have held := reportMid_held (u := y) empty (by rw [table', table]) rep
      have waits : (y.queueReport rep).table = ⟨false, [], true, [rep]⟩ := by
        unfold State.queueReport
        rw [table', table]
        rfl
      have both : ∀ z ∈ [r, rep], z.leg = some l := by
        intro z mem
        rcases List.mem_cons.mp mem with first | second
        · rw [first]
          exact leg
        · rw [List.mem_singleton.mp second]
          exact own
      obtain ⟨stays, told, flight', engine', owed'⟩ := monitorReport_reports (b := b) leg waits
        (unheard (y.queueReport rep) slots [r, rep] both) (by simp)
      rw [held]
      have baseEmpty : base.inFlight = [] := by rw [inFlight, ← flight, empty]
      have reports : base.told [rep] = base.afterReports [rep] := by
        unfold State.told
        rw [baseEmpty]
        rfl
      refine ⟨⟨stays.legs, stays.sent, stays.paths, stays.monitors, stays.face⟩, ⟨?_, ?_⟩,
        rests _ (by rw [engine']; exact engine) (owed'.trans owed)⟩
      · rw [told, reports]
        have first : ((y.queueReport rep).takeReport r).1.errors = base.errors := by
          rw [errors]
          exact errors_takeReport (u := y.queueReport rep) errors' clocks r
        have clock' : ((y.queueReport rep).takeReport r).1.clock = base.clock := by
          rw [takeReport_footprint, clock]
          exact clocks.trans lost.clock
        exact errors_afterReports [rep] first clock'
      · have baseFlight : (base.afterReports [rep]).inFlight = base.inFlight := by rw [afterReports_footprint]
        rw [flight', reports, baseFlight, inFlight]
        exact flight
    · have raises : y.reportMid rep = y.raiseReport rep := by
        unfold State.reportMid
        rw [if_pos]
        cases h : y.inFlight with
        | nil => exact absurd h empty
        | cons _ _ => rfl
      obtain ⟨stays, told, flight', engine', owed'⟩ := monitorReport_reports (b := b) (x := y.raiseReport rep) leg
        (table'.trans table) (unheard (y.raiseReport rep) slots [r] fun z mem => by rw [List.mem_singleton.mp mem]; exact leg)
        (Nat.zero_le _)
      rw [raises]
      have reports : base.told [rep] = { base with inFlight := base.inFlight ++ [rep] } := by
        unfold State.told
        rw [if_neg]
        rw [inFlight, ← flight]
        exact fun none_ => empty (List.isEmpty_iff.mp none_)
      refine ⟨⟨stays.legs, stays.sent, stays.paths, stays.monitors, stays.face⟩, ⟨?_, ?_⟩,
        rests _ (by rw [engine']; exact engine) (owed'.trans owed)⟩
      · rw [told, reports]
        show _ = base.errors
        rw [errors]
        exact errors_takeReport (u := y.raiseReport rep) errors' clocks r
      · rw [flight', reports]
        show y.inFlight ++ [rep] = base.inFlight ++ [rep]
        rw [flight, inFlight]

end

/-! ### A loss on a path in TRAINING -/

section
variable {s b : State} {l : LegId} {f : FaceId} {q : Place} {r : TrainRecord} {rep : Report} {i : Instr}

theorem takeSignalLoss_training (own : s.faceLeg f = some l) (training : s.path (facePath f) = .training) :
    s.takeSignalLoss l f = s.laneFault l f none := by
  unfold State.takeSignalLoss
  rw [if_neg (not_not.mpr own), training]

theorem takeLockLoss_training (own : s.faceLeg f = some l) (training : s.path (facePath f) = .training) :
    s.takeLockLoss l f = s.laneFault l f none := by
  unfold State.takeLockLoss
  rw [if_neg (not_not.mpr own), training]

theorem reportWork_refl (s : State) : s.reportWork s := rfl

/-- The leg controller takes a loss at a face of an exchange. -/
theorem loss_fails {take : LegId → State → State} {base : State} (inside : s.inExchange f q r) (quiet : s.noSlotOn q.leg .tallyThreshold)
    (h : s.failsFrom b.holdReports q.leg) (table : b.table = noWork) (sent : b.sent = s.sent)
    (outstanding : ∀ g : FaceId, b.outstanding q.leg g = s.outstanding q.leg g) (leg : rep.leg = some q.leg)
    (errors : base.errors = (s.takeReport rep).1.errors) (inFlight : base.inFlight = b.inFlight) (clock : base.clock = s.clock)
    (step : exec i s = .next (b.monitorReport rep take)) (taken : take q.leg b.holdReports = b.holdReports.laneFault q.leg f none) :
    s.failsAttempt i q.leg ((s.leg q.leg).excluded ||| setAdd 0#4 q.pos.val) base (s.attemptCleared q.leg) := by
  obtain ⟨-, place, -⟩ := inside
  have here : b.holdReports.place (facePath f) = some q := by
    rw [h.rest]
    exact place
  rw [laneFault_eq here, Option.map_none, failAttempt_none] at taken
  have lost := attemptLost_of (v := (b.holdReports.excluding q.leg (setAdd 0#4 q.pos.val)).attemptParked q.leg) h
    (reportWork_refl _)
  have owed := owed_attemptOver (v := (b.holdReports.excluding q.leg (setAdd 0#4 q.pos.val)).attemptParked q.leg) h
    (reportWork_refl _)
  obtain ⟨errors', flight, table', -⟩ := attemptParked_fields (u := b.holdReports.excluding q.leg (setAdd 0#4 q.pos.val))
    (h.recorded (faulty := setAdd 0#4 q.pos.val))
  obtain ⟨errorsU, -⟩ := h.fields
  have over_ := attemptOver_fields ((b.holdReports.excluding q.leg (setAdd 0#4 q.pos.val)).attemptParked q.leg) q.leg
  rw [show b.holdReports.sent = s.sent from sent] at lost
  have held : (b.holdReports.excluding q.leg (setAdd 0#4 q.pos.val)).table = ⟨false, [], true, []⟩ := by
    show { b.table with held := true } = _
    rw [table]
    rfl
  generalize (b.holdReports.excluding q.leg (setAdd 0#4 q.pos.val)).attemptParked q.leg = v at *
  obtain ⟨errorsW, flightW, tableW⟩ := over_
  generalize v.attemptOver q.leg = w at *
  refine failsAttempt_monitor lost (tableW.trans (table'.trans held)) quiet leg ?_ ?_ clock step taken fun t engine same =>
    ended_of_lost lost owed outstanding engine same
  · rw [errors]
    exact (errors_takeReport (errorsW.trans (errors'.trans errorsU)) lost.clock rep).symm
  · rw [flightW, flight, inFlight]
    rfl

/-- A loss at a face, on whose path the leg trains, that is heard at once. -/
theorem failsFrom_lossAt (loss : s.lossAt b f) (record : (s.leg l).record = some r) (training : s.path (facePath f) = .training) :
    s.failsFrom b.holdReports l where
  rest := by
    rw [loss.rest]
    rfl
  leg := by
    rw [loss.rest]
    rfl
  legs k _ := by
    rw [loss.rest]
    rfl
  began := by rw [record]; rfl
  record := by
    rw [loss.rest]
    show (s.leg l).record.isSome = true
    rw [record]
    rfl
  monitor g away := loss.other g fun same => away (by rw [same]; exact training)

/-- The signal's loss on a face of an exchange leaves no slot of the leg more than the leg controller's work. -/
theorem signalLost_taken (rest : b.tableAtRest) (leg : rep.leg = some l) (quiet : b.noSlotOn l .signalLost) :
    b.handSignalLost f rep = b.monitorReport rep (fun l s => s.takeSignalLoss l f) := by
  have fires := unfired_monitorReport (s := b) (r := rep) (take := fun l s => s.takeSignalLoss l f) rest leg
    (fun u => unfired_takeSignalLoss u l f)
  have atRest : (b.monitorReport rep (fun l s => s.takeSignalLoss l f)).tableAtRest := by
    unfold State.monitorReport
    rw [leg]
    exact finish_atRest _
  exact handSignalLost_quiet leg rfl atRest fun j => by
    rw [fires.sources]
    exact quiet j

theorem told_empty {rs : List Report} (empty : s.inFlight = []) : s.told rs = s.afterReports rs := by
  unfold State.told
  rw [empty]
  rfl

theorem signalLost_fails (inside : s.inExchange f q r) (rest : s.tableAtRest) (quiet : s.noSlotOn q.leg .tallyThreshold)
    (empty : s.inFlight = []) (present : (s.monitor f).signal = .present) (still : s.noSlotOn q.leg .signalLost) :
    s.failsAttempt (.signalLost ⟨f, .now⟩) q.leg ((s.leg q.leg).excluded ||| setAdd 0#4 q.pos.val)
      (s.told [s.errorAtFace q.leg .signalLost f none]) (s.attemptCleared q.leg) := by
  have step := signalLost_now present empty
  obtain ⟨training, place, -, record, -⟩ := id inside
  have own := faceLeg_of_place place
  rw [faceReport_eq own rfl rfl rfl .signalLost none,
    signalLost_taken (b := s.loseSignal f) (l := q.leg) (rep := s.errorAtFace q.leg .signalLost f none) rest rfl still] at step
  rw [told_empty empty]
  refine loss_fails (take := fun l s => s.takeSignalLoss l f) inside quiet
    (failsFrom_lossAt (lossAt_loseSignal s f) record training) rest rfl (fun _ => rfl) rfl rfl ?_ ?_ step
    (takeSignalLoss_training own training)
  · rw [afterReports_footprint]
    rfl
  · rw [afterReports_footprint]

theorem lockLost_fails (inside : s.inExchange f q r) (rest : s.tableAtRest) (quiet : s.noSlotOn q.leg .tallyThreshold)
    (empty : s.inFlight = []) (present : (s.monitor f).signal = .present) (locked : (s.monitor f).lock = .locked) :
    s.failsAttempt (.lockLost ⟨f, .now⟩) q.leg ((s.leg q.leg).excluded ||| setAdd 0#4 q.pos.val)
      (s.told [s.errorAtFace q.leg .lockLost f none]) (s.attemptCleared q.leg) := by
  have step := lockLost_now present locked empty
  obtain ⟨training, place, -, record, -⟩ := id inside
  have own := faceLeg_of_place place
  have loss := lossAt_loseLock s f
  have flight := inFlight_loseLock s f
  rw [faceReport_eq own rfl rfl rfl .lockLost none] at step
  generalize s.loseLock f = b at *
  have h := failsFrom_lossAt (l := q.leg) loss record training
  have fields : b.table = s.table ∧ b.sent = s.sent ∧ (∀ g : FaceId, b.outstanding q.leg g = s.outstanding q.leg g)
      ∧ b.faceLeg f = s.faceLeg f ∧ b.path (facePath f) = s.path (facePath f) := by
    rw [loss.rest]
    exact ⟨rfl, rfl, fun _ => rfl, rfl, rfl⟩
  obtain ⟨table, sent, outstanding, faceLeg, path⟩ := fields
  rw [told_empty empty]
  refine loss_fails (take := fun l s => s.takeLockLoss l f) inside quiet h (table.trans rest) sent outstanding rfl rfl ?_ ?_ step
    (takeLockLoss_training (s := b.holdReports) (faceLeg.trans own) (path.trans training))
  · rw [afterReports_footprint, flight]
  · rw [afterReports_footprint]

/-! ### A loss that was raised earlier -/

theorem monitorNext_handOver {rest : List Report} (next : monitorNext rest) : (State.handOver { s with inFlight := rest } rep).handWaiting =
    State.handOver { s with inFlight := rest } rep := by
  obtain ⟨-, more, flight, none_⟩ := takingKept_handOver { s with inFlight := rest } rep
  refine handWaiting_eq ?_
  rw [flight]
  intro x later own
  cases rest with
  | nil =>
    rw [none_ rfl] at own
    cases own
  | cons y ys =>
    obtain ⟨rfl, -⟩ := List.cons.inj own
    exact next y ys rfl

theorem failsFrom_delivered {rest : List Report} (record : (s.leg l).record = some r) :
    s.failsFrom (State.holdReports { s with inFlight := rest }) l where
  rest := rfl
  leg := rfl
  legs _ _ := rfl
  began := by rw [record]; rfl
  record := by
    show (s.leg l).record.isSome = true
    rw [record]
    rfl
  monitor _ _ := rfl

theorem delivered_fails {rest : List Report} {take : LegId → State → State} (inside : s.inExchange f q r) (atRest : s.tableAtRest)
    (quiet : s.noSlotOn q.leg .tallyThreshold) (leg : rep.leg = some q.leg)
    (step : exec i s = .next (State.monitorReport { s with inFlight := rest } rep take))
    (taken : take q.leg (State.holdReports { s with inFlight := rest }) =
      State.laneFault (State.holdReports { s with inFlight := rest }) q.leg f none) :
    s.failsAttempt i q.leg ((s.leg q.leg).excluded ||| setAdd 0#4 q.pos.val)
      (State.takeReport { s with inFlight := rest } rep).1 (s.attemptCleared q.leg) := by
  obtain ⟨-, -, -, record, -⟩ := id inside
  have h := failsFrom_delivered (rest := rest) record
  have errors := errors_takeReport (s := s) (u := { s with inFlight := rest }) rfl rfl rep
  have foot := takeReport_footprint { s with inFlight := rest } rep
  have outstanding (g : FaceId) : State.outstanding { s with inFlight := rest } q.leg g = s.outstanding q.leg g := rfl
  have table : ({ s with inFlight := rest } : State).table = noWork := atRest
  have sent : ({ s with inFlight := rest } : State).sent = s.sent := rfl
  have clock : ({ s with inFlight := rest } : State).clock = s.clock := rfl
  generalize ({ s with inFlight := rest } : State) = b at *
  refine loss_fails inside quiet h table sent outstanding leg errors ?_ ?_ step taken
  · rw [foot]
  · rw [foot]
    exact clock

section
variable {rest : List Report} (inside : s.inExchange f q r) (atRest : s.tableAtRest) (quiet : s.noSlotOn q.leg .tallyThreshold)
  (flight : s.inFlight = rep :: rest) (next : monitorNext rest) (face : rep.face = some f) (leg : rep.leg = some q.leg)
include inside atRest quiet flight next face leg

theorem signalLost_delivered (kind : rep.kind = .signalLost) (still : s.noSlotOn q.leg .signalLost) :
    s.failsAttempt (.signalLost ⟨f, .delivered⟩) q.leg ((s.leg q.leg).excluded ||| setAdd 0#4 q.pos.val)
      (State.takeReport { s with inFlight := rest } rep).1 (s.attemptCleared q.leg) := by
  obtain ⟨training, place, -, record, -⟩ := id inside
  have own := faceLeg_of_place place
  have taken := signalLost_taken (b := { s with inFlight := rest }) (f := f) atRest leg still
  have step : exec (.signalLost ⟨f, .delivered⟩) s =
      .next (State.monitorReport { s with inFlight := rest } rep (fun l s => s.takeSignalLoss l f)) := by
    have delivers : exec (.signalLost ⟨f, .delivered⟩) s = .next (s.deliverReport .signalLost f) := rfl
    rw [delivers, deliverReport_next flight kind face, monitorNext_handOver next, handOver_signalLost kind face, taken]
  exact delivered_fails inside atRest quiet leg step (takeSignalLoss_training own training)

theorem lockLost_delivered (kind : rep.kind = .lockLost) :
    s.failsAttempt (.lockLost ⟨f, .delivered⟩) q.leg ((s.leg q.leg).excluded ||| setAdd 0#4 q.pos.val)
      (State.takeReport { s with inFlight := rest } rep).1 (s.attemptCleared q.leg) := by
  obtain ⟨training, place, -, record, -⟩ := id inside
  have own := faceLeg_of_place place
  have step : exec (.lockLost ⟨f, .delivered⟩) s =
      .next (State.monitorReport { s with inFlight := rest } rep (fun l s => s.takeLockLoss l f)) := by
    have delivers : exec (.lockLost ⟨f, .delivered⟩) s = .next (s.deliverReport .lockLost f) := rfl
    rw [delivers, deliverReport_next flight kind face, monitorNext_handOver next, handOver_lockLost kind face]
    rfl
  exact delivered_fails inside atRest quiet leg step (takeLockLoss_training own training)

end

end

end Sys2Proof.Machine

/-! Pins, and the suspended MARGIN of another leg's face, through what a leg controller does (spec/04 R76, spec/05 R95, R96). -/

namespace Sys2Proof.Machine

/-- The pins are as they were, and so is a suspended MARGIN of a face that leg `l` does not have. -/
structure State.spares (s t : State) (l : LegId) : Prop where
  place : ∀ p : PathId, t.place p = s.place p
  pinned : ∀ f : FaceId, (t.face f).pinned = (s.face f).pinned
  job : ∀ x : SuspendedJob, s.engine.suspended = some x → s.faceLeg x.job.face ≠ some l → t.engine.suspended = some x

section
variable {s t u : State} {l : LegId}

theorem spares_of (place : ∀ p : PathId, t.place p = s.place p) (faces : t.faces = s.faces) (engine : t.engine = s.engine) :
    s.spares t l := by
  refine ⟨place, fun f => ?_, fun x suspended _ => ?_⟩
  · unfold State.face
    rw [faces]
  · rw [engine]
    exact suspended

theorem spares_refl (s : State) (l : LegId) : s.spares s l := spares_of (fun _ => rfl) rfl rfl

theorem State.spares.faceLeg (h : s.spares t l) (f : FaceId) : t.faceLeg f = s.faceLeg f := by
  unfold State.faceLeg State.pathLeg
  rw [h.place]

theorem spares_trans (h : s.spares t l) (h' : t.spares u l) : s.spares u l := by
  refine ⟨fun p => (h'.place p).trans (h.place p), fun f => (h'.pinned f).trans (h.pinned f), fun x suspended away => ?_⟩
  exact h'.job x (h.job x suspended away) (by rw [h.faceLeg]; exact away)

/-- A walk over a list each step of which spares, where what the steps rest on is the places. -/
theorem spares_foldl {α : Type} {step : State → α → State} (xs : List α) (s : State)
    (each : ∀ x ∈ xs, ∀ u : State, s.spares u l → u.spares (step u x) l) : s.spares (xs.foldl step s) l := by
  refine List.foldlRecOn xs step (motive := fun u => s.spares u l) (spares_refl s l) fun u before x mem => ?_
  exact spares_trans before (each x mem u before)

/-! ### Faces and paths of the leg -/

theorem spares_setStatus (s : State) (l : LegId) (f : FaceId) (st : TrainStatus) : s.spares (s.setStatus f st) l := by
  refine ⟨fun _ => rfl, fun g => ?_, fun _ suspended _ => suspended⟩
  rw [State.setStatus, State.face_modFace_eq]
  split
  · rename_i same
    rw [same]
  · rfl

theorem pinned_settled (x : Face) : x.settled.pinned = x.pinned := by
  unfold Face.settled
  split <;> rfl

theorem spares_settleFace {f : FaceId} (own : s.faceLeg f = some l) : s.spares (s.settleFace f) l := by
  refine ⟨fun p => ?_, fun g => ?_, fun x suspended away => ?_⟩
  · rw [settleFace_footprint]
    rfl
  · rw [face_settleFace]
    split
    · exact pinned_settled _
    · rfl
  · have other : x.job.face ≠ f := fun same => away (same ▸ own)
    unfold State.settleFace
    split
    · show s.engine.suspended.map _ = some x
      rw [suspended, Option.map_some, if_neg other]
    · exact suspended

theorem spares_setPath {p : PathId} (own : s.pathLeg p = some l) (st : PathState) : s.spares (s.setPath p st) l := by
  have settled (u : State) (h : s.spares u l) : s.spares ((u.settleFace (sFace p)).settleFace (cFace p)) l := by
    have leg (v : State) (h : s.spares v l) (f : FaceId) (mine : facePath f = p) : v.faceLeg f = some l := by
      rw [h.faceLeg, State.faceLeg, mine]
      exact own
    have first := spares_trans h (spares_settleFace (leg u h (sFace p) (facePath_sFace p)))
    exact spares_trans first (spares_settleFace (leg _ first (cFace p) (facePath_cFace p)))
  have moved : s.spares (s.setPathState p st) l := spares_of (fun _ => rfl) rfl rfl
  have stopped (u : State) (h : s.spares u l) : s.spares (u.stopMonitors p) l :=
    spares_trans h (spares_of (fun _ => rfl) rfl rfl)
  unfold State.setPath
  split
  · exact spares_refl s l
  · dsimp only
    split <;> split
    · exact settled _ moved
    · exact settled _ (stopped _ moved)
    · exact moved
    · exact stopped _ moved

theorem spares_setPaths {ps : List PathId} (own : ∀ p ∈ ps, s.pathLeg p = some l) (st : PathState) :
    s.spares (s.setPaths ps st) l := by
  refine spares_foldl ps s fun p mem u before => spares_setPath ?_ st
  rw [State.pathLeg, before.place]
  exact own p mem

/-! ### An attempt that ends -/

theorem spares_attemptParked (record : (s.leg l).record.isSome = true) : s.spares (s.attemptParked l) l := by
  have ended : s.spares (s.attemptEnded l) l := spares_of (fun _ => rfl) rfl rfl
  rw [attemptParked_eq record]
  refine spares_trans ended (spares_setPaths (fun p mem => ?_) .parked)
  obtain ⟨x, ⟨place, -⟩, leg⟩ := (mem_groupPaths_iff s l p).mp mem
  rw [State.pathLeg, ended.place, place, ← leg]
  rfl

theorem spares_attemptOver (s : State) (l : LegId) : s.spares (s.attemptOver l) l := by
  rw [attemptOver_eq]
  refine ⟨fun _ => rfl, fun f => ?_, fun x suspended away => ?_⟩
  · refine (congrArg Face.pinned (face_idleFaces s l f)).trans ?_
    split <;> rfl
  · have off : (allFaces.filter (s.onGroup l)).contains x.job.face = false := by
      rw [← Bool.not_eq_true, List.contains_iff_mem, mem_filter_allFaces]
      exact fun on => away (faceLeg_of_onGroup on)
    refine (suspended_cancels _ _).trans ?_
    rw [suspended, Option.filter_some, off]
    rfl

theorem spares_reportWork (work : s.reportWork t) : s.spares t l := by
  unfold State.reportWork at work
  rw [work]
  exact spares_of (fun _ => rfl) rfl rfl

/-- What a failing attempt has kept when its failure is counted. -/
theorem spares_attemptReported (h : s.failsFrom u l) {faulty : PosSet} {r : Report} (rest : u.tableAtRest)
    (quiet : s.noSlotOn l .tallyThreshold) (leg : r.leg = some l) : s.spares (u.attemptReported l faulty r) l := by
  have first : s.spares (u.excluding l faulty) l := by
    rw [h.rest]
    exact spares_of (fun _ => rfl) rfl rfl
  have parked := spares_trans first (spares_attemptParked (h.recorded (faulty := faulty)))
  have reported := spares_trans parked (spares_reportWork (reportWork_parked h rest quiet leg))
  exact spares_trans reported (spares_attemptOver _ l)

/-! ### What follows -/

theorem spares_setLegState (s : State) (st : LegState) : s.spares (s.setLegState l st) l := by
  unfold State.setLegState
  rw [judge_footprint]
  exact spares_of (fun _ => rfl) rfl rfl

theorem spares_legPaths {ps : List PathId} (inside : ∀ p ∈ ps, p ∈ s.legPaths l) (same : s.spares t l) (st : PathState) :
    s.spares (t.setPaths ps st) l := by
  refine spares_trans same (spares_setPaths (fun p mem => ?_) st)
  rw [State.pathLeg, same.place]
  exact (mem_legPaths s l p).mp (inside p mem)

theorem spares_beginAttempt (s : State) (l : LegId) (wd : Nat) (g : PosSet) : s.spares (s.beginAttempt l wd g) l := by
  have inside (p : PathId) (mem : p ∈ s.pathsAt l g) : p ∈ s.legPaths l := List.mem_of_mem_filter mem
  have outside (p : PathId) (mem : p ∈ s.pathsOff l g) : p ∈ s.legPaths l := List.mem_of_mem_filter mem
  have leg : s.spares (s.attemptLeg l wd g) l := by
    rw [attemptLeg_footprint]
    exact spares_of (fun _ => rfl) rfl rfl
  have moved : s.spares (s.attemptMoved l wd g) l :=
    spares_legPaths outside (spares_legPaths inside leg .training) .benched
  have started : s.spares ((s.pathsAt l g).foldl (fun t p => t.startMonitors p (s.leg l).slipLimit) (s.attemptMoved l wd g)) l :=
    spares_trans moved (spares_foldl _ _ fun _ _ _ _ => spares_of (fun _ => rfl) rfl rfl)
  have settled := spares_foldl (step := fun s f => s.settleFace f) (l := l) (facesOfPaths (s.pathsAt l g)) _ fun f mem u before =>
    spares_settleFace (s := u) (by
      rw [(spares_trans started before).faceLeg]
      exact (mem_legPaths s l _).mp (inside _ ((mem_facesOfPaths _ f).mp mem)))
  have idle (fs : List FaceId) (st : TrainStatus) (u : State) : u.spares (fs.foldl (fun s f => s.setStatus f st) u) l :=
    spares_foldl fs u fun f _ v _ => spares_setStatus v l f st
  have rests : s.spares (s.attemptSettled l wd g) l := spares_trans started (spares_trans settled (idle _ _ _))
  rw [beginAttempt_eq]
  refine spares_trans rests ?_
  unfold State.announceFaces
  exact spares_trans (idle _ _ _) (spares_foldl _ _ fun _ _ _ _ => spares_of (fun _ => rfl) rfl rfl)

theorem spares_failedAs (s : State) (l : LegId) (c : FailCause) : s.spares (s.failedAs l c) l := by
  have parked : s.spares (s.parkLeg l) l := spares_legPaths (fun _ => id) (spares_refl s l) .parked
  have counted : (s.parkLeg l).spares ((s.parkLeg l).modLeg l (fun x => x.failing c)) l := spares_of (fun _ => rfl) rfl rfl
  exact spares_trans parked (spares_trans counted (spares_setLegState _ .failed))

end

end Sys2Proof.Machine

/-! What the tuning engine may do when its running job leaves and no SWEEP is pending (spec/05 R85, R91). -/

namespace Sys2Proof.Machine

/-- What has become of the pending job of a face: it is pending still, or it was taken, and it runs or completed PINNED. -/
def State.servedFrom (s t : State) (f : FaceId) : Prop :=
  t.queued f = s.queued f
  ∨ (t.queued f = none ∧ ∃ j : Job, s.queued f = some j ∧ setHas s.engine.mask f.val = false
    ∧ (t.engine.running = some ⟨j, 0, 0, false⟩ ∨ (j.kind ≠ .margin ∧ (s.face f).pinned = true)))

/-- What the choice of an engine leaves that has no suspended MARGIN. -/
structure State.choiceOf (s t : State) : Prop where
  rest : t = { s with faces := t.faces, engine := t.engine }
  suspended : t.engine.suspended = none
  held : t.engine.held = s.engine.held
  mask : t.engine.mask = s.engine.mask
  face : ∀ f : FaceId, s.path (facePath f) ≠ .passing → t.face f = s.face f
  pinned : ∀ f : FaceId, (t.face f).pinned = (s.face f).pinned
  served : ∀ f : FaceId, s.servedFrom t f

section
variable {s t u : State}

theorem choiceOf_refl (suspended : s.engine.suspended = none) : s.choiceOf s :=
  ⟨rfl, suspended, rfl, rfl, fun _ _ => rfl, fun _ => rfl, fun _ => .inl rfl⟩

theorem choiceOf_trans (h : s.choiceOf t) (idle : t.engine.running = none) (h' : t.choiceOf u) : s.choiceOf u := by
  have path (p : PathId) : t.path p = s.path p := by rw [h.rest]; rfl
  refine ⟨?_, h'.suspended, h'.held.trans h.held, h'.mask.trans h.mask, fun f away => ?_, fun f => ?_, fun f => ?_⟩
  · rw [h'.rest, h.rest]
  · rw [h'.face f (by rw [path]; exact away), h.face f away]
  · rw [h'.pinned, h.pinned]
  · rcases h.served f with same | ⟨gone, j, pending, open_, taken⟩
    · rcases h'.served f with same' | ⟨gone', j, pending, open_, taken⟩
      · exact .inl (same'.trans same)
      · rw [same] at pending
        rw [h.mask] at open_
        rw [h.pinned] at taken
        exact .inr ⟨gone', j, pending, open_, taken⟩
    · have stays : u.queued f = none := by
        rcases h'.served f with same' | ⟨gone', -⟩
        · exact same'.trans gone
        · exact gone'
      refine .inr ⟨stays, j, pending, open_, taken.elim (fun runs => ?_) .inr⟩
      rw [idle] at runs
      cases runs

/-! ### A job that is taken -/

/-- The job that is next is the pending one of an unmasked face. -/
theorem nextJob_pending {e : Engine} {j : Job} (next : e.nextJob = some j) :
    ∃ f : FaceId, e.queue[f] = some j ∧ setHas e.mask f.val = false := by
  have offered (k : JobKind) (offers : e.offered k = some j) : ∃ f : FaceId, e.queue[f] = some j ∧ setHas e.mask f.val = false := by
    unfold Engine.offered at offers
    obtain ⟨f, found, queued⟩ := Option.bind_eq_some_iff.mp offers
    obtain ⟨-, -, -, open_⟩ := (pendingKind_iff e k f).mp (List.find?_some found)
    exact ⟨f, queued, open_⟩
  rw [nextJob_offered] at next
  rcases Option.or_eq_some_iff.mp next with sweep | ⟨-, other⟩
  · exact offered .sweep sweep
  · rcases Option.or_eq_some_iff.mp other with trim | ⟨-, margin⟩
    · exact offered .trim trim
    · exact offered .margin margin

theorem queued_dequeue (s : State) (j : Job) (f : FaceId) :
    (s.modEngine (fun e => e.dequeue j)).queued f = if f = j.face then none else s.queued f := by
  have queue : (s.engine.dequeue j).queue = modAt s.engine.queue j.face (fun _ => none) := by
    unfold Engine.dequeue Engine.movePointer
    cases j.kind <;> rfl
  have slot : (s.modEngine (fun e => e.dequeue j)).queued f = (s.engine.dequeue j).queue[f] := rfl
  rw [slot, queue]
  by_cases same : f = j.face
  · rw [if_pos same, same]
    exact modAt_same _ _ _
  · rw [if_neg same]
    exact modAt_other _ _ _ _ same

theorem dequeue_kept (e : Engine) (j : Job) : (e.dequeue j).suspended = e.suspended ∧ (e.dequeue j).held = e.held
    ∧ (e.dequeue j).mask = e.mask ∧ (e.dequeue j).running = e.running := by
  unfold Engine.dequeue Engine.movePointer
  cases j.kind <;> exact ⟨rfl, rfl, rfl, rfl⟩

section
variable {j : Job} (suspended : s.engine.suspended = none) (pending : s.queued j.face = some j)
  (open_ : setHas s.engine.mask j.face.val = false)
include suspended pending open_

/-- The job that is taken starts. -/
theorem choiceOf_starts : s.choiceOf ((s.modEngine (fun e => e.dequeue j)).modEngine (fun e => e.start j)) := by
  obtain ⟨suspended', held, mask, -⟩ := dequeue_kept s.engine j
  refine ⟨rfl, suspended'.trans suspended, held, mask, fun _ _ => rfl, fun _ => rfl, fun f => ?_⟩
  have queued : ((s.modEngine (fun e => e.dequeue j)).modEngine (fun e => e.start j)).queued f = if f = j.face then none else s.queued f :=
    queued_dequeue s j f
  unfold State.servedFrom
  rw [queued]
  by_cases own : f = j.face
  · subst own
    rw [if_pos rfl]
    exact .inr ⟨rfl, j, pending, open_, .inl rfl⟩
  · rw [if_neg own]
    exact .inl rfl

/-- The job that is taken completes PINNED (R85). -/
theorem choiceOf_pinned (kind : j.kind ≠ .margin) (pinned : (s.face j.face).pinned = true) :
    s.choiceOf ((s.modEngine (fun e => e.dequeue j)).pinnedDone j.face) := by
  obtain ⟨suspended', held, mask, -⟩ := dequeue_kept s.engine j
  have queued (f : FaceId) := queued_dequeue s j f
  have path (p : PathId) : (s.modEngine (fun e => e.dequeue j)).path p = s.path p := rfl
  have served (t : State) (same : t.engine = s.engine.dequeue j) (f : FaceId) : s.servedFrom t f := by
    have slot : t.queued f = if f = j.face then none else s.queued f := by
      rw [← queued]
      unfold State.queued
      rw [same]
      rfl
    unfold State.servedFrom
    rw [slot]
    by_cases own : f = j.face
    · subst own
      rw [if_pos rfl]
      exact .inr ⟨rfl, j, pending, open_, .inr ⟨kind, pinned⟩⟩
    · rw [if_neg own]
      exact .inl rfl
  unfold State.pinnedDone
  split
  · rename_i settles
    obtain ⟨-, -, passing⟩ := (settlesOnCompletion_iff _ _).mp settles
    rw [path] at passing
    refine ⟨rfl, suspended'.trans suspended, held, mask, fun f away => ?_, fun f => ?_, served _ rfl⟩
    · refine (State.face_modFace_eq _ _ _ _).trans (if_neg fun same => away ?_)
      rw [same]
      exact passing
    · rw [State.face_modFace_eq]
      split
      · rename_i own
        rw [own]
        rfl
      · rfl
  · exact ⟨rfl, suspended'.trans suspended, held, mask, fun _ _ => rfl, fun _ => rfl, served _ rfl⟩

end

/-- An engine that is free, with nothing suspended and no SWEEP pending unmasked, each job filed under its face (R91). -/
structure State.freeToServe (s : State) : Prop where
  running : s.engine.running = none
  suspended : s.engine.suspended = none
  quiet : s.engine.noneUrgent
  filed : s.jobsFiled

theorem freeToServe_taken (free : s.freeToServe) (j : Job) : ((s.modEngine (fun e => e.dequeue j)).pinnedDone j.face).freeToServe := by
  obtain ⟨suspended, -, mask, running⟩ := dequeue_kept s.engine j
  have engine : ((s.modEngine (fun e => e.dequeue j)).pinnedDone j.face).engine = s.engine.dequeue j := engine_pinnedDone _ _
  have within := within_after s.engine j
  refine ⟨by rw [engine, running]; exact free.running, by rw [engine, suspended]; exact free.suspended, ?_, fun f k pending => ?_⟩
  · rw [engine]
    exact Engine.noneUrgent_within within free.quiet
  · unfold State.queued at pending
    rw [engine] at pending
    exact free.filed f k (within.queue f k pending)

theorem choiceOf_chooseWithin (n : Nat) {s : State} (free : s.freeToServe) : s.choiceOf (s.chooseWithin n) := by
  induction n generalizing s with
  | zero => exact choiceOf_refl free.suspended
  | succ n ih =>
    have resumes : s.engine.resumes = none := by
      unfold Engine.resumes
      rw [free.suspended, ite_self]
    cases next : s.engine.nextJob with
    | none =>
      have stays : s.chooseWithin (n + 1) = s := by simp only [State.chooseWithin, free.running, resumes, next]
      rw [stays]
      exact choiceOf_refl free.suspended
    | some j =>
      have step : s.chooseWithin (n + 1) = if s.pinnedAtTaking j = true
          then ((s.modEngine (fun e => e.dequeue j)).completePinned j).chooseWithin n
          else (s.modEngine (fun e => e.dequeue j)).modEngine (fun e => e.start j) := by
        simp only [State.chooseWithin, free.running, resumes, next]
      obtain ⟨f, pending, open_⟩ := nextJob_pending next
      obtain rfl := free.filed f j pending
      have plain : ¬j.isLegSweep = true := by
        unfold Job.isLegSweep
        rw [beq_false_of_ne (nextJob_notSweep free.quiet next)]
        exact Bool.false_ne_true
      have unsuspended : (s.modEngine (fun e => e.dequeue j)).engine.suspended = none :=
        (dequeue_kept s.engine j).1.trans free.suspended
      rw [step]
      split
      · rename_i pinned
        unfold State.pinnedAtTaking at pinned
        rw [Bool.and_eq_true, bne_iff_ne] at pinned
        rw [completePinned_eq unsuspended, if_neg plain]
        have after := freeToServe_taken free j
        exact choiceOf_trans (choiceOf_pinned free.suspended pending open_ pinned.1 pinned.2) after.running (ih after)
      · exact choiceOf_starts free.suspended pending open_

end

end Sys2Proof.Machine

/-! What the tuning engine goes on with when the SWEEP that has failed an attempt leaves (spec/05 R85, R91, R95 to R98). -/

namespace Sys2Proof.Machine

/-! ### The running slot empties -/

/-- The running slot is empty, and the results that waited for that have been handed over (R97, R98 step 6). -/
def State.slotEmptied (s : State) : State :=
  { s with
    engine := { s.engine with running := none, held := [] }
    resultOwed := owedAfter s.resultOwed s.engine.held
    notices := (s.doneNotices s.engine.held).foldl NoticeQueue.take s.notices }

theorem leaveSlot_emptied (s : State) : s.leaveSlot = s.slotEmptied.choose := by
  have hands : (s.modEngine (fun e => { e with running := none })).handHeld =
      (s.modEngine (fun e => { e with running := none, held := [] })).handAll s.engine.held := rfl
  rw [handAll_eq] at hands
  exact congrArg State.choose hands

/-- The pending job of a face once the group of leg `l` is cancelled. -/
def State.leftPending (s : State) (l : LegId) (f : FaceId) : Option Job := if s.onGroup l f = true then none else s.queued f

/-- The suspended MARGIN that resumes once the group of leg `l` is cancelled. -/
def State.leftSuspended (s : State) (l : LegId) (x : SuspendedJob) : Prop :=
  s.engine.suspended = some x ∧ s.onGroup l x.job.face = false

/-- The engine has gone on from the running job on face `f`, once an attempt of leg `l` has ended (R91, R95 to R97). -/
def State.wentOn (s : State) (l : LegId) (f : FaceId) (t : State) : Prop :=
  t.engine.suspended = none ∧ t.engine.held = []
  ∧ (∀ g : FaceId, setHas t.resultOwed g.val = (s.owesAfter l (s.onGroup l) g && g != f))
  ∧ (∀ x : SuspendedJob, s.leftSuspended l x →
    (∀ g : FaceId, t.queued g = s.leftPending l g)
    ∧ ∃ n : Nat, t.engine.running = some ⟨x.job, n, 0, false⟩ ∧ (s.onLeg l x.job.face = false → n = x.stepsDone))
  ∧ ((∀ x : SuspendedJob, ¬s.leftSuspended l x) → ∀ g : FaceId,
    t.queued g = s.leftPending l g
    ∨ (t.queued g = none ∧ ∃ j : Job, s.leftPending l g = some j ∧ setHas s.engine.mask g.val = false
      ∧ (t.engine.running = some ⟨j, 0, 0, false⟩ ∨ (j.kind ≠ .margin ∧ (s.face g).pinned = true))))

/-- What an attempt's end has left of the engine, of the results owed and of the leg, before the running job on face `f` leaves. -/
structure State.endedUnder (s y : State) (l : LegId) (f : FaceId) : Prop where
  engine : ((allFaces.filter (s.onGroup l)).foldl Engine.cancel s.engine).sameBut y.engine
  owed : ∀ g : FaceId, setHas y.resultOwed g.val = (s.owesAfter l (s.onGroup l) g && g != f)
  spares : s.spares y l
  quiet : ∀ p : PathId, s.pathLeg p = some l → y.path p ≠ .passing

section
variable {s y : State} {l : LegId} {f : FaceId} {run : RunningJob}

section
variable (ended : s.endedUnder y l f)
include ended

/-- What waits for the stop is the face's pending job. -/
theorem held_endedUnder (running : s.engine.running = some run) (own : run.job.face = f) (empty : s.engine.held = []) :
    ∀ j ∈ y.engine.held, s.queued f = some j := by
  obtain ⟨-, -, -, held, -⟩ := cancelled_of_engine s (s.onGroup l) ended.engine
  rw [empty, running, List.nil_append] at held
  dsimp only at held
  rw [own] at held
  intro j mem
  rw [held] at mem
  split at mem
  · exact Option.mem_toList.mp mem
  · exact absurd mem List.not_mem_nil

theorem owed_slotEmptied (running : s.engine.running = some run) (own : run.job.face = f) (empty : s.engine.held = [])
    (filed : s.jobsFiled) (g : FaceId) :
    setHas y.slotEmptied.resultOwed g.val = (s.owesAfter l (s.onGroup l) g && g != f) := by
  have held := held_endedUnder ended running own empty
  refine (setHas_owedAfter _ _ g).trans ?_
  rw [ended.owed]
  by_cases same : g = f
  · subst same
    simp
  · have none_ : y.engine.held.any (fun j => j.kind == .sweep && j.requester == .leg && j.face == g) = false := by
      refine List.any_eq_false.mpr fun j mem answers => same ?_
      have face := filed f j (held j mem)
      rw [Bool.and_eq_true, beq_iff_eq] at answers
      exact answers.2.symm.trans face
    rw [none_, Bool.not_false, Bool.and_true]

theorem queued_endedUnder (g : FaceId) : y.queued g = s.leftPending l g :=
  (cancelled_of_engine s (s.onGroup l) ended.engine).1 g

theorem within_endedUnder : s.engine.within y.engine :=
  Engine.within_trans (Engine.within_cancels _ _) (Engine.within_sameBut ended.engine)

/-- Nothing is pending that the engine would rather take than the suspended MARGIN. -/
theorem quiet_endedUnder (last : s.lastJob) : y.engine.noneUrgent :=
  Engine.noneUrgent_within (within_endedUnder ended) ((urgentPending_iff _).mp (urgentPending_last last))

theorem suspended_endedUnder :
    y.engine.suspended.map (·.job) = (s.engine.suspended.map (·.job)).filter (fun j => !s.onGroup l j.face) := by
  obtain ⟨-, -, suspended, -⟩ := cancelled_of_engine s (s.onGroup l) ended.engine
  exact suspended

/-! ### A suspended MARGIN resumes -/

theorem resumes_endedUnder {x : SuspendedJob} (left : s.leftSuspended l x) :
    ∃ z : SuspendedJob, y.engine.suspended = some z ∧ z.job = x.job ∧ (s.onLeg l x.job.face = false → z = x) := by
  obtain ⟨suspended, off⟩ := left
  have job := suspended_endedUnder ended
  rw [suspended, Option.map_some, Option.filter_some, off] at job
  obtain ⟨z, same, own⟩ := Option.map_eq_some_iff.mp job
  refine ⟨z, same, own, fun away => ?_⟩
  have kept := ended.spares.job x suspended fun home => ?_
  · exact Option.some.inj (same.symm.trans kept)
  · unfold State.onLeg at away
    rw [home, beq_self_eq_true] at away
    exact Bool.noConfusion away

theorem absent_endedUnder (none_ : ∀ x : SuspendedJob, ¬s.leftSuspended l x) : y.engine.suspended = none := by
  have job := suspended_endedUnder ended
  cases suspended : s.engine.suspended with
  | none =>
    rw [suspended] at job
    exact Option.map_eq_none_iff.mp job
  | some x =>
    have on : s.onGroup l x.job.face = true := by
      by_contra off
      exact none_ x ⟨suspended, Bool.eq_false_iff.mpr off⟩
    rw [suspended, Option.map_some, Option.filter_some, on] at job
    exact Option.map_eq_none_iff.mp job

theorem leaveSlot_resumes {z : SuspendedJob} (last : s.lastJob) (suspended : y.engine.suspended = some z) :
    y.leaveSlot = y.slotEmptied.modEngine (fun e => e.resume z) := by
  have quiet : y.slotEmptied.engine.noneUrgent := quiet_endedUnder (y := y) ended last
  rw [leaveSlot_emptied]
  exact choose_resumes (s := y.slotEmptied) rfl suspended ((urgentPending_iff _).mpr quiet)

theorem freeToServe_emptied (last : s.lastJob) (filed : s.jobsFiled) (suspended : y.engine.suspended = none) :
    y.slotEmptied.freeToServe := by
  have quiet : y.slotEmptied.engine.noneUrgent := quiet_endedUnder (y := y) ended last
  refine ⟨rfl, suspended, quiet, fun g j pending => ?_⟩
  have within := within_endedUnder ended
  exact filed g j (within.queue g j pending)

end

/-! ### The engine goes on -/

/-- The leaving of the slot touches nothing that bears on a leg whose paths pass no traffic. -/
theorem legStays_choiceOf {t : State} (quiet : ∀ p : PathId, y.pathLeg p = some l → y.path p ≠ .passing)
    (choice : y.slotEmptied.choiceOf t) : y.legStays t l ∧ t.errors = y.errors ∧ t.inFlight = y.inFlight := by
  have rest := choice.rest
  have face (g : FaceId) (own : y.faceLeg g = some l) : t.face g = y.face g := choice.face g (quiet _ own)
  rw [rest]
  refine ⟨⟨rfl, rfl, rfl, rfl, fun g own => ?_⟩, rfl, rfl⟩
  exact (congrArg (fun u => State.face u g) rest).symm.trans (face g own)

/-- When the slot empties after an attempt's end, the engine goes on and the leg stays as it is. -/
theorem leaveSlot_endedUnder (ended : s.endedUnder y l f) (running : s.engine.running = some run) (own : run.job.face = f)
    (last : s.lastJob) (filed : s.jobsFiled) :
    y.legStays y.leaveSlot l ∧ y.leaveSlot.errors = y.errors ∧ y.leaveSlot.inFlight = y.inFlight ∧ s.wentOn l f y.leaveSlot := by
  have owed := owed_slotEmptied ended running own last.1 filed
  have queued := queued_endedUnder ended
  by_cases resumes : ∃ x : SuspendedJob, s.leftSuspended l x
  · obtain ⟨x, left⟩ := resumes
    obtain ⟨z, suspended, job, steps⟩ := resumes_endedUnder ended left
    rw [leaveSlot_resumes ended last suspended]
    refine ⟨⟨rfl, rfl, rfl, rfl, fun _ _ => rfl⟩, rfl, rfl, rfl, rfl, owed, fun x' left' => ?_, fun none_ => absurd left (none_ x)⟩
    obtain rfl : x = x' := Option.some.inj (left.1.symm.trans left'.1)
    refine ⟨queued, z.stepsDone, ?_, fun away => ?_⟩
    · rw [← job]
      rfl
    · rw [steps away]
  · push Not at resumes
    have suspended := absent_endedUnder ended resumes
    have choice := choiceOf_chooseWithin 17 (freeToServe_emptied ended last filed suspended)
    have leaves : y.leaveSlot = y.slotEmptied.chooseWithin 17 := leaveSlot_emptied y
    rw [leaves]
    generalize y.slotEmptied.chooseWithin 17 = t at *
    have rest := choice.rest
    have quiet (p : PathId) (mine : y.pathLeg p = some l) : y.path p ≠ .passing := by
      refine ended.quiet p ?_
      rw [State.pathLeg, ← ended.spares.place]
      exact mine
    obtain ⟨stays, errors, inFlight⟩ := legStays_choiceOf quiet choice
    refine ⟨stays, errors, inFlight, choice.suspended, choice.held, fun g => ?_, fun x left => absurd left (resumes x), fun _ g => ?_⟩
    · rw [rest]
      exact owed g
    · have mask : y.engine.mask = s.engine.mask := (within_endedUnder ended).mask
      have served := choice.served g
      have slot : y.slotEmptied.queued g = s.leftPending l g := queued g
      have face : (y.slotEmptied.face g).pinned = (s.face g).pinned := ended.spares.pinned g
      have masks : y.slotEmptied.engine.mask = s.engine.mask := mask
      unfold State.servedFrom at served
      rwa [slot, face, masks] at served

end

end Sys2Proof.Machine

/-! A SWEEP that finds no setting fails the attempt that asked for it (spec/03 R57, spec/05 R98). -/

namespace Sys2Proof.Machine

section
variable {s w y : State} {l : LegId} {ex : PosSet} {sent : List SentWord}

/-! ### The leg controller's next step, for the engine that goes on -/

/-- No path of the leg passes traffic after a failed attempt. -/
theorem nextOf_quiet (lost : s.attemptLost w l ex sent) (rest : w.tableAtRest) (quiet : s.noSlotOn l .tallyThreshold)
    (next : w.nextOf l y) (p : PathId) (own : s.pathLeg p = some l) : y.path p ≠ .passing := by
  cases next with
  | begins wd g ns =>
    obtain ⟨-, -, -, -, -, -, -, -, -, paths⟩ := attemptBegun_beginAttempt lost.like wd g
    unfold State.pathLeg at own
    obtain ⟨q, place, mine⟩ := Option.map_eq_some_iff.mp own
    have path := paths p q place mine
    show (w.beginAttempt l wd g).path p ≠ .passing
    split at path
    · rw [path.1]
      decide
    · rw [path.1]
      decide
  | fails c ns =>
    have after : (w.parkLeg l).restLike (w.failedAs l c) := restLike_trans (restLike_modLeg _ l _) (restLike_setLegState .failed)
    have parked := (legParked_of_parkLike lost.park after p own).1
    show (w.enterFailed l c).path p ≠ .passing
    rw [enterFailed_lost lost rest quiet, told_footprint]
    show (w.failedAs l c).path p ≠ .passing
    rw [parked]
    decide

theorem nextOf_spares (lost : s.attemptLost w l ex sent) (rest : w.tableAtRest) (quiet : s.noSlotOn l .tallyThreshold)
    (next : w.nextOf l y) : w.spares y l := by
  cases next with
  | begins wd g ns => exact spares_trans (spares_beginAttempt w l wd g) (spares_of (fun _ => rfl) rfl rfl)
  | fails c ns =>
    rw [enterFailed_lost lost rest quiet]
    exact spares_trans (spares_trans (spares_failedAs w l c) (spares_reportWork (reportWork_told _ _)))
      (spares_of (fun _ => rfl) rfl rfl)

end

/-! ### The result -/

section
variable {s : State} {l : LegId} {f : FaceId} {q : Place} {r : TrainRecord}

/-- The record once a SWEEP's result has come (R57). -/
def TrainRecord.sweepHeard (r : TrainRecord) (f : FaceId) : TrainRecord :=
  { r with sweepOutstanding := setDrop r.sweepOutstanding f.val }

theorem takeSweepResult_fails (free : setHas s.resultOwed f.val = false) (leg : s.faceLeg f = some l)
    (record : (s.leg l).record = some r) (asked : setHas r.sweepOutstanding f.val = true) :
    s.takeSweepResult f .noConverge = (s.recording l (r.sweepHeard f)).laneFault l f (some .tuneNoConverge) := by
  have flag : s.hasFlag l f TrainRecord.sweepOutstanding = true := by
    unfold State.hasFlag
    rw [record]
    exact asked
  have first : s.modRecord l (fun r => { r with sweepOutstanding := setDrop r.sweepOutstanding f.val }) =
      s.recording l (r.sweepHeard f) := modRecord_eq record _
  rw [← first]
  unfold State.takeSweepResult
  rw [free, leg]
  simp only [flag, Bool.false_eq_true, if_false, if_true]

theorem failsFrom_recording {rec : TrainRecord} (record : (s.leg l).record = some r) : s.failsFrom (s.recording l rec) l where
  rest := rfl
  leg := by rw [leg_recording]
  legs k away := State.leg_modLeg_other s l k _ away
  began := by rw [record]; rfl
  record := by rw [leg_recording]; rfl
  monitor _ _ := rfl

theorem outstanding_heard (record : (s.leg l).record = some r) (g : FaceId) :
    (s.recording l (r.sweepHeard f)).outstanding l g = (s.outstanding l g && g != f) := by
  have group : (s.recording l (r.sweepHeard f)).onGroup l g = s.onGroup l g := by
    unfold State.onGroup
    rw [leg_recording]
    rfl
  have face : (!decide (g.val = f.val)) = (g != f) := by
    rw [bne, beq_eq_decide]
    simp only [Fin.ext_iff]
  unfold State.outstanding
  rw [group, leg_recording, record, Option.any_some, Option.any_some, Bool.and_assoc, ← face]
  exact congrArg (s.onGroup l g && ·) (setHas_setDrop _ f.isLt g.val)

/-- The result that is taken is not owed, and no other one's answer is touched (R47). -/
theorem owed_heard {owed : Bool} {g : FaceId} {handed : Bool} (free : setHas s.resultOwed f.val = false)
    (eq : owed = ((setHas s.resultOwed g.val || (s.outstanding l g && g != f)) && !handed)) :
    owed = ((setHas s.resultOwed g.val || s.outstanding l g) && !handed && g != f) := by
  rw [eq]
  by_cases same : g = f
  · subst same
    simp [free]
  · have away : (g != f) = true := bne_iff_ne.mpr same
    rw [away, Bool.and_true, Bool.and_true]

theorem noConverge_step {run : RunningJob} {m : Fin 64} (inside : s.inExchange f q r) (running : s.engine.running = some run)
    (kind : run.job.kind = .sweep) (own : run.job.face = f) (going : run.cancelling = false) :
    exec (.jobCompletion ⟨none, m⟩) s =
      .next (s.legEvent q.leg (.train .first) (fun s => s.takeSweepResult f .noConverge)).leaveSlot := by
  obtain ⟨training, place, -⟩ := inside
  have step := sweep_done (found := ⟨none, m⟩) running going kind rfl
  have stays : s.settlesOnCompletion f = false := settles_false fun settles => by
    rw [training] at settles
    cases settles.2.2
  rw [own] at step
  dsimp only at step
  rwa [deliverRx_none stays, sweepResult_leg (faceLeg_of_place place)] at step

/-- A SWEEP that finds no setting, and the engine's next job (R57, R98). -/
theorem noConverge_fails {run : RunningJob} {m : Fin 64} (rest : s.tableAtRest) (quiet : s.noSlotOn q.leg .tallyThreshold)
    (inside : s.inExchange f q r) (running : s.engine.running = some run) (kind : run.job.kind = .sweep)
    (own : run.job.face = f) (going : run.cancelling = false) (last : s.lastJob) (filed : s.jobsFiled)
    (free : setHas s.resultOwed f.val = false) (asked : setHas r.sweepOutstanding f.val = true) :
    s.failsAttempt (.jobCompletion ⟨none, m⟩) q.leg ((s.leg q.leg).excluded ||| setAdd 0#4 q.pos.val)
      (s.told [s.errorAtFace q.leg .tuneNoConverge f none]) (s.wentOn q.leg f) := by
  have step := noConverge_step (m := m) inside running kind own going
  obtain ⟨-, place, -, record, -⟩ := inside
  have home := faceLeg_of_place place
  have h := failsFrom_recording (rec := r.sweepHeard f) record
  have outstanding := outstanding_heard (f := f) record
  have taken := takeSweepResult_fails free home record asked
  rw [laneFault_eq (u := s.recording q.leg (r.sweepHeard f)) place] at taken
  have table : (s.recording q.leg (r.sweepHeard f)).tableAtRest := rest
  have words : (s.recording q.leg (r.sweepHeard f)).sent = s.sent := rfl
  have flight : (s.recording q.leg (r.sweepHeard f)).inFlight = s.inFlight := rfl
  generalize s.recording q.leg (r.sweepHeard f) = u at *
  have report : (s.errorAtFace q.leg .tuneNoConverge f none).leg = some q.leg := rfl
  have lost := attemptReported_lost (faulty := setAdd 0#4 q.pos.val) h table quiet report
  have over_ := owed_attemptOver h (reportWork_parked (faulty := setAdd 0#4 q.pos.val) h table quiet report)
  have spares := spares_attemptReported (faulty := setAdd 0#4 q.pos.val) h table quiet report
  have atRest := attemptReported_rest (faulty := setAdd 0#4 q.pos.val) h table quiet report
  have reports := attemptReported_reports (faulty := setAdd 0#4 q.pos.val) h table quiet report flight
  have fault := failAttempt_atFace (c := .lane) (faulty := setAdd 0#4 q.pos.val) h home .tuneNoConverge none
  rw [words] at lost
  refine failsAttempt_legEvent_then (post := State.leaveSlot) lost (by decide) atRest quiet reports (clock_told s _) step
    (taken.trans fault) fun y next => leaveSlot_endedUnder ?_ running own last filed
  obtain ⟨engine, owed⟩ := nextOf_fields lost atRest quiet next
  refine ⟨Engine.sameBut_trans lost.engine engine, fun g => ?_, spares_trans spares (nextOf_spares lost atRest quiet next),
    nextOf_quiet lost atRest quiet next⟩
  have heard := over_ g
  rw [outstanding] at heard
  rw [owed]
  exact owed_heard free heard

end

end Sys2Proof.Machine

/-! The failures of an attempt that the leg controller counts (spec/02 R33, spec/03 R51 to R53, R57, R61 to R66). -/

namespace Sys2Proof.Machine

section
variable {s : State} {l : LegId} {f : FaceId} {q : Place} {r : TrainRecord}

/-- A face of a phase with its position, as the statements spell it. -/
theorem onPhase_iff (s : State) (l : LegId) (c : Bool) (g : FaceId) (p : Pos) :
    (isCFace g = c ∧ ∃ x : Place, s.inGroup (facePath g) x ∧ x.leg = l ∧ x.pos = p) ↔
      s.onPhase l c g = true ∧ s.pathPos (facePath g) = some p := by
  have phase : s.onPhase l c g = true ↔ s.onGroup l g = true ∧ isCFace g = c := by
    unfold State.onPhase
    rw [Bool.and_eq_true, beq_iff_eq]
  have position (x : Place) (place : s.place (facePath g) = some x) : s.pathPos (facePath g) = some x.pos := by
    unfold State.pathPos
    rw [place]
    rfl
  rw [phase, onGroup_iff]
  constructor
  · rintro ⟨kind, x, group, leg, rfl⟩
    exact ⟨⟨⟨x, group, leg⟩, kind⟩, position x group.1⟩
  · rintro ⟨⟨⟨x, group, leg⟩, kind⟩, here⟩
    exact ⟨kind, x, group, leg, Option.some.inj ((position x group.1).symm.trans here)⟩

/-- A set of positions that the statements describe is the set of the late ones (R64). -/
theorem lateSet_eq {late : PosSet} {ph : Phase} (described : ∀ p : Pos, setHas late p.val = true ↔
      (∃ g : FaceId, (isCFace g = decide (ph = .c) ∧ ∃ x : Place, s.inGroup (facePath g) x ∧ x.leg = l ∧ x.pos = p)
        ∧ (s.face g).status ≠ .ready)
      ∧ ∃ (g : FaceId) (p' : Pos),
        (isCFace g = decide (ph = .c) ∧ ∃ x : Place, s.inGroup (facePath g) x ∧ x.leg = l ∧ x.pos = p')
        ∧ (s.face g).status = .ready) : late = s.lateSet l ph := by
  refine posSet_ext fun p => (described p).trans ?_
  rw [setHas_lateSet]
  simp only [onPhase_iff]
  refine and_congr (exists_congr fun g => and_assoc) (exists_congr fun g => ⟨?_, ?_⟩)
  · rintro ⟨p', ⟨on, -⟩, ready⟩
    exact ⟨on, ready⟩
  · rintro ⟨on, ready⟩
    obtain ⟨x, group, leg⟩ := (onGroup_iff s l g).mp (Bool.and_eq_true_iff.mp on).1
    have here := ((onPhase_iff s l (isCFace g) g x.pos).mp ⟨rfl, x, group, leg, rfl⟩).2
    exact ⟨x.pos, ⟨on, here⟩, ready⟩

/-! ### No rate in common (R53) -/

section
variable {width : Fin 3} {rates : RateSet} {attempt : Fin 8} (inside : s.inExchange f q r)
  (fresh : setHas r.partnerAnnounced f.val = false) (current : attempt.val = 0 ∨ attempt.val = r.attempt)
include inside fresh current

theorem judgeAnnounce_noRate_c (c : isCFace f = true)
    (others : ∀ (p : PathId) (x : Place), s.inGroup p x → x.leg = q.leg → p ≠ facePath f →
      setHas r.partnerAnnounced (cFace p).val = true)
    (empty : ∀ k : Nat, k < 3 → ¬s.commonRate q.leg r (facePath f) rates k) :
    s.judgeAnnounce q.leg r f ⟨q.pos, 2 ^ width.val, rates, attempt.val⟩ = .noRate := by
  obtain ⟨-, place, -, -, group⟩ := inside
  have here : s.pathPos (facePath f) = some q.pos := by
    unfold State.pathPos
    rw [place]
    rfl
  have member : facePath f ∈ s.groupPaths q.leg := (mem_groupPaths_iff s q.leg _).mpr ⟨q, ⟨place, group⟩, rfl⟩
  have common : highestRate (s.commonRates q.leg r (facePath f) rates) = none :=
    highestRate_none fun k small has => empty k small ((commonRates_iff member k).mp has)
  have judged := judgeAnnounce_c (s := s) (l := q.leg) (a := ⟨q.pos, 2 ^ width.val, rates, attempt.val⟩) current fresh here c
  rw [if_pos ((lastAnnounce_iff s q.leg r _).mpr others)] at judged
  dsimp only at judged
  rwa [common] at judged

theorem judgeAnnounce_noRate_s (c : isCFace f = false) {rate : Rate} (agreed : (s.leg q.leg).agreedRate = some rate)
    (missing : setHas rates (rateIndex rate) = false) :
    s.judgeAnnounce q.leg r f ⟨q.pos, 2 ^ width.val, rates, attempt.val⟩ = .noRate := by
  obtain ⟨-, place, -⟩ := inside
  have here : s.pathPos (facePath f) = some q.pos := by
    unfold State.pathPos
    rw [place]
    rfl
  have judged := judgeAnnounce_s (s := s) (l := q.leg) (a := ⟨q.pos, 2 ^ width.val, rates, attempt.val⟩) current fresh here c agreed
  rwa [if_neg (Bool.eq_false_iff.mp missing)] at judged

end

end

/-- Settles O55, failure by failure: what each leaves when it is counted, and the leg controller's next step from there. -/
theorem attemptFailuresEndTheAttempt : Obligations.AttemptFailuresEndTheAttempt := by
  intro s l r rest quiet training record
  refine ⟨fun limit late described => ?timeout, fun f q inside own => ?exchange⟩
  case timeout =>
    rw [lateSet_eq described]
    exact timeOut_fails rest quiet training record limit
  case exchange =>
    subst own
    refine ⟨fun again => abort_fails rest quiet inside again, ?announce, ?sweep,
      fun empty present still => signalLost_fails inside rest quiet empty present still,
      fun empty present locked => lockLost_fails inside rest quiet empty present locked, ?delivered⟩
    case announce =>
      intro pos width rates attempt live fresh current
      refine ⟨fun other => mismatch_fails rest quiet inside live fresh current other, fun here c others empty => ?_,
        fun here c rate agreed missing => ?_⟩
      · subst here
        exact noRate_fails rest quiet inside live (judgeAnnounce_noRate_c inside fresh current c others empty)
      · subst here
        exact noRate_fails rest quiet inside live (judgeAnnounce_noRate_s inside fresh current c agreed missing)
    case sweep =>
      intro run m running kind own going last filed free asked
      exact noConverge_fails rest quiet inside running kind own going last filed free asked
    case delivered =>
      intro raised queue flight next face leg
      exact ⟨fun kind still => signalLost_delivered inside rest quiet flight next face leg kind still,
        fun kind => lockLost_delivered inside rest quiet flight next face leg kind⟩

end Sys2Proof.Machine
